-- ==== Sys2Proof/Word.lean ====
section
/-! DEFINITION. The byte of the link and the table of fixed length: the plain data the model is written over. -/
namespace Sys2Proof

/-- A byte of the link (chapter 11). -/
abbrev Byte := BitVec 8

/-- A table of exactly `n` records, such as the forty-eight quantities or the six gauges: a list together with
its length. -/
structure Table (n : Nat) (α : Type) where
  items : List α
  size : items.length = n
  deriving DecidableEq, Repr

namespace Table

variable {n : Nat} {α : Type}

/-- The record at an index. -/
def get (t : Table n α) (i : Fin n) : α := t.items[i.val]'(by have := t.size; omega)

/-- The table with one record replaced. -/
def set (t : Table n α) (i : Fin n) (x : α) : Table n α := ⟨t.items.set i.val x, by simp [t.size]⟩

/-- The same record at every index. -/
def replicate (n : Nat) (x : α) : Table n α := ⟨List.replicate n x, by simp⟩

/-- The table whose record at `i` is `f i`. -/
def ofFn (f : Fin n → α) : Table n α := ⟨List.ofFn f, by simp⟩

/-- Every record changed by one function of its index and its content. -/
def mapIdx (f : Fin n → α → α) (t : Table n α) : Table n α := ofFn fun i => f i (t.get i)

@[simp] theorem get_set_eq (t : Table n α) (i : Fin n) (x : α) : (t.set i x).get i = x := by
  simp [get, set]

theorem get_set_ne (t : Table n α) {i j : Fin n} (x : α) (h : j ≠ i) : (t.set i x).get j = t.get j := by
  have : i.val ≠ j.val := fun e => h (Fin.ext e.symm)
  simp [get, set, this]

@[simp] theorem get_replicate (x : α) (i : Fin n) : (replicate n x).get i = x := by
  simp [get, replicate]

@[simp] theorem get_ofFn (f : Fin n → α) (i : Fin n) : (ofFn f).get i = f i := by
  simp [get, ofFn]

@[simp] theorem get_mapIdx (f : Fin n → α → α) (t : Table n α) (i : Fin n) : (t.mapIdx f).get i = f i (t.get i) := by
  simp [mapIdx]

end Table

end Sys2Proof
end

