-- ==== Sys2Proof/Syntax.lean ====
section
/-! DEFINITION. The commands of the part: one constructor for each row of spec/opcode_table.json, with its operands. -/
namespace Sys2Proof

/-- What a failed save leaves in the stored image: R191 says when a save fails and not what the image then holds,
so the command says it (log entry 8). -/
inductive ImageLeft where
  /-- the image held before the save -/
  | previous
  /-- the image that was being written, whole -/
  | written
  /-- an image whose check value does not match -/
  | broken
  deriving DecidableEq, Repr

/-- How a save ends (R191). -/
inductive SaveOutcome where
  | completed
  | failed (left : ImageLeft)
  deriving DecidableEq, Repr

/-- The commands. A request carries the TAG and the BODY bytes of its frame and stands for the last byte of that good
frame (R174, log entry 4); an event carries the input levels or the choice that the part meets at it. -/
inductive Instr where
  /-- POWER_ON (R161). -/
  | powerOn (keyOn : Bool)
  /-- REPLY_SENT (R174). -/
  | replySent (keyOn : Bool)
  /-- BAD_LENGTH_BYTE (R173). -/
  | badLengthByte (value : Byte)
  /-- FRAME_CHECK_MISMATCH (R173). -/
  | frameCheckMismatch (tag : Byte)
  /-- FRAME_BYTE_TIMEOUT (R173). -/
  | frameByteTimeout
  /-- LINK_OVERRUN (R174). -/
  | linkOverrun (tag kind : Byte)
  /-- UNKNOWN_REQUEST (R175). -/
  | unknownRequest (tag kind : Byte)
  /-- FETCH_REPORTS (R183). -/
  | fetchReports (tag : Byte) (body : List Byte)
  /-- STATUS (R184). -/
  | status (tag : Byte) (body : List Byte)
  /-- IDENTIFY (R185). -/
  | identify (tag : Byte) (body : List Byte)
  /-- SET_ROUTE (R186). -/
  | setRoute (tag : Byte) (body : List Byte)
  /-- CONFIGURE_LINK (R187). -/
  | configureLink (tag : Byte) (body : List Byte)
  /-- RESET (R188). -/
  | reset (tag : Byte) (body : List Byte)
  /-- SLEEP (R165). -/
  | sleep (tag : Byte) (body : List Byte)
  /-- WAKE (R169). -/
  | wake (tag : Byte) (body : List Byte)
  /-- CONFIGURE_POWER (R171). -/
  | configurePower (tag : Byte) (body : List Byte)
  /-- SAVE_CONFIGURATION (R191). -/
  | saveConfiguration (tag : Byte) (body : List Byte)
  /-- SAVE_END (R191). -/
  | saveEnd (outcome : SaveOutcome)
  /-- LOCK_CALIBRATION (R192). -/
  | lockCalibration (tag : Byte) (body : List Byte)
  /-- READ_CONFIGURATION (R193). -/
  | readConfiguration (tag : Byte) (body : List Byte)
  /-- CONFIGURE_QUANTITY (R15). -/
  | configureQuantity (tag : Byte) (body : List Byte)
  /-- SET_QUANTITIES (R18). -/
  | setQuantities (tag : Byte) (body : List Byte)
  /-- READ_QUANTITIES (R19). -/
  | readQuantities (tag : Byte) (body : List Byte)
  /-- REFRESH_EXPIRY (R5). -/
  | refreshExpiry (q : Fin 48)
  /-- SWITCH_SAMPLE (R10). -/
  | switchSample (levels : BitVec 8)
  /-- CONFIGURE_SCAN (R31). -/
  | configureScan (tag : Byte) (body : List Byte)
  /-- SCAN_START (R33). -/
  | scanStart (tag : Byte) (body : List Byte)
  /-- SCAN_STOP (R34). -/
  | scanStop (tag : Byte) (body : List Byte)
  /-- SCAN_ONCE (R35). -/
  | scanOnce (tag : Byte) (body : List Byte)
  /-- READ_SCAN (R37). -/
  | readScan (tag : Byte) (body : List Byte)
  /-- SCAN_INTERVAL_EXPIRY (R25). -/
  | scanIntervalExpiry
  /-- CONVERSION_COMPLETION (R28). -/
  | conversionCompletion (raw : BitVec 10)
  /-- CONFIGURE_GAUGE (R63). -/
  | configureGauge (tag : Byte) (body : List Byte)
  /-- HOME_GAUGE (R49). -/
  | homeGauge (tag : Byte) (body : List Byte)
  /-- PARK_GAUGE (R54). -/
  | parkGauge (tag : Byte) (body : List Byte)
  /-- RELEASE_GAUGE (R56). -/
  | releaseGauge (tag : Byte) (body : List Byte)
  /-- POSITION_GAUGE (R57). -/
  | positionGauge (tag : Byte) (body : List Byte)
  /-- READ_GAUGE (R65). -/
  | readGauge (tag : Byte) (body : List Byte)
  /-- GAUGE_STEP (R42). -/
  | gaugeStep (g : Fin 6)
  /-- HOMING_STEP (R46). -/
  | homingStep (g : Fin 6) (stall : Bool)
  /-- GAUGE_UPDATE (R51). -/
  | gaugeUpdate (g : Fin 6)
  /-- COIL_OPEN (R58). -/
  | coilOpen (g : Fin 6) (active : Bool)
  /-- CONFIGURE_SHAPE (R79). -/
  | configureShape (tag : Byte) (body : List Byte)
  /-- CONFIGURE_CRITERION (R80). -/
  | configureCriterion (tag : Byte) (body : List Byte)
  /-- CONFIGURE_EVALUATION (R81). -/
  | configureEvaluation (tag : Byte) (body : List Byte)
  /-- READ_STRENGTH (R82). -/
  | readStrength (tag : Byte) (body : List Byte)
  /-- PASS_START (R75). -/
  | passStart
  /-- CRITERION_EVALUATION (R75). -/
  | criterionEvaluation
  /-- RAISE_DELAY_EXPIRY (R87). -/
  | raiseDelayExpiry (w : Fin 48)
  /-- REMINDER_EXPIRY (R91). -/
  | reminderExpiry (w : Fin 48)
  /-- ACKNOWLEDGE_WARNING (R92). -/
  | acknowledgeWarning (tag : Byte) (body : List Byte)
  /-- CLEAR_WARNING (R93). -/
  | clearWarning (tag : Byte) (body : List Byte)
  /-- SUPPRESS_WARNING (R94). -/
  | suppressWarning (tag : Byte) (body : List Byte)
  /-- RESTORE_WARNING (R95). -/
  | restoreWarning (tag : Byte) (body : List Byte)
  /-- CONFIGURE_WARNING (R96). -/
  | configureWarning (tag : Byte) (body : List Byte)
  /-- READ_WARNING (R98). -/
  | readWarning (tag : Byte) (body : List Byte)
  /-- CONFIGURE_LAMP (R106). -/
  | configureLamp (tag : Byte) (body : List Byte)
  /-- CONFIGURE_DIMMER (R106). -/
  | configureDimmer (tag : Byte) (body : List Byte)
  /-- SET_LAMPS (R103). -/
  | setLamps (tag : Byte) (body : List Byte)
  /-- READ_LAMPS (R107). -/
  | readLamps (tag : Byte) (body : List Byte)
  /-- FLASH_HALF_CHANGE (R100). -/
  | flashHalfChange
  /-- LAMP_SAMPLE (R104). -/
  | lampSample (openLoads : BitVec 32)
  /-- CONFIGURE_DUTY (R113). -/
  | configureDuty (tag : Byte) (body : List Byte)
  /-- STAGE_LIMITS (R114). -/
  | stageLimits (tag : Byte) (body : List Byte)
  /-- DUTY_ACTIVITY (R115). -/
  | dutyActivity (tag : Byte) (body : List Byte)
  /-- CARD_IN (R117). -/
  | cardIn (tag : Byte) (body : List Byte)
  /-- CARD_OUT (R119). -/
  | cardOut (tag : Byte) (body : List Byte)
  /-- READ_DUTY (R132). -/
  | readDuty (tag : Byte) (body : List Byte)
  /-- MINUTE_EXPIRY (R109). -/
  | minuteExpiry (slot2First : Bool)
  /-- CONFIGURE_MESSAGE (R134). -/
  | configureMessage (tag : Byte) (body : List Byte)
  /-- CONFIGURE_LINE (R136). -/
  | configureLine (tag : Byte) (body : List Byte)
  /-- CONFIGURE_DUTY_MESSAGES (R137). -/
  | configureDutyMessages (tag : Byte) (body : List Byte)
  /-- SET_PRIORITY_MAP (R143). -/
  | setPriorityMap (tag : Byte) (body : List Byte)
  /-- HOLD (R144). -/
  | hold (tag : Byte) (body : List Byte)
  /-- RELEASE (R144). -/
  | release (tag : Byte) (body : List Byte)
  /-- ACKNOWLEDGE_SHOWN (R149). -/
  | acknowledgeShown (tag : Byte) (body : List Byte)
  /-- ANNOUNCE (R150). -/
  | announce (tag : Byte) (body : List Byte)
  /-- WITHDRAW (R150). -/
  | withdraw (tag : Byte) (body : List Byte)
  /-- SET_RESTING_PAGE (R151). -/
  | setRestingPage (tag : Byte) (body : List Byte)
  /-- CHIME_CLICK (R155). -/
  | chimeClick (tag : Byte) (body : List Byte)
  /-- READ_LINE (R159). -/
  | readLine (tag : Byte) (body : List Byte)
  /-- DWELL_EXPIRY (R146). -/
  | dwellExpiry
  /-- SHOW_TIME_EXPIRY (R147). -/
  | showTimeExpiry
  /-- ROTATION_EXPIRY (R148). -/
  | rotationExpiry
  /-- LINE_REFRESH (R152). -/
  | lineRefresh
  /-- TRANSFER_COMPLETION (R153). -/
  | transferCompletion
  /-- ONE_SHOT_END (R154). -/
  | oneShotEnd
  /-- CLICK_END (R155). -/
  | clickEnd
  /-- REPEAT_PERIOD (R154). -/
  | repeatPeriod
  /-- KEY_SAMPLE (R162). -/
  | keySample (level : Bool)
  /-- PROOF_TIMER_EXPIRY (R164). -/
  | proofTimerExpiry
  /-- PROOF_DONE (R164). -/
  | proofDone
  /-- ENTRY_TO_SLEEP (R168). -/
  | entryToSleep
  /-- SILENCE_EXPIRY (R177). -/
  | silenceExpiry
  /-- BYTE_ARRIVAL (R173). -/
  | byteArrival (byte : Byte)
  /-- LOSS_OF_SUPPLY (R191). -/
  | lossOfSupply
  deriving DecidableEq, Repr

end Sys2Proof
end

