-- ==== Sys2Proof/Decode.lean ====
section
/-! DEFINITION. The decoder over the table's bits. No row of spec/opcode_table.json gives any bits (the commands of the
part are requests and events, not words), so no word spells a command. The request frames, which do have a layout
(chapter 11), are decoded by Machine/Operands.lean and Machine/Receiver.lean. -/
namespace Sys2Proof

/-- The command that a word spells by the bits of spec/opcode_table.json: none, since no row gives bits
(log entry 7). -/
def decodeTableWord (_nbits _w : Nat) : Option Instr := none

end Sys2Proof
end

