-- ==== Sys2Proof/Config.lean ====
section
/-! DEFINITION. What an implementation of the part fixes or the manual leaves open (constants without a body), and the
fixed times of the manual in microseconds. -/
namespace Sys2Proof.Config

/-- The silicon revision less 1. The manual gives the revision the range 1-255 and no value (R185): left open,
log entry 18. -/
opaque siliconRevisionLess1 : Fin 255

/-- The silicon revision that IDENTIFY returns, 1-255 (R185). -/
def siliconRevision : Byte := BitVec.ofNat 8 (siliconRevisionLess1.val + 1)

/-- What the part sends as a reply body when the body its rules give is longer than the 240 bytes a frame carries
(R193 with R194; only LOCK CELL can be). The manual states nothing there: left open, log entry 17. -/
opaque oversizeBody : List Byte → List Byte

/-- How many terms of the criterion under way are read in the microsecond that ends at a time. The manual reads the terms
in order within the criterion's 20 microseconds and does not say when each of them is read (R75, R76): left open, log
entry 14. -/
opaque termsRead : Nat → Nat

/-- By how much less 1 the check value beside an image whose writing broke off differs from the image's own. The manual
says only that it does not match (R191): left open, log entry 40. -/
opaque checkErrorLess1 : Fin 65535

/-- Microseconds in a millisecond. -/
def ms (n : Nat) : Nat := n * 1000
/-- Microseconds in a second. -/
def sec (n : Nat) : Nat := n * 1000000
/-- Microseconds in a minute. -/
def minutes (n : Nat) : Nat := n * 60000000

/-- One conversion of an analogue input, 50 microseconds (R26). -/
def conversionTime : Nat := 50
/-- One criterion's evaluation, 20 microseconds (R75). -/
def criterionTime : Nat := 20
/-- The gauge update interval, 20 ms (R51). -/
def updateInterval : Nat := ms 20
/-- The interval of the switch and key samplings, 10 ms (R10, R162). -/
def sampleInterval : Nat := ms 10
/-- One half of the flash clock, 500 ms (R100). -/
def flashHalf : Nat := ms 500
/-- The lamp sample interval, 200 ms (R104). -/
def lampInterval : Nat := ms 200
/-- The line refresh interval, 1 s (R152). -/
def refreshInterval : Nat := sec 1
/-- One display transfer, 2 ms (R153). -/
def transferTime : Nat := ms 2
/-- The longest wait for the next byte of a started frame, 10 ms (R173). -/
def byteTimeout : Nat := ms 10
/-- A click, 20 ms (R155). -/
def clickTime : Nat := ms 20

end Sys2Proof.Config
end

