-- ==== Sys2Proof/Machine/Settings.lean ====
section
/-! DEFINITION. The named values of the manual and the active configuration: every setting of every block, with the
built-in defaults that apply when the stored image is invalid (R190). -/
namespace Sys2Proof.Machine

/-! ### Named values. Each `list` gives the order in which the owning chapter first lists them, which is their code on
the link (R194). -/

/-- The power states (R161). -/
inductive PowerState where
  | sleep | proving | run | parking
  deriving DecidableEq, Repr
def PowerState.list : List PowerState := [.sleep, .proving, .run, .parking]

/-- The statuses of a quantity (R1). -/
inductive QStatus where
  | absent | valid | stale | fault
  deriving DecidableEq, Repr
def QStatus.list : List QStatus := [.absent, .valid, .stale, .fault]

/-- The groups of the scan list (R21). -/
inductive ScanGroup where
  | fast | slow
  deriving DecidableEq, Repr
def ScanGroup.list : List ScanGroup := [.fast, .slow]

/-- The ten gauge states (R40). -/
inductive GaugeState where
  | unhomed | homing | sweeping | tracking | held | resting | parking | parked | test | fault
  deriving DecidableEq, Repr
def GaugeState.list : List GaugeState :=
  [.unhomed, .homing, .sweeping, .tracking, .held, .resting, .parking, .parked, .test, .fault]

/-- Why a gauge is in FAULT (R46, R58). -/
inductive GaugeFaultDetail where
  | noStop | coilOpen
  deriving DecidableEq, Repr
def GaugeFaultDetail.list : List GaugeFaultDetail := [.noStop, .coilOpen]

/-- How a homing finds the stop (R38). -/
inductive HomingMode where
  | stall | blind
  deriving DecidableEq, Repr
def HomingMode.list : List HomingMode := [.stall, .blind]

/-- What a gauge does while its source is not VALID (R38). -/
inductive InvalidAction where
  | hold | park
  deriving DecidableEq, Repr
def InvalidAction.list : List InvalidAction := [.hold, .park]

/-- The conditions that a CONDITION term may name (R73). -/
inductive TermCondition where
  | linkLost | lampOpenAny | gaugeFaultAny | dutyMismatch | scanStopped | storeInvalid
  deriving DecidableEq, Repr
def TermCondition.list : List TermCondition :=
  [.linkLost, .lampOpenAny, .gaugeFaultAny, .dutyMismatch, .scanStopped, .storeInvalid]

/-- The warning classes (R83). -/
inductive WarnClass where
  | stop | check | info
  deriving DecidableEq, Repr
def WarnClass.list : List WarnClass := [.stop, .check, .info]

/-- The chime patterns (R83, R154). -/
inductive Chime where
  | none | single | double | slowRepeat | fastRepeat
  deriving DecidableEq, Repr
def Chime.list : List Chime := [.none, .single, .double, .slowRepeat, .fastRepeat]

/-- A pattern that repeats while its entry is shown (R154). -/
def Chime.repeats : Chime → Bool
  | .slowRepeat | .fastRepeat => true
  | .none | .single | .double => false

/-- The seven warning states (R84). -/
inductive WarnState where
  | disabled | off | rising | activeNew | activeSeen | latched | suppressed
  deriving DecidableEq, Repr
def WarnState.list : List WarnState := [.disabled, .off, .rising, .activeNew, .activeSeen, .latched, .suppressed]

/-- A warning is engaged while it is ACTIVE_NEW, ACTIVE_SEEN or LATCHED (R84). -/
def WarnState.engaged : WarnState → Bool
  | .activeNew | .activeSeen | .latched => true
  | .disabled | .off | .rising | .suppressed => false

/-- The announcement mark of a warning (R84). -/
inductive AnnMark where
  | none | normal | reminder
  deriving DecidableEq, Repr
def AnnMark.list : List AnnMark := [.none, .normal, .reminder]

/-- The lamp modes (R99). -/
inductive LampMode where
  | rule | host | off
  deriving DecidableEq, Repr
def LampMode.list : List LampMode := [.rule, .host, .off]

/-- The host level of a lamp (R99). -/
inductive HostLevel where
  | off | on | flashing
  deriving DecidableEq, Repr
def HostLevel.list : List HostLevel := [.off, .on, .flashing]

/-- The drive of a lamp (R99). -/
inductive Drive where
  | dark | steady | flashing
  deriving DecidableEq, Repr
def Drive.list : List Drive := [.dark, .steady, .flashing]

/-- The activities of a duty slot (R110). -/
inductive Activity where
  | driving | work | available | rest | unknown
  deriving DecidableEq, Repr
def Activity.list : List Activity := [.driving, .work, .available, .rest, .unknown]

/-- The three tracks of a slot (R110). -/
inductive Track where
  | continuous | daily | weekly
  deriving DecidableEq, Repr
def Track.list : List Track := [.continuous, .daily, .weekly]

/-- The stages of a track, lowest first (R125). -/
inductive Stage where
  | normal | prewarn | limit | exceeded
  deriving DecidableEq, Repr
def Stage.list : List Stage := [.normal, .prewarn, .limit, .exceeded]

/-- The rank of a stage in the order NORMAL, PREWARN, LIMIT, OVER (R125). -/
def Stage.rank : Stage → Nat
  | .normal => 0 | .prewarn => 1 | .limit => 2 | .exceeded => 3

/-- The announcement classes (R138). -/
inductive AnnClass where
  | stopWarning | dutyLimit | checkWarning | dutyPrewarn | infoWarning | hostMessage
  deriving DecidableEq, Repr
def AnnClass.list : List AnnClass :=
  [.stopWarning, .dutyLimit, .checkWarning, .dutyPrewarn, .infoWarning, .hostMessage]

/-- The place of a class in the list of R138, where the six dwells are kept. -/
def AnnClass.index : AnnClass → Fin 6
  | .stopWarning => 0 | .dutyLimit => 1 | .checkWarning => 2 | .dutyPrewarn => 3 | .infoWarning => 4 | .hostMessage => 5

/-- The kinds of an announcement (R138). -/
inductive AnnKind where
  | normal | reminder
  deriving DecidableEq, Repr
def AnnKind.list : List AnnKind := [.normal, .reminder]

/-- The routes (R180). -/
inductive Route where
  | off | post | urgent | afterShown
  deriving DecidableEq, Repr
def Route.list : List Route := [.off, .post, .urgent, .afterShown]

/-- The 25 report kinds, in the order of the table of chapter 9, section 9.5. -/
inductive ReportKind where
  | quantityStale | quantityFault | quantityRecovered | gaugeHomed | gaugeParked | gaugeFault | warningRaised
  | warningEnded | lampOpen | lampRecovered | dutySuperseded | dutyStage | dutyDayStart | dutyWeekStart
  | dutyLimitsLoaded | dutyMismatch | announcementShown | announcementEnded | powerState | saveDone | saveFailed
  | linkFrameError | linkOverrun | linkLost | linkRestored
  deriving DecidableEq, Repr
def ReportKind.list : List ReportKind :=
  [.quantityStale, .quantityFault, .quantityRecovered, .gaugeHomed, .gaugeParked, .gaugeFault, .warningRaised] ++
  [.warningEnded, .lampOpen, .lampRecovered, .dutySuperseded, .dutyStage, .dutyDayStart, .dutyWeekStart] ++
  [.dutyLimitsLoaded, .dutyMismatch, .announcementShown, .announcementEnded, .powerState, .saveDone, .saveFailed] ++
  [.linkFrameError, .linkOverrun, .linkLost, .linkRestored]

/-- The formats of a placeholder (R134). -/
inductive Format where
  | integer | hoursMinutes | word
  deriving DecidableEq, Repr
def Format.list : List Format := [.integer, .hoursMinutes, .word]

/-! ### Quantities (chapter 1) -/

/-- The fields that an entry has while its source is SCAN (R1). -/
structure ScanFields where
  input : Fin 16
  rawLow : Nat
  rawHigh : Nat
  confirm : Nat
  gain : Int
  offset : Int
  deriving DecidableEq, Repr

/-- The source of an entry with its binding and the fields that exist only under that source (R1, R2). Refresh limit
and debounce time are in ms. -/
inductive QSource where
  | none
  | scan (f : ScanFields)
  | switch (input : Fin 8) (debounce : Nat)
  | link (refresh : Nat)
  | duty
  deriving DecidableEq, Repr

/-- The default source: DUTY for Q44-Q47, NONE below (R20). -/
def QSource.builtIn (q : Fin 48) : QSource := if 44 ≤ q.val then .duty else .none

/-! ### Scan (chapter 2) -/

/-- One entry of the scan list (R21). -/
structure ScanEntry where
  input : Fin 16
  group : ScanGroup
  depth : Nat
  deriving DecidableEq, Repr

/-- The scan configuration (R21); the interval in ms. -/
structure ScanSettings where
  list : List ScanEntry
  interval : Nat
  autostart : Bool
  deriving DecidableEq, Repr

/-! ### Gauges (chapter 3) -/

/-- A motion profile: maximum speed and acceleration (R38). -/
structure Profile where
  maxSpeed : Nat
  accel : Nat
  deriving DecidableEq, Repr

/-- The calibration part of a gauge (R38). -/
structure Calibration where
  breakpoints : List (Int × Nat)
  minPos : Nat
  maxPos : Nat
  deriving DecidableEq, Repr

/-- The configuration of a gauge (R38). -/
structure GaugeSettings where
  source : Option (Fin 48)
  calibration : Calibration
  rest : Nat
  damping : Nat
  deadband : Nat
  profile : Profile
  homingMode : HomingMode
  homeTravel : Nat
  homingSpeed : Nat
  invalid : InvalidAction
  sweepAtProof : Bool
  rehome : Bool
  deriving DecidableEq, Repr

def GaugeSettings.builtIn : GaugeSettings where
  source := none
  calibration := ⟨[(0, 0), (3000, 3000)], 0, 3000⟩
  rest := 0
  damping := 1
  deadband := 0
  profile := ⟨2000, 20000⟩
  homingMode := .blind
  homeTravel := 4600
  homingSpeed := 600
  invalid := .park
  sweepAtProof := true
  rehome := false

/-! ### Grades and criteria (chapter 4) -/

/-- A grade shape (R66). -/
structure Shape where
  quantity : Option (Fin 48)
  a : Int
  b : Int
  c : Int
  d : Int
  openLow : Bool
  openHigh : Bool
  invalid : Nat
  deriving DecidableEq, Repr

def Shape.builtIn : Shape := ⟨none, 0, 0, 0, 0, false, false, 0⟩

/-- What a term reads (R69). -/
inductive TermKind where
  | grade (f : Fin 32)
  | status (q : Fin 48) (among : List QStatus)
  | engaged (w : Fin 48)
  | condition (c : TermCondition)
  | constant (k : Nat)
  deriving DecidableEq, Repr

/-- A term with its complement flag (R69). -/
structure Term where
  kind : TermKind
  complement : Bool
  deriving DecidableEq, Repr

/-- A criterion: clauses of terms (R69). -/
abbrev Criterion := List (List Term)

/-! ### Warnings and lamps (chapter 5) -/

/-- The configuration of a warning (R83); raise delay in ms, reminder interval in min. -/
structure WarnSettings where
  enabled : Bool
  cls : WarnClass
  lamp : Option (Fin 32)
  raiseLevel : Nat
  clearLevel : Nat
  raiseDelay : Nat
  latching : Bool
  message : Option (Fin 64)
  chime : Chime
  reminder : Nat
  deriving DecidableEq, Repr

def WarnSettings.builtIn : WarnSettings := ⟨false, .info, none, 128, 64, 0, false, none, .none, 0⟩

/-- The configuration of a lamp (R99). -/
structure LampSettings where
  mode : LampMode
  proved : Bool
  deriving DecidableEq, Repr

def LampSettings.builtIn : LampSettings := ⟨.off, false⟩

/-! ### Duty (chapter 6) -/

/-- A limit set: nine limits in minutes (R111). -/
structure LimitSet where
  continuous : Nat
  continuousMargin : Nat
  breakLength : Nat
  breakSegment : Nat
  daily : Nat
  dailyMargin : Nat
  dailyRest : Nat
  weeklyRest : Nat
  weekly : Nat
  deriving DecidableEq, Repr

def LimitSet.builtIn : LimitSet := ⟨270, 15, 45, 15, 540, 30, 540, 2700, 3360⟩

/-- A limit set is valid when every limit lies within its range (R111). -/
def LimitSet.valid (l : LimitSet) : Bool :=
  decide (60 ≤ l.continuous ∧ l.continuous ≤ 600 ∧ l.continuousMargin ≤ 60 ∧ 15 ≤ l.breakLength ∧ l.breakLength ≤ 120 ∧
    1 ≤ l.breakSegment ∧ l.breakSegment ≤ l.breakLength ∧ 120 ≤ l.daily ∧ l.daily ≤ 1080 ∧ l.dailyMargin ≤ 60 ∧
    300 ≤ l.dailyRest ∧ l.dailyRest ≤ 720 ∧ l.dailyRest + 1 ≤ l.weeklyRest ∧ l.weeklyRest ≤ 5760 ∧
    600 ≤ l.weekly ∧ l.weekly ≤ 6000)

/-- The duty settings (R112): the active limit set of each slot, the speed quantity, the motion threshold and the
mismatch minutes. -/
structure DutySettings where
  limits : Table 2 LimitSet
  speed : Fin 48
  threshold : Nat
  mismatchMinutes : Nat
  deriving DecidableEq, Repr

def DutySettings.builtIn : DutySettings := ⟨.replicate 2 .builtIn, 0, 5, 2⟩

/-! ### The message line (chapter 7) -/

/-- What a placeholder shows (R134). Slot 1 is 0 and slot 2 is 1. -/
inductive Field where
  | quantityValue (q : Fin 48)
  | quantityStatus (q : Fin 48)
  | slotActivity (slot : Fin 2)
  | slotCard (slot : Fin 2)
  | continuousRemaining (slot : Fin 2)
  | dailyRemaining (slot : Fin 2)
  | weeklyRemaining (slot : Fin 2)
  | breakCredit (slot : Fin 2)
  deriving DecidableEq, Repr

/-- A placeholder (R134); columns are counted from 1. -/
structure Placeholder where
  start : Nat
  width : Nat
  field : Field
  format : Format
  deriving DecidableEq, Repr

/-- A message: sixteen characters and its placeholders (R134). -/
structure Message where
  chars : Table 16 Byte
  placeholders : List Placeholder
  deriving DecidableEq, Repr

/-- Sixteen spaces. -/
def blankLine : Table 16 Byte := .replicate 16 0x20#8

def Message.builtIn : Message := ⟨blankLine, []⟩

/-- One position of the duty message assignment (R137). -/
structure DutyMessage where
  message : Option (Fin 64)
  chime : Chime
  deriving DecidableEq, Repr

/-- The line settings (R136); dwells in ms by class in the order of R138, the other times in s. -/
structure LineSettings where
  dwells : Table 6 Nat
  showTime : Nat
  rotation : Nat
  acknowledge : Option (Fin 48)
  deriving DecidableEq, Repr

def LineSettings.builtIn : LineSettings := ⟨.replicate 6 3000, 5, 0, none⟩

/-- The built-in priority map: the class in each position 1-6 (R143). -/
def priorityMapBuiltIn : Table 6 AnnClass :=
  ⟨[.stopWarning, .dutyLimit, .checkWarning, .dutyPrewarn, .infoWarning, .hostMessage], rfl⟩

/-! ### Power and link (chapters 8 and 9) -/

/-- The power configuration (R171); the proof time in s. -/
structure PowerSettings where
  proofTime : Nat
  startMessage : Option (Fin 64)
  deriving DecidableEq, Repr

def PowerSettings.builtIn : PowerSettings := ⟨3, none⟩

/-- The link configuration (R177, R182); the silence timeout in ms. -/
structure LinkSettings where
  silence : Nat
  threshold : Nat
  deriving DecidableEq, Repr

def LinkSettings.builtIn : LinkSettings := ⟨500, 1⟩

/-- The place of a route in the routing table (R180, R193): the report kinds in order, WARNING RAISED taking three
places by its class. -/
def routeIndex (kind : ReportKind) (cls : WarnClass) : Fin 27 :=
  match kind with
  | .quantityStale => 0 | .quantityFault => 1 | .quantityRecovered => 2 | .gaugeHomed => 3 | .gaugeParked => 4
  | .gaugeFault => 5
  | .warningRaised => match cls with
    | .stop => 6 | .check => 7 | .info => 8
  | .warningEnded => 9 | .lampOpen => 10 | .lampRecovered => 11 | .dutySuperseded => 12 | .dutyStage => 13
  | .dutyDayStart => 14 | .dutyWeekStart => 15 | .dutyLimitsLoaded => 16 | .dutyMismatch => 17
  | .announcementShown => 18 | .announcementEnded => 19 | .powerState => 20 | .saveDone => 21 | .saveFailed => 22
  | .linkFrameError => 23 | .linkOverrun => 24 | .linkLost => 25 | .linkRestored => 26

/-- The built-in routes (R180): URGENT for GAUGE FAULT, WARNING RAISED of class STOP, DUTY STAGE and POWER STATE, POST
for the rest. -/
def routesBuiltIn : Table 27 Route :=
  Table.ofFn fun i => if i.val = 5 ∨ i.val = 6 ∨ i.val = 13 ∨ i.val = 20 then .urgent else .post

/-! ### The active configuration -/

/-- The active configuration: the settings of every block (chapter 10). The evaluation interval is in ms. -/
structure Settings where
  sources : Table 48 QSource
  scan : ScanSettings
  gauges : Table 6 GaugeSettings
  shapes : Table 32 Shape
  criteria : Table 48 Criterion
  evalInterval : Nat
  warnings : Table 48 WarnSettings
  lamps : Table 32 LampSettings
  dimmer : Option (Fin 48)
  duty : DutySettings
  messages : Table 64 Message
  line : LineSettings
  priorityMap : Table 6 AnnClass
  restingPage : Option (Fin 64)
  dutyMessages : Table 16 DutyMessage
  power : PowerSettings
  link : LinkSettings
  routes : Table 27 Route
  deriving DecidableEq, Repr

/-- The built-in defaults of every block (R190). -/
def Settings.builtIn : Settings where
  sources := .ofFn QSource.builtIn
  scan := ⟨[], 10, false⟩
  gauges := .replicate 6 .builtIn
  shapes := .replicate 32 .builtIn
  criteria := .replicate 48 []
  evalInterval := 50
  warnings := .replicate 48 .builtIn
  lamps := .replicate 32 .builtIn
  dimmer := none
  duty := .builtIn
  messages := .replicate 64 .builtIn
  line := .builtIn
  priorityMap := priorityMapBuiltIn
  restingPage := none
  dutyMessages := .replicate 16 ⟨none, .none⟩
  power := .builtIn
  link := .builtIn
  routes := routesBuiltIn

/-- The calibration part held in the lock cell (R192): each gauge's calibration, and for each quantity locked as SCAN
its input, gain and offset. -/
structure LockCell where
  gauges : Table 6 Calibration
  quantities : List (Fin 48 × Fin 16 × Int × Int)
  deriving DecidableEq, Repr

end Sys2Proof.Machine
end

