-- ==== Sys2Proof/Machine/State.lean ====
section
/-! DEFINITION. The state of the part: one record for each block (00_scope.md section 2.2), the active configuration, the
queue of waiting commands and the model's clock; the reasons a step can stop; the state after reset. Timers are held as
the time of their expiry in microseconds, none while stopped (log entry 2). -/
namespace Sys2Proof.Machine

/-- What stops the machine. The manual describes no stop: every failure of the part is a state, a report or a reply
status, so there is no fault. Raised by nobody; safe. -/
inductive Fault where
  deriving DecidableEq, Repr

/-- What the model refuses. -/
inductive Refusal where
  /-- A command whose meaning is not written yet: raised by its arm of exec alone; safe. No arm raises it. -/
  | notModelled (mnemonic : String)
  deriving DecidableEq, Repr

/-! ### Link Port (chapter 9) -/

/-- The status of a reply, with the reason of REFUSED (R176). -/
inductive Status where
  | ok | coerced | superseded | suppressed | busy
  | asleep | driving | notStopped | noHold | noCard | state
  | range | conflict | locked | unknown | length
  deriving DecidableEq, Repr

/-- A reply in progress (R174): the TAG echoed, the KIND of the request, the status and the body bytes. -/
structure Reply where
  tag : Byte
  kind : Byte
  status : Status
  body : List Byte
  deriving DecidableEq, Repr

/-- A report record (R179). -/
structure Report where
  kind : ReportKind
  subject : Byte
  detail : BitVec 16
  stamp : BitVec 16
  urgent : Bool
  deriving DecidableEq, Repr

/-- The phase of the receiver (R173): in FRAME, the LENGTH byte kept and the bytes gathered after it. -/
inductive Receiver where
  | hunting
  | length
  | frame (len : Byte) (gathered : List Byte)
  deriving DecidableEq, Repr

/-- The Link Port. -/
structure LinkPort where
  /-- R173 -/
  receiver : Receiver
  /-- the 10 ms timeout on the next byte of a started frame, R173 -/
  byteDue : Option Nat
  /-- the reply in progress, R174 -/
  reply : Option Reply
  /-- the report queue, oldest first, R179 -/
  queue : List Report
  /-- the overflow mark, R179 -/
  overflow : Bool
  /-- the held list, R181 -/
  held : List Report
  /-- the attention line asserted, R182 -/
  attention : Bool
  /-- since when LINK LOST has held, R177 -/
  lostSince : Option Nat
  /-- the silence timer, R177 -/
  silenceDue : Option Nat
  deriving DecidableEq, Repr

/-! ### Quantity Table (chapter 1) -/

/-- The state of a quantity entry beside its configuration (R1). -/
structure Quantity where
  value : Int
  status : QStatus
  /-- when the age last restarted at 0, R3 -/
  restarted : Nat
  /-- the refresh timer, R5 -/
  refreshDue : Option Nat
  /-- the out-of-limit run, R8 -/
  outRun : Nat
  /-- the in-limit run, R8 -/
  inRun : Nat
  /-- the debounce candidate, R11 -/
  candidate : Option Bool
  /-- the run of the candidate, R11 -/
  candidateRun : Nat
  deriving DecidableEq, Repr

/-- An entry that has just been reset or given a source at a time (R16, R20). -/
def Quantity.fresh (now : Nat) : Quantity := ⟨0, .absent, now, none, 0, 0, none, 0⟩

/-- The Quantity Table: its entries and the switch sample timer (R10). -/
structure QuantityTable where
  entries : Table 48 Quantity
  sampleDue : Nat
  deriving DecidableEq, Repr

/-! ### Sensor Scan Unit (chapter 2) -/

/-- The scan state (R22); ONCE holds the positions the SCAN ONCE named. -/
inductive ScanMode where
  | stopped
  | continuous
  | once (first last : Nat)
  deriving DecidableEq, Repr

/-- The conversion in flight (R26): its list position, counted from 1, and its completion. -/
structure Flight where
  position : Nat
  due : Nat
  deriving DecidableEq, Repr

/-- The Sensor Scan Unit. -/
structure Scan where
  mode : ScanMode
  flight : Option Flight
  /-- the positions of the pass that come after the conversion in flight, R24 and R30 -/
  remaining : List Nat
  /-- the round-robin position, R23 -/
  roundRobin : Option Nat
  /-- the filter of each list entry, in list order, results oldest first, R27 -/
  filters : List (List Nat)
  /-- the interval timer, R25 -/
  intervalDue : Option Nat
  deriving DecidableEq, Repr

/-! ### Gauge Drive Unit (chapter 3) -/

/-- A move in progress (R42): its move target and the square of the needle's speed. -/
structure Move where
  target : Nat
  speedSq : Nat
  deriving DecidableEq, Repr

/-- A homing in progress (R46 to R48): the mode, travel and speed read at its start, the travel used, and whether the
final phase has begun. -/
structure Homing where
  mode : HomingMode
  travel : Nat
  speed : Nat
  used : Nat
  final : Bool
  deriving DecidableEq, Repr

/-- A gauge record beside its configuration (R38). -/
structure Gauge where
  state : GaugeState
  faultDetail : Option GaugeFaultDetail
  /-- none: unknown -/
  position : Option Nat
  move : Option Move
  /-- the following target, R44 -/
  following : Option Nat
  /-- the profile in force, R45 -/
  profile : Profile
  /-- the staged motion profile, R45 -/
  staged : Option Profile
  parkPending : Bool
  /-- the damping history, oldest first, R52 -/
  history : List Nat
  homing : Option Homing
  /-- in SWEEPING, the second move is under way, R50 -/
  sweepBack : Bool
  /-- the update timer, R51 -/
  updateDue : Option Nat
  /-- the rest position that the park under way goes to: the configured one as it stood at the entry to PARKING or at the
  last gauge update in PARKING, whichever came later (R54, R55, R64, log entry 34) -/
  restTaken : Nat
  deriving DecidableEq, Repr

/-- A gauge after reset, with the configured profile in force (R41). That the rest position taken is 0 is the model's choice,
and nothing reads it before a park has taken one (log entry 34). -/
def Gauge.afterReset (profile : Profile) : Gauge :=
  ⟨.unhomed, none, none, none, none, profile, none, false, [], none, false, none, 0⟩

/-! ### Warning Evaluation Unit (chapters 4 and 5) -/

/-- The strength record of a criterion (R77). -/
structure Strength where
  evaluated : Bool
  strength : Nat
  clauses : List Nat
  terms : List (List Nat)
  pass : BitVec 16
  deriving DecidableEq, Repr

def Strength.notEvaluated : Strength := ⟨false, 0, [], [], 0⟩

/-- The pass under way (R75): the criterion under way, the end of its 20 microseconds, whether that criterion has been
replaced meanwhile (R80), and the values of the terms already read, in their order (R76). -/
structure Pass where
  criterion : Fin 48
  due : Nat
  replaced : Bool
  read : List Nat
  deriving DecidableEq, Repr

/-- The state of a warning (R84). -/
structure Warning where
  state : WarnState
  acknowledged : Bool
  raiseDue : Option Nat
  reminderDue : Option Nat
  mark : AnnMark
  deriving DecidableEq, Repr

/-- A warning after reset (R85). -/
def Warning.afterReset (c : WarnSettings) : Warning :=
  ⟨if c.enabled then .off else .disabled, false, none, none, .none⟩

/-- The state of a lamp (R99). -/
structure Lamp where
  hostLevel : HostLevel
  drive : Drive
  /-- the open-load state is OPEN -/
  isOpen : Bool
  openRun : Nat
  deriving DecidableEq, Repr

def Lamp.afterReset : Lamp := ⟨.off, .dark, false, 0⟩

/-- The flash clock while it runs (R100): in its on half or not, and the next change. -/
structure Flash where
  onHalf : Bool
  due : Nat
  deriving DecidableEq, Repr

/-- The Warning Evaluation Unit. -/
structure Evaluation where
  /-- the shapes in force, R66 -/
  inForce : Table 32 Shape
  strengths : Table 48 Strength
  passCount : BitVec 16
  /-- the evaluation timer, R74 -/
  evalDue : Option Nat
  pass : Option Pass
  warnings : Table 48 Warning
  lamps : Table 32 Lamp
  /-- the drive level in percent, R102 -/
  driveLevel : Nat
  flash : Option Flash
  /-- the lamp sample timer, R104 -/
  lampDue : Option Nat
  deriving DecidableEq, Repr

/-! ### Duty Time Unit (chapter 6) -/

/-- A track record (R110). -/
structure TrackRecord where
  stage : Stage
  acknowledged : Bool
  offered : Bool
  deriving DecidableEq, Repr

def TrackRecord.rest : TrackRecord := ⟨.normal, false, false⟩

/-- The three track records of a slot. -/
structure Tracks where
  continuous : TrackRecord
  daily : TrackRecord
  weekly : TrackRecord
  deriving DecidableEq, Repr

/-- The five day totals of a slot (R110). -/
structure DayTotals where
  driving : Nat
  work : Nat
  available : Nat
  rest : Nat
  unknown : Nat
  deriving DecidableEq, Repr

/-- A slot record (R110); the active limit set is in the active configuration (R112). `card` is the token of a PRESENT
card, none while EMPTY. -/
structure Slot where
  card : Option (BitVec 32)
  activity : Activity
  pending : Option Activity
  superseded : Bool
  continuous : Nat
  daily : Nat
  weekly : Nat
  credit : Nat
  pauseRun : Nat
  restRun : Nat
  segmentMark : Bool
  dayClosed : Bool
  weekClosed : Bool
  totals : DayTotals
  dayBase : Nat
  dayStart : Nat
  tracks : Tracks
  staged : Option LimitSet
  deriving DecidableEq, Repr

/-- An EMPTY slot that keeps a staged limit set (R110). -/
def Slot.empty (staged : Option LimitSet) : Slot where
  card := none
  activity := .unknown
  pending := none
  superseded := false
  continuous := 0
  daily := 0
  weekly := 0
  credit := 0
  pauseRun := 0
  restRun := 0
  segmentMark := false
  dayClosed := false
  weekClosed := false
  totals := ⟨0, 0, 0, 0, 0⟩
  dayBase := 0
  dayStart := 0
  tracks := ⟨.rest, .rest, .rest⟩
  staged := staged

/-- The Duty Time Unit. -/
structure Duty where
  /-- the duty clock in minutes, R108 -/
  clock : Nat
  minuteDue : Nat
  slots : Table 2 Slot
  mismatchCount : Nat
  /-- DUTY MISMATCH holds, R130 -/
  mismatch : Bool
  deriving DecidableEq, Repr

/-! ### Annunciation Unit (chapter 7) -/

/-- The source of an announcement (R138). -/
inductive AnnSource where
  | warning (w : Fin 48)
  | duty (slot : Fin 2) (track : Track)
  | host (h : Fin 8)
  deriving DecidableEq, Repr

/-- An entry, waiting or shown (R138). -/
structure Entry where
  source : AnnSource
  cls : AnnClass
  level : Nat
  message : Fin 64
  chime : Chime
  kind : AnnKind
  arrival : Nat
  shownBefore : Bool
  deriving DecidableEq, Repr

/-- The shown entry with its timers (R145); no dwell timer: the dwell has elapsed. -/
structure Shown where
  entry : Entry
  dwellDue : Option Nat
  showDue : Option Nat
  rotationDue : Option Nat
  deriving DecidableEq, Repr

/-- The one-shots of the sounder (R154). -/
inductive OneShot where
  | single | double | proofTone
  deriving DecidableEq, Repr

/-- The state of the sounder (R154); `due` is the end of the sound or of the period under way. -/
inductive Sounder where
  | silent
  | oneShot (sound : OneShot) (due : Nat)
  | click (due : Nat)
  | repeating (fast : Bool) (due : Nat)
  deriving DecidableEq, Repr

/-- A transfer in flight (R153). -/
structure Transfer where
  content : Table 16 Byte
  due : Nat
  deriving DecidableEq, Repr

/-- The Annunciation Unit. -/
structure Annunciation where
  /-- the announcement queue, head first, R138 -/
  queue : List Entry
  shown : Option Shown
  /-- the arrival counter, R138 -/
  arrivals : Nat
  hostHold : Bool
  proofHold : Bool
  /-- the line refresh timer, R152 -/
  refreshDue : Option Nat
  /-- the line content, R152 -/
  content : Table 16 Byte
  /-- the last sent content, R153 -/
  lastSent : Table 16 Byte
  transfer : Option Transfer
  owed : Bool
  sounder : Sounder
  deriving DecidableEq, Repr

/-! ### Power State Controller and Configuration Store (chapters 8 and 10) -/

/-- The proof timer (R164). -/
inductive ProofTimer where
  | stopped
  | running (due : Nat)
  | expired
  deriving DecidableEq, Repr

/-- The Power State Controller. -/
structure Power where
  state : PowerState
  proof : ProofTimer
  /-- the adopted key level, R162 -/
  key : Bool
  keyCandidate : Bool
  keyRun : Nat
  keyDue : Nat
  deriving DecidableEq, Repr

/-- The stored image (R190, R191): none held, or the settings of an image with the check value held beside it (R194). -/
inductive StoredImage where
  | absent
  | held (settings : Settings) (check : BitVec 16)
  deriving DecidableEq, Repr

/-- The Configuration Store. -/
structure Store where
  /-- non-volatile -/
  image : StoredImage
  /-- the lock cell, none while the lock is clear; non-volatile, R192 -/
  lock : Option LockCell
  /-- STORE INVALID, R190 -/
  invalid : Bool
  /-- SAVING, with the image being written, R191 -/
  saving : Option Settings
  deriving DecidableEq, Repr

/-! ### The whole part -/

/-- The state of the part. -/
structure State where
  /-- the commands that wait, first in first out (log entry 1) -/
  pending : List Instr
  /-- the model's clock in microseconds (log entry 2) -/
  now : Nat
  /-- supply is applied (R161, R191) -/
  powered : Bool
  /-- the coil-open input of each gauge is active (R58) -/
  coilOpen : Table 6 Bool
  /-- the active configuration (chapter 10) -/
  cfg : Settings
  lp : LinkPort
  qt : QuantityTable
  ssu : Scan
  gdu : Table 6 Gauge
  weu : Evaluation
  dtu : Duty
  anu : Annunciation
  psc : Power
  cs : Store
  deriving DecidableEq, Repr

namespace State

def setPending (s : State) (x : List Instr) : State := { s with pending := x }
def setNow (s : State) (x : Nat) : State := { s with now := x }
def setCoilOpen (s : State) (x : Table 6 Bool) : State := { s with coilOpen := x }
def setCfg (s : State) (x : Settings) : State := { s with cfg := x }
def setLp (s : State) (x : LinkPort) : State := { s with lp := x }
def setQt (s : State) (x : QuantityTable) : State := { s with qt := x }
def setSsu (s : State) (x : Scan) : State := { s with ssu := x }
def setGdu (s : State) (x : Table 6 Gauge) : State := { s with gdu := x }
def setWeu (s : State) (x : Evaluation) : State := { s with weu := x }
def setDtu (s : State) (x : Duty) : State := { s with dtu := x }
def setAnu (s : State) (x : Annunciation) : State := { s with anu := x }
def setPsc (s : State) (x : Power) : State := { s with psc := x }
def setCs (s : State) (x : Store) : State := { s with cs := x }

/-- The machine after POWER-ON with the key line off, the coil-open inputs inactive and a store that holds no image and
no lock (log entries 6 and 26): the built-in defaults with STORE INVALID (R190), every block in its reset state (R20, R22,
R41, R77, R85, R99, R133, R158, R189), SLEEP chosen (R161), and its POWER STATE record in the queue with the attention
line asserted (R172, R189). -/
def reset : State where
  pending := []
  now := 0
  powered := true
  coilOpen := .replicate 6 false
  cfg := .builtIn
  lp :=
    { receiver := .hunting
      byteDue := none
      reply := none
      queue := [⟨.powerState, 0, 0x00FF, 0, true⟩]
      overflow := false
      held := []
      attention := true
      lostSince := none
      silenceDue := none }
  qt := ⟨.replicate 48 (.fresh 0), 10000⟩
  ssu := ⟨.stopped, none, [], none, [], none⟩
  gdu := .replicate 6 (.afterReset ⟨2000, 20000⟩)
  weu :=
    { inForce := .replicate 32 .builtIn
      strengths := .replicate 48 .notEvaluated
      passCount := 0
      evalDue := none
      pass := none
      warnings := .replicate 48 ⟨.disabled, false, none, none, .none⟩
      lamps := .replicate 32 .afterReset
      driveLevel := 100
      flash := none
      lampDue := none }
  dtu := ⟨0, 60000000, .replicate 2 (.empty none), 0, false⟩
  anu :=
    { queue := []
      shown := none
      arrivals := 0
      hostHold := false
      proofHold := false
      refreshDue := none
      content := blankLine
      lastSent := blankLine
      transfer := some ⟨blankLine, 2000⟩
      owed := false
      sounder := .silent }
  psc := ⟨.sleep, .stopped, false, false, 1, 10000⟩
  cs := ⟨.absent, none, true, none⟩

end State

end Sys2Proof.Machine
end

