-- ==== Sys2Proof/Machine/Operands.lean ====
section
/-! DEFINITION. Bytes: how fields are read from a request body and written into a reply body or a report record (R194 to
R198), the check value and the frames. A reader of a field answers none where the value is not one the field may hold;
the request that owns it then answers RANGE. -/
namespace Sys2Proof.Machine

/-! ### Writing fields (R198): most significant byte first, absent values with every bit set -/

def byte (n : Nat) : Byte := BitVec.ofNat 8 n
def be8 (n : Nat) : List Byte := [byte n]
def be16 (n : Nat) : List Byte := [byte (n / 256), byte n]
def be32 (n : Nat) : List Byte := [byte (n / 16777216), byte (n / 65536), byte (n / 256), byte n]
/-- A signed number in two bytes, two's complement. -/
def int16 (i : Int) : List Byte := be16 (i % 65536).toNat
/-- A signed number in four bytes, two's complement. -/
def int32 (i : Int) : List Byte := be32 (i % 4294967296).toNat
/-- A two-valued field: 1 for yes, set, on or asserted. -/
def flagByte (b : Bool) : List Byte := be8 (if b then 1 else 0)
/-- A value of a named list, as its position in the list. -/
def code {α : Type} [DecidableEq α] (l : List α) (x : α) : Nat := l.findIdx (fun y => decide (y = x))
def enumByte {α : Type} [DecidableEq α] (l : List α) (x : α) : List Byte := be8 (code l x)
/-- A field of `width` bytes that is absent. -/
def absentField (width : Nat) : List Byte := List.replicate width 0xFF#8
/-- A field that may be absent, at its full width. -/
def optField {α : Type} (width : Nat) (f : α → List Byte) : Option α → List Byte
  | none => absentField width
  | some x => f x
def indexByte {n : Nat} (i : Fin n) : List Byte := be8 i.val
/-- An index field that may hold none, coded 0xFF (R194). -/
def optIndex {n : Nat} : Option (Fin n) → List Byte := optField 1 indexByte
/-- A list of varying length: its count and then its elements. -/
def countedList {α : Type} (f : α → List Byte) (l : List α) : List Byte := be8 l.length ++ l.flatMap f

/-! ### Reading fields -/

/-- The byte at an offset of a body, as a number. -/
def byteAt (b : List Byte) (i : Nat) : Nat := (b.getD i 0#8).toNat
def wordAt (b : List Byte) (i : Nat) : Nat := byteAt b i * 256 + byteAt b (i + 1)
def longAt (b : List Byte) (i : Nat) : Nat := wordAt b i * 65536 + wordAt b (i + 2)
/-- A signed two-byte number. -/
def intAt (b : List Byte) (i : Nat) : Int := if wordAt b i < 32768 then (wordAt b i : Int) else (wordAt b i : Int) - 65536
/-- An index below `n`. -/
def readIndex (n : Nat) (k : Nat) : Option (Fin n) := if h : k < n then some ⟨k, h⟩ else none
/-- An index below `n`, or 0xFF for none. -/
def readOptIndex (n : Nat) (k : Nat) : Option (Option (Fin n)) :=
  if k = 255 then some none else (readIndex n k).map some
def readFlag (k : Nat) : Option Bool := if k = 0 then some false else if k = 1 then some true else none
def readEnum {α : Type} (l : List α) (k : Nat) : Option α := l[k]?
/-- A slot, sent as 1 or 2. -/
def readSlot (k : Nat) : Option (Fin 2) := if k = 1 then some 0 else if k = 2 then some 1 else none
/-- A number that must satisfy a condition. -/
def readWhen {α : Type} (ok : Bool) (x : α) : Option α := if ok then some x else none
def slotByte (slot : Fin 2) : List Byte := be8 (slot.val + 1)

/-! ### Check value and frames (R194) -/

/-- One bit of the cyclic check with generator polynomial 0x1021. -/
def checkBit (r : BitVec 16) : BitVec 16 := if r.msb then (r <<< 1) ^^^ 0x1021#16 else r <<< 1
/-- One byte into the check register, most significant bit first. -/
def checkByte (r : BitVec 16) (b : Byte) : BitVec 16 :=
  checkBit (checkBit (checkBit (checkBit (checkBit (checkBit (checkBit (checkBit
    (r ^^^ (b.setWidth 16 <<< 8)))))))))
/-- CHECK over the LENGTH byte and the bytes after it: register preset to 0xFFFF, no final inversion. -/
def checkValue (bytes : List Byte) : BitVec 16 := bytes.foldl checkByte 0xFFFF#16

def syncByte : Byte := 0xC5#8

/-- The status byte (R194). -/
def Status.code : Status → Byte
  | .ok => 0x00 | .coerced => 0x01 | .superseded => 0x02 | .suppressed => 0x03 | .busy => 0x10
  | .asleep => 0x20 | .driving => 0x21 | .notStopped => 0x22 | .noHold => 0x23 | .noCard => 0x24 | .state => 0x25
  | .range => 0x30 | .conflict => 0x31 | .locked => 0x32 | .unknown => 0x3E | .length => 0x3F

/-- A frame: SYNC, LENGTH, the bytes it counts, CHECK. -/
def frameOf (content : List Byte) : List Byte :=
  let counted := byte content.length :: content
  syncByte :: counted ++ be16 (checkValue counted).toNat

/-- The reply frame of a reply (R194): TAG, KIND with the reply mark, STATUS, BODY. The mark is set as bit 7, so that a KIND
of an unknown request that has it already, to which 0x80 cannot be added in a byte, is returned as it is: the model's choice
(log entry 44). -/
def Reply.frame (r : Reply) : List Byte := frameOf (r.tag :: (r.kind ||| 0x80#8) :: r.status.code :: r.body)

/-- The request frame that carries a request (R194). -/
def requestFrame (tag kind : Byte) (body : List Byte) : List Byte := frameOf (tag :: kind :: body)

/-! ### Report records (R196) -/

/-- The kind code of a report kind, 0x01-0x19. -/
def ReportKind.code (k : ReportKind) : Nat := Machine.code ReportKind.list k + 1
/-- The report kind of a code. -/
def readReportKind (k : Nat) : Option ReportKind := if k = 0 then none else readEnum ReportKind.list (k - 1)
/-- The six bytes of a record. -/
def Report.bytes (r : Report) : List Byte :=
  be8 (r.kind.code + (if r.urgent then 0x80 else 0)) ++ [r.subject] ++ be16 r.detail.toNat ++ be16 r.stamp.toNat

/-- The source number of an announcement's source (R160). -/
def AnnSource.number : AnnSource → Nat
  | .warning w => w.val
  | .duty slot .continuous => 48 + 3 * slot.val
  | .duty slot .daily => 48 + 3 * slot.val + 1
  | .duty slot .weekly => 48 + 3 * slot.val + 2
  | .host h => 56 + h.val

/-! ### Configurations, as the body of the request that sets them without the index (R198) -/

/-- The source of a quantity: the source and its binding (R198). -/
def QSource.pair : QSource → List Byte
  | .none => [0x00#8, 0xFF#8]
  | .scan f => 0x01#8 :: indexByte f.input
  | .switch i _ => 0x02#8 :: indexByte i
  | .link _ => [0x03#8, 0xFF#8]
  | .duty => [0x04#8, 0xFF#8]

/-- A quantity's configuration (R15); the fields that do not exist under its source are absent (log entry 15). -/
def QSource.bytes (c : QSource) : List Byte :=
  c.pair ++ match c with
    | .none | .duty => absentField 12
    | .scan f => absentField 2 ++ be16 f.rawLow ++ be16 f.rawHigh ++ be8 f.confirm ++ int16 f.gain ++ int16 f.offset ++
        absentField 1
    | .switch _ debounce => absentField 11 ++ be8 (debounce / 10)
    | .link refresh => be16 (refresh / 10) ++ absentField 10

def Calibration.bytes (c : Calibration) : List Byte :=
  countedList (fun p : Int × Nat => int16 p.1 ++ be16 p.2) c.breakpoints ++ be16 c.minPos ++ be16 c.maxPos

def Profile.bytes (p : Profile) : List Byte := be16 p.maxSpeed ++ be16 p.accel

/-- A gauge's configuration in the order of R38. -/
def GaugeSettings.bytes (c : GaugeSettings) : List Byte :=
  optIndex c.source ++ c.calibration.bytes ++ be16 c.rest ++ be8 c.damping ++ be8 c.deadband ++ c.profile.bytes ++
  enumByte HomingMode.list c.homingMode ++ be16 c.homeTravel ++ be16 c.homingSpeed ++
  enumByte InvalidAction.list c.invalid ++ flagByte c.sweepAtProof ++ flagByte c.rehome

def Shape.bytes (c : Shape) : List Byte :=
  optIndex c.quantity ++ int16 c.a ++ int16 c.b ++ int16 c.c ++ int16 c.d ++
  be8 ((if c.openLow then 1 else 0) + (if c.openHigh then 2 else 0)) ++ be8 c.invalid

/-- The set of statuses of a STATUS term, one bit for each (R197). -/
def statusSetByte (l : List QStatus) : Nat :=
  (if l.contains .absent then 1 else 0) + (if l.contains .valid then 2 else 0) +
  (if l.contains .stale then 4 else 0) + (if l.contains .fault then 8 else 0)

/-- A term: its kind byte and its operand (R197). -/
def Term.bytes (t : Term) : List Byte :=
  let mark := if t.complement then 0x80 else 0
  match t.kind with
  | .grade f => be8 (0 + mark) ++ be16 f.val
  | .status q among => be8 (1 + mark) ++ indexByte q ++ be8 (statusSetByte among)
  | .engaged w => be8 (2 + mark) ++ be16 w.val
  | .condition c => be8 (3 + mark) ++ be16 (code TermCondition.list c)
  | .constant k => be8 (4 + mark) ++ be16 k

def criterionBytes (c : Criterion) : List Byte := countedList (countedList Term.bytes) c

/-- A warning's configuration in the order of R83. -/
def WarnSettings.bytes (c : WarnSettings) : List Byte :=
  flagByte c.enabled ++ enumByte WarnClass.list c.cls ++ optIndex c.lamp ++ be8 c.raiseLevel ++ be8 c.clearLevel ++
  be8 (c.raiseDelay / 100) ++ flagByte c.latching ++ optIndex c.message ++ enumByte Chime.list c.chime ++ be8 c.reminder

/-- A limit set: nine two-byte limits in the order of R111 (R197). -/
def LimitSet.bytes (l : LimitSet) : List Byte :=
  be16 l.continuous ++ be16 l.continuousMargin ++ be16 l.breakLength ++ be16 l.breakSegment ++ be16 l.daily ++
  be16 l.dailyMargin ++ be16 l.dailyRest ++ be16 l.weeklyRest ++ be16 l.weekly

/-- The settings of R112 in the order of CONFIGURE DUTY (R197). -/
def DutySettings.bytes (d : DutySettings) : List Byte :=
  (d.limits.get 0).bytes ++ (d.limits.get 1).bytes ++ indexByte d.speed ++ be16 d.threshold ++ be8 d.mismatchMinutes

/-- The field kind and operand of a placeholder (R197). -/
def Field.bytes : Field → List Byte
  | .quantityValue q => 0x00#8 :: indexByte q
  | .quantityStatus q => 0x01#8 :: indexByte q
  | .slotActivity s => 0x02#8 :: slotByte s
  | .slotCard s => 0x03#8 :: slotByte s
  | .continuousRemaining s => 0x04#8 :: slotByte s
  | .dailyRemaining s => 0x05#8 :: slotByte s
  | .weeklyRemaining s => 0x06#8 :: slotByte s
  | .breakCredit s => 0x07#8 :: slotByte s

def Placeholder.bytes (p : Placeholder) : List Byte :=
  be8 p.start ++ be8 p.width ++ p.field.bytes ++ enumByte Format.list p.format

def Message.bytes (m : Message) : List Byte := m.chars.items ++ countedList Placeholder.bytes m.placeholders

def DutyMessage.bytes (m : DutyMessage) : List Byte := optIndex m.message ++ enumByte Chime.list m.chime

def ScanEntry.bytes (e : ScanEntry) : List Byte := indexByte e.input ++ enumByte ScanGroup.list e.group ++ be8 e.depth

/-- The scan configuration in the order of CONFIGURE SCAN (R31). -/
def ScanSettings.bytes (c : ScanSettings) : List Byte :=
  countedList ScanEntry.bytes c.list ++ be8 c.interval ++ flagByte c.autostart

def LampSettings.bytes (c : LampSettings) : List Byte := enumByte LampMode.list c.mode ++ flagByte c.proved

/-- The silence timeout and the attention threshold (R187, R193). -/
def LinkSettings.bytes (c : LinkSettings) : List Byte := be8 (c.silence / 10) ++ be8 c.threshold

/-- The proof time and the start message (R171, R193). -/
def PowerSettings.bytes (c : PowerSettings) : List Byte := be8 c.proofTime ++ optIndex c.startMessage

/-- The settings of CONFIGURE LINE, then the priority map and the resting page (R159). -/
def Settings.lineBytes (c : Settings) : List Byte :=
  c.line.dwells.items.flatMap (fun d => be8 (d / 100)) ++ be8 c.line.showTime ++ be8 c.line.rotation ++
  optIndex c.line.acknowledge ++ c.priorityMap.items.flatMap (enumByte AnnClass.list) ++ optIndex c.restingPage

/-! ### The stored image (R190, R194) -/

/-- The bytes of the stored image: every setting of the active configuration, block by block, in the coding of R198. That
the image is laid out so is the model's choice (log entry 40). -/
def Settings.imageBytes (c : Settings) : List Byte :=
  c.sources.items.flatMap QSource.bytes ++ c.scan.bytes ++ c.gauges.items.flatMap GaugeSettings.bytes ++
  c.shapes.items.flatMap Shape.bytes ++ c.criteria.items.flatMap criterionBytes ++ be8 (c.evalInterval / 10) ++
  c.warnings.items.flatMap WarnSettings.bytes ++ c.lamps.items.flatMap LampSettings.bytes ++ optIndex c.dimmer ++
  c.duty.bytes ++ c.messages.items.flatMap Message.bytes ++ c.lineBytes ++
  c.dutyMessages.items.flatMap DutyMessage.bytes ++ c.power.bytes ++ c.link.bytes ++
  c.routes.items.flatMap (enumByte Route.list)

/-- The check value of an image, taken over the whole of it (R194). -/
def Settings.check (c : Settings) : BitVec 16 := checkValue c.imageBytes

/-- An image written whole, with its check value after it (R191). -/
def StoredImage.written (c : Settings) : StoredImage := .held c c.check

/-- An image left with a check value that does not match (R191, log entry 40). -/
def StoredImage.brokenOff (c : Settings) : StoredImage :=
  .held c (c.check + BitVec.ofNat 16 (Config.checkErrorLess1.val + 1))

/-- The settings of an image whose check value, formed afresh, matches the one held beside it (R190). -/
def StoredImage.read : StoredImage → Option Settings
  | .absent => none
  | .held c check => if c.check = check then some c else none

/-! ### Bodies of requests: their allowed lengths (step 3 of R175, R197, R198) -/

/-- A body of exactly `n` bytes. -/
def exactly (n : Nat) (b : List Byte) : Bool := decide (b.length = n)

/-- A body of `least` to `most` whole elements of `size` bytes. -/
def elements (size least most : Nat) (b : List Byte) : Bool :=
  decide (b.length % size = 0 ∧ least * size ≤ b.length ∧ b.length ≤ most * size)

/-- CONFIGURE SCAN: the list with its count, the interval, the autostart flag. -/
def scanBodyFits (b : List Byte) : Bool := decide (1 ≤ b.length ∧ b.length = 3 * byteAt b 0 + 3)

/-- CONFIGURE GAUGE: 23 bytes and four for each breakpoint counted. -/
def gaugeBodyFits (b : List Byte) : Bool := decide (3 ≤ b.length ∧ b.length = 23 + 4 * byteAt b 2)

/-- CONFIGURE MESSAGE: 18 bytes and five for each placeholder counted (R197). -/
def messageBodyFits (b : List Byte) : Bool := decide (18 ≤ b.length ∧ b.length = 18 + 5 * byteAt b 17)

/-- The bytes of the clauses of a criterion, `n` clauses to come: none where the body ends too soon. -/
def clausesRest : Nat → List Byte → Option (List Byte)
  | 0, b => some b
  | _ + 1, [] => none
  | n + 1, t :: b => if 3 * t.toNat ≤ b.length then clausesRest n (b.drop (3 * t.toNat)) else none

/-- CONFIGURE CRITERION: the counts give the length (R197). -/
def criterionBodyFits (b : List Byte) : Bool :=
  decide (2 ≤ b.length) && decide (clausesRest (byteAt b 1) (b.drop 2) = some [])

/-- The bytes of the optional fields whose presence bits are set (R197). -/
def presentBytes (presence : Nat) : Nat :=
  presence % 2 + 2 * (presence / 2 % 2) + 2 * (presence / 4 % 2) + 2 * (presence / 8 % 2) + 2 * (presence / 16 % 2) +
  2 * (presence / 32 % 2)

/-- CARD IN: 6 plus the bytes of the fields present (R197). -/
def cardInBodyFits (b : List Byte) : Bool := decide (6 ≤ b.length ∧ b.length = 6 + presentBytes (byteAt b 5))

/-! ### Bodies of requests: their fields, with the range checks of the owning rule -/

/-- The value of a number of steps when the rule allows it. -/
def readSteps (step least most : Nat) (n : Nat) : Option Nat :=
  readWhen (decide (least ≤ n * step ∧ n * step ≤ most)) (n * step)

/-- As readSteps, with 0 allowed beside the range. -/
def readStepsOrZero (step least most : Nat) (n : Nat) : Option Nat :=
  if n = 0 then some 0 else readSteps step least most n

def readRange (least most : Nat) (n : Nat) : Option Nat := readWhen (decide (least ≤ n ∧ n ≤ most)) n

/-- SET ROUTE (R186): the kind, the class used for WARNING RAISED alone, the route. -/
def readRouteChange (b : List Byte) : Option (Fin 27 × Route) := do
  let kind ← readReportKind (byteAt b 0)
  let cls ← if kind = .warningRaised then readEnum WarnClass.list (byteAt b 1) else some .stop
  let route ← readEnum Route.list (byteAt b 2)
  if route = .afterShown ∧ kind ≠ .warningRaised then none else some (routeIndex kind cls, route)

/-- CONFIGURE LINK (R187). -/
def readLinkSettings (b : List Byte) : Option LinkSettings := do
  let silence ← readStepsOrZero 10 100 2000 (byteAt b 0)
  let threshold ← readRange 1 32 (byteAt b 1)
  some ⟨silence, threshold⟩

/-- CONFIGURE POWER (R171). -/
def readPowerSettings (b : List Byte) : Option PowerSettings := do
  let proofTime ← readRange 1 5 (byteAt b 0)
  let startMessage ← readOptIndex 64 (byteAt b 1)
  some ⟨proofTime, startMessage⟩

/-- The SCAN fields of CONFIGURE QUANTITY (R15). -/
def readScanFields (b : List Byte) : Option ScanFields := do
  let input ← readIndex 16 (byteAt b 2)
  let rawLow ← readRange 0 1023 (wordAt b 5)
  let rawHigh ← readRange rawLow 1023 (wordAt b 7)
  let confirm ← readRange 1 15 (byteAt b 9)
  some ⟨input, rawLow, rawHigh, confirm, intAt b 10, intAt b 12⟩

/-- The source of CONFIGURE QUANTITY with the fields that belong to it; the others are ignored (R15, log entry 15). -/
def readSource (b : List Byte) : Option QSource :=
  match byteAt b 1 with
  | 0 => some .none
  | 1 => (readScanFields b).map .scan
  | 2 => do
    let input ← readIndex 8 (byteAt b 2)
    let debounce ← readSteps 10 0 250 (byteAt b 14)
    some (.switch input debounce)
  | 3 => (readStepsOrZero 10 20 10000 (wordAt b 3)).map .link
  | 4 => some .duty
  | _ => none

/-- CONFIGURE QUANTITY (R15): DUTY for Q44-Q47 and for them alone. -/
def readQuantityConfig (b : List Byte) : Option (Fin 48 × QSource) := do
  let q ← readIndex 48 (byteAt b 0)
  let source ← readSource b
  readWhen (decide (source = .duty ↔ 44 ≤ q.val)) (q, source)

/-- One entry of CONFIGURE SCAN with its depth as sent (R31, R32). -/
def readScanEntry (b : List Byte) (i : Nat) : Option ScanEntry := do
  let input ← readIndex 16 (byteAt b (3 * i + 1))
  let group ← readEnum ScanGroup.list (byteAt b (3 * i + 2))
  some ⟨input, group, byteAt b (3 * i + 3)⟩

/-- Every element of a list read in order, or none if one cannot be. -/
def readAll {α β : Type} (f : α → Option β) : List α → Option (List β)
  | [] => some []
  | x :: xs => do
    let y ← f x
    let ys ← readAll f xs
    some (y :: ys)

/-- CONFIGURE SCAN (R31), with the depths as sent. -/
def readScanSettings (b : List Byte) : Option ScanSettings := do
  let n ← readRange 0 16 (byteAt b 0)
  let list ← readAll (readScanEntry b) (List.range n)
  let list ← readWhen (decide ((list.map ScanEntry.input).Nodup)) list
  let interval ← readRange 5 100 (byteAt b (3 * n + 1))
  let autostart ← readFlag (byteAt b (3 * n + 2))
  some ⟨list, interval, autostart⟩

/-- The breakpoints of CONFIGURE GAUGE. -/
def readBreakpoint (b : List Byte) (i : Nat) : Option (Int × Nat) := do
  let position ← readRange 0 4095 (wordAt b (4 * i + 5))
  some (intAt b (4 * i + 3), position)

/-- Values that strictly increase. -/
def strictlyIncreasing : List Int → Bool
  | x :: y :: rest => decide (x < y) && strictlyIncreasing (y :: rest)
  | [_] => true
  | [] => true

/-- CONFIGURE GAUGE (R63), with the damping depth as sent. -/
def readGaugeSettings (b : List Byte) : Option (Fin 6 × GaugeSettings) := do
  let g ← readIndex 6 (byteAt b 0)
  let source ← readOptIndex 48 (byteAt b 1)
  let n ← readRange 2 8 (byteAt b 2)
  let points ← readAll (readBreakpoint b) (List.range n)
  let points ← readWhen (strictlyIncreasing (points.map Prod.fst)) points
  let o := 3 + 4 * n
  let maxPos ← readRange 1 4095 (wordAt b (o + 2))
  let minPos ← readRange 0 (maxPos - 1) (wordAt b o)
  let rest ← readRange minPos maxPos (wordAt b (o + 4))
  let deadband ← readRange 0 32 (byteAt b (o + 7))
  let maxSpeed ← readRange 50 6000 (wordAt b (o + 8))
  let accel ← readRange 500 60000 (wordAt b (o + 10))
  let mode ← readEnum HomingMode.list (byteAt b (o + 12))
  let travel ← readRange 1 4600 (wordAt b (o + 13))
  let speed ← readRange 50 1000 (wordAt b (o + 15))
  let invalid ← readEnum InvalidAction.list (byteAt b (o + 17))
  let sweep ← readFlag (byteAt b (o + 18))
  let rehome ← readFlag (byteAt b (o + 19))
  some (g, ⟨source, ⟨points, minPos, maxPos⟩, rest, byteAt b (o + 6), deadband, ⟨maxSpeed, accel⟩, mode, travel, speed,
    invalid, sweep, rehome⟩)

/-- CONFIGURE SHAPE (R79). -/
def readShape (b : List Byte) : Option (Fin 32 × Shape) := do
  let f ← readIndex 32 (byteAt b 0)
  let quantity ← readOptIndex 48 (byteAt b 1)
  let flags ← readRange 0 3 (byteAt b 10)
  let shape : Shape := ⟨quantity, intAt b 2, intAt b 4, intAt b 6, intAt b 8, decide (flags % 2 = 1),
    decide (flags / 2 = 1), byteAt b 11⟩
  readWhen (decide (shape.a ≤ shape.b ∧ shape.b ≤ shape.c ∧ shape.c ≤ shape.d)) (f, shape)

/-- The set of statuses that a byte gives (R197). -/
def readStatusSet (n : Nat) : Option (List QStatus) :=
  if n = 0 ∨ 16 ≤ n then none
  else some ((if n % 2 = 1 then [.absent] else []) ++ (if n / 2 % 2 = 1 then [.valid] else []) ++
    (if n / 4 % 2 = 1 then [.stale] else []) ++ (if n / 8 % 2 = 1 then [.fault] else []))

/-- A term of CONFIGURE CRITERION (R80, R197). Bits 3-6 of the kind byte, which R197 does not name, are read as part of
the kind, so that a set one is answered RANGE; this is the model's choice (log entry 35). -/
def readTerm (kind hi lo : Byte) : Option Term := do
  let operand := hi.toNat * 256 + lo.toNat
  let read ← match kind.toNat % 128 with
    | 0 => (readIndex 32 operand).map TermKind.grade
    | 1 => do
      let q ← readIndex 48 hi.toNat
      let among ← readStatusSet lo.toNat
      some (.status q among)
    | 2 => (readIndex 48 operand).map .engaged
    | 3 => (readEnum TermCondition.list operand).map .condition
    | 4 => (readRange 0 255 operand).map .constant
    | _ => none
  some ⟨read, decide (128 ≤ kind.toNat)⟩

/-- `n` terms from the front of a list of bytes. -/
def readTerms : Nat → List Byte → Option (List Term × List Byte)
  | 0, b => some ([], b)
  | n + 1, kind :: hi :: lo :: b => do
    let t ← readTerm kind hi lo
    let (ts, rest) ← readTerms n b
    some (t :: ts, rest)
  | _ + 1, _ => none

/-- `n` clauses of one to three terms from the front of a list of bytes. -/
def readClauses : Nat → List Byte → Option Criterion
  | 0, _ => some []
  | _ + 1, [] => none
  | n + 1, t :: b => do
    let count ← readRange 1 3 t.toNat
    let (terms, rest) ← readTerms count b
    let clauses ← readClauses n rest
    some (terms :: clauses)

/-- CONFIGURE CRITERION (R80). -/
def readCriterion (b : List Byte) : Option (Fin 48 × Criterion) := do
  let w ← readIndex 48 (byteAt b 0)
  let n ← readRange 0 4 (byteAt b 1)
  let criterion ← readClauses n (b.drop 2)
  some (w, criterion)

/-- CONFIGURE WARNING (R96). -/
def readWarnSettings (b : List Byte) : Option (Fin 48 × WarnSettings) := do
  let w ← readIndex 48 (byteAt b 0)
  let enabled ← readFlag (byteAt b 1)
  let cls ← readEnum WarnClass.list (byteAt b 2)
  let lamp ← readOptIndex 32 (byteAt b 3)
  let raiseLevel ← readRange 1 255 (byteAt b 4)
  let clearLevel ← readRange 0 (raiseLevel - 1) (byteAt b 5)
  let raiseDelay ← readSteps 100 0 25500 (byteAt b 6)
  let latching ← readFlag (byteAt b 7)
  let message ← readOptIndex 64 (byteAt b 8)
  let chime ← readEnum Chime.list (byteAt b 9)
  let reminder ← readRange 0 60 (byteAt b 10)
  some (w, ⟨enabled, cls, lamp, raiseLevel, clearLevel, raiseDelay, latching, message, chime, reminder⟩)

/-- CONFIGURE LAMP (R106). -/
def readLampSettings (b : List Byte) : Option (Fin 32 × LampSettings) := do
  let l ← readIndex 32 (byteAt b 0)
  let mode ← readEnum LampMode.list (byteAt b 1)
  let proved ← readFlag (byteAt b 2)
  some (l, ⟨mode, proved⟩)

/-- A limit set at an offset (R197); valid or not at all (R111). -/
def readLimitSet (b : List Byte) (i : Nat) : Option LimitSet :=
  let l : LimitSet := ⟨wordAt b i, wordAt b (i + 2), wordAt b (i + 4), wordAt b (i + 6), wordAt b (i + 8),
    wordAt b (i + 10), wordAt b (i + 12), wordAt b (i + 14), wordAt b (i + 16)⟩
  readWhen l.valid l

/-- CONFIGURE DUTY (R113). -/
def readDutySettings (b : List Byte) : Option DutySettings := do
  let one ← readLimitSet b 0
  let two ← readLimitSet b 18
  let speed ← readIndex 48 (byteAt b 36)
  let threshold ← readRange 0 32767 (wordAt b 37)
  let minutes ← readRange 1 10 (byteAt b 39)
  some ⟨⟨[one, two], rfl⟩, speed, threshold, minutes⟩

/-- STAGE LIMITS (R114). -/
def readStagedLimits (b : List Byte) : Option (Fin 2 × LimitSet) := do
  let slot ← readSlot (byteAt b 0)
  let limits ← readLimitSet b 1
  some (slot, limits)

/-- The carried summary of a CARD IN (chapter 6, section 6.5), absent fields taken as 0. -/
structure Summary where
  continuous : Nat
  credit : Nat
  daily : Nat
  weekly : Nat
  elapsed : Nat
  deriving DecidableEq, Repr

/-- The field of CARD IN with a presence bit: its two bytes stand after those of the lower bits that are set. -/
def summaryField (b : List Byte) (bit : Nat) : Nat :=
  let presence := byteAt b 5
  if presence / 2 ^ bit % 2 = 1 then wordAt b (6 + presentBytes (presence % 2 ^ bit)) else 0

def readSummary (b : List Byte) : Summary :=
  ⟨summaryField b 1, summaryField b 2, summaryField b 3, summaryField b 4, summaryField b 5⟩

/-- The slot and the activity of CARD IN (first check of R117): UNKNOWN when none is given; a presence byte with bit 6 or
7 set is refused here (R197, log entry 20). -/
def readCardIn (b : List Byte) : Option (Fin 2 × Activity) := do
  let slot ← readSlot (byteAt b 0)
  let presence ← readRange 0 63 (byteAt b 5)
  let activity ← if presence % 2 = 1 then readEnum Activity.list (byteAt b 6) else some .unknown
  some (slot, activity)

/-- The token of CARD IN. -/
def readToken (b : List Byte) : BitVec 32 := BitVec.ofNat 32 (longAt b 1)

/-- DUTY ACTIVITY (R115). -/
def readActivity (b : List Byte) : Option (Fin 2 × Activity) := do
  let slot ← readSlot (byteAt b 0)
  let activity ← readEnum Activity.list (byteAt b 1)
  some (slot, activity)

/-- The field of a placeholder with its allowed formats (R134, R197). -/
def readField (kind operand : Nat) (format : Format) : Option Field := do
  let numeric := format = .integer ∨ format = .hoursMinutes
  match kind with
  | 0 => if numeric then (readIndex 48 operand).map .quantityValue else none
  | 1 => if format = .word then (readIndex 48 operand).map .quantityStatus else none
  | 2 => if format = .word then (readSlot operand).map .slotActivity else none
  | 3 => if format = .word then (readSlot operand).map .slotCard else none
  | 4 => if numeric then (readSlot operand).map .continuousRemaining else none
  | 5 => if numeric then (readSlot operand).map .dailyRemaining else none
  | 6 => if numeric then (readSlot operand).map .weeklyRemaining else none
  | 7 => if numeric then (readSlot operand).map .breakCredit else none
  | _ => none

/-- The placeholder at an offset of CONFIGURE MESSAGE. -/
def readPlaceholder (b : List Byte) (i : Nat) : Option Placeholder := do
  let start ← readRange 1 16 (byteAt b i)
  let width ← readRange 1 6 (byteAt b (i + 1))
  let format ← readEnum Format.list (byteAt b (i + 4))
  let field ← readField (byteAt b (i + 2)) (byteAt b (i + 3)) format
  readWhen (decide (start + width ≤ 17)) ⟨start, width, field, format⟩

/-- Two placeholders share a column (R134). -/
def Placeholder.overlaps (p q : Placeholder) : Bool :=
  decide (p.start < q.start + q.width ∧ q.start < p.start + p.width)

/-- The sixteen bytes at an offset, which must lie in the display set 0x20-0x5F (R197). -/
def readChars (b : List Byte) (i : Nat) : Option (Table 16 Byte) :=
  let chars : Table 16 Byte := Table.ofFn fun j => b.getD (i + j.val) 0#8
  readWhen (chars.items.all fun c => decide (0x20 ≤ c.toNat ∧ c.toNat ≤ 0x5F)) chars

/-- CONFIGURE MESSAGE (R134). -/
def readMessage (b : List Byte) : Option (Fin 64 × Message) := do
  let m ← readIndex 64 (byteAt b 0)
  let chars ← readChars b 1
  match byteAt b 17 with
  | 0 => some (m, ⟨chars, []⟩)
  | 1 => do
    let p ← readPlaceholder b 18
    some (m, ⟨chars, [p]⟩)
  | 2 => do
    let p ← readPlaceholder b 18
    let q ← readPlaceholder b 23
    if p.overlaps q then none else some (m, ⟨chars, [p, q]⟩)
  | _ => none

/-- CONFIGURE LINE (R136). -/
def readLineSettings (b : List Byte) : Option LineSettings := do
  let d0 ← readSteps 100 0 10000 (byteAt b 0)
  let d1 ← readSteps 100 0 10000 (byteAt b 1)
  let d2 ← readSteps 100 0 10000 (byteAt b 2)
  let d3 ← readSteps 100 0 10000 (byteAt b 3)
  let d4 ← readSteps 100 0 10000 (byteAt b 4)
  let d5 ← readSteps 100 0 10000 (byteAt b 5)
  let showTime ← readRange 1 25 (byteAt b 6)
  let rotation ← readStepsOrZero 1 2 60 (byteAt b 7)
  let acknowledge ← readOptIndex 48 (byteAt b 8)
  some ⟨⟨[d0, d1, d2, d3, d4, d5], rfl⟩, showTime, rotation, acknowledge⟩

/-- One position of CONFIGURE DUTY MESSAGES (R137). -/
def readDutyMessage (b : List Byte) (i : Nat) : Option DutyMessage := do
  let message ← readOptIndex 64 (byteAt b (2 * i))
  let chime ← readEnum Chime.list (byteAt b (2 * i + 1))
  some ⟨message, chime⟩

/-- A list of exactly `n` elements as a table. -/
def toTable {α : Type} (n : Nat) (l : List α) : Option (Table n α) := if h : l.length = n then some ⟨l, h⟩ else none

def readDutyMessages (b : List Byte) : Option (Table 16 DutyMessage) := do
  let l ← readAll (readDutyMessage b) (List.range 16)
  toTable 16 l

/-- SET PRIORITY MAP (R143): each of the six classes exactly once. -/
def readPriorityMap (b : List Byte) : Option (Table 6 AnnClass) := do
  let l ← readAll (fun i => readEnum AnnClass.list (byteAt b i)) (List.range 6)
  let t ← toTable 6 l
  readWhen (decide (l.Nodup)) t

/-- ANNOUNCE (R150). -/
def readAnnounce (b : List Byte) : Option (Fin 8 × Fin 64 × Chime) := do
  let h ← readIndex 8 (byteAt b 0)
  let m ← readIndex 64 (byteAt b 1)
  let chime ← readEnum Chime.list (byteAt b 2)
  some (h, m, chime)

end Sys2Proof.Machine
end

