-- ==== Sys2Proof/Machine/Flags.lean ====
section
/-! DEFINITION. The conditions and indications of the blocks, each computed from the state that its rule names: the twelve
conditions of STATUS (R184), GAUGES READY and GAUGES PARKED (R61), the DRIVING question (R116), what is driven and
energised, and the attention reasons (R182). -/
namespace Sys2Proof.Machine

/-- LINK LOST (R177). -/
def State.linkLost (s : State) : Bool := s.lp.lostSince.isSome
/-- SCAN STOPPED (R22). -/
def State.scanStopped (s : State) : Bool := decide (s.ssu.mode = .stopped)
/-- QUANTITY FAULT ANY (R14). -/
def State.quantityFaultAny (s : State) : Bool := s.qt.entries.items.any fun e => decide (e.status = .fault)
/-- QUANTITY STALE ANY (R14). -/
def State.quantityStaleAny (s : State) : Bool := s.qt.entries.items.any fun e => decide (e.status = .stale)
/-- GAUGE FAULT ANY (R59). -/
def State.gaugeFaultAny (s : State) : Bool := s.gdu.items.any fun g => decide (g.state = .fault)
/-- LAMP OPEN ANY (R105). -/
def State.lampOpenAny (s : State) : Bool := s.weu.lamps.items.any Lamp.isOpen
/-- SAVING (R191). -/
def State.saving (s : State) : Bool := s.cs.saving.isSome

/-- The twelve conditions in the order of the table of R184. -/
def State.conditions (s : State) : List Bool :=
  [s.linkLost, s.scanStopped, s.quantityFaultAny, s.quantityStaleAny, s.gaugeFaultAny, s.lampOpenAny, s.dtu.mismatch,
    s.cs.invalid, s.saving, s.anu.hostHold, s.anu.proofHold, s.lp.overflow]

/-- Bit n set when element n holds. -/
def bitsOf : List Bool → Nat
  | [] => 0
  | b :: rest => (if b then 1 else 0) + 2 * bitsOf rest

/-- A condition that a term may name (R73). -/
def State.holds (s : State) : TermCondition → Bool
  | .linkLost => s.linkLost
  | .lampOpenAny => s.lampOpenAny
  | .gaugeFaultAny => s.gaugeFaultAny
  | .dutyMismatch => s.dtu.mismatch
  | .scanStopped => s.scanStopped
  | .storeInvalid => s.cs.invalid

/-- GAUGES READY: no gauge is HOMING or SWEEPING (R61). -/
def State.gaugesReady (s : State) : Bool :=
  s.gdu.items.all fun g => decide (g.state ≠ .homing ∧ g.state ≠ .sweeping)

/-- GAUGES PARKED: every gauge is PARKED, UNHOMED or FAULT (R61). -/
def State.gaugesParked (s : State) : Bool :=
  s.gdu.items.all fun g => decide (g.state = .parked ∨ g.state = .unhomed ∨ g.state = .fault)

/-- A slot that is DRIVING: a PRESENT card with DRIVING current or pending (R116). -/
def Slot.driving (x : Slot) : Bool :=
  x.card.isSome && (decide (x.activity = .driving) || decide (x.pending = some .driving))

/-- The answer to the Power State Controller's question (R116). -/
def State.anyDriving (s : State) : Bool := s.dtu.slots.items.any Slot.driving

/-- A gauge's coils are driven (R40): in every state but UNHOMED and FAULT, outside SLEEP. -/
def State.coilsDriven (s : State) (g : Fin 6) : Bool :=
  s.powered && decide (s.psc.state ≠ .sleep ∧ (s.gdu.get g).state ≠ .unhomed ∧ (s.gdu.get g).state ≠ .fault)

/-- A lamp is energised (R100). -/
def State.energised (s : State) (l : Fin 32) : Bool :=
  decide (0 < s.weu.driveLevel) &&
    match (s.weu.lamps.get l).drive with
    | .dark => false
    | .steady => true
    | .flashing => match s.weu.flash with
      | none => false
      | some f => f.onHalf

/-- The reasons for attention that count (R182): an urgent record, or outside SLEEP the threshold. -/
def State.wantsAttention (s : State) : Bool :=
  s.lp.queue.any Report.urgent ||
    (decide (s.psc.state ≠ .sleep) && decide (s.cfg.link.threshold ≤ s.lp.queue.length))

/-- The value and VALID status of a quantity, none while it is not VALID or the quantity is NONE. -/
def State.validValue (s : State) : Option (Fin 48) → Option Int
  | none => none
  | some q => if (s.qt.entries.get q).status = .valid then some (s.qt.entries.get q).value else none

end Sys2Proof.Machine
end

