-- ==== Sys2Proof/Machine/Ops.lean ====
section
/-! DEFINITION. The operations every block shares: updates of one record of a table, time, posting a report (R179 to
R182), the reply, and taking a request (R174, R175). -/
namespace Sys2Proof.Machine

/-! ### One record of one table -/

def State.entry (s : State) (q : Fin 48) : Quantity := s.qt.entries.get q
def State.setEntry (s : State) (q : Fin 48) (e : Quantity) : State :=
  s.setQt { s.qt with entries := s.qt.entries.set q e }
def State.gauge (s : State) (g : Fin 6) : Gauge := s.gdu.get g
def State.setGauge (s : State) (g : Fin 6) (r : Gauge) : State := s.setGdu (s.gdu.set g r)
def State.warning (s : State) (w : Fin 48) : Warning := s.weu.warnings.get w
def State.setWarning (s : State) (w : Fin 48) (r : Warning) : State :=
  s.setWeu { s.weu with warnings := s.weu.warnings.set w r }
def State.lamp (s : State) (l : Fin 32) : Lamp := s.weu.lamps.get l
def State.setLamp (s : State) (l : Fin 32) (r : Lamp) : State :=
  s.setWeu { s.weu with lamps := s.weu.lamps.set l r }
def State.slot (s : State) (i : Fin 2) : Slot := s.dtu.slots.get i
def State.setSlot (s : State) (i : Fin 2) (x : Slot) : State :=
  s.setDtu { s.dtu with slots := s.dtu.slots.set i x }

/-- One operation for every index in rising order. -/
def forEach {n : Nat} (f : Fin n → State → State) (s : State) : State :=
  (List.finRange n).foldl (fun t i => f i t) s

/-! ### Time (log entry 2) -/

/-- The moment at which a timer set for `due` runs out: the clock is there at the latest now. -/
def State.reach (s : State) (due : Nat) : State := s.setNow (max s.now due)

/-- An event of a timer: nothing happens while the timer is stopped (log entry 3). -/
def onTimer (timer : Option Nat) (f : State → State) (s : State) : State :=
  match timer with
  | none => s
  | some due => f (s.reach due)

/-- An event of the part: nothing happens without supply (log entry 21). -/
def event (f : State → State) (s : State) : Host.Outcome State Fault Refusal :=
  .next (if s.powered then f s else s)

/-! ### Reports (R179 to R182) -/

/-- The attention line judged afresh (R182). -/
def judgeAttention (s : State) : State := s.setLp { s.lp with attention := s.wantsAttention }

/-- A record is posted (R179): behind the queue, or discarded with the overflow mark when the queue holds 32. -/
def postRecord (r : Report) (s : State) : State :=
  judgeAttention
    (if s.lp.queue.length < 32 then s.setLp { s.lp with queue := s.lp.queue ++ [r] }
    else s.setLp { s.lp with overflow := true })

/-- The stamp of a record made now: the lower 16 bits of the duty clock (R179). -/
def State.stamp (s : State) : BitVec 16 := BitVec.ofNat 16 s.dtu.clock

/-- A WARNING RAISED record joins the held list, which holds one record for each warning (R181). -/
def holdRecord (r : Report) (s : State) : State :=
  s.setLp { s.lp with held := s.lp.held.filter (fun h => decide (h.subject ≠ r.subject)) ++ [r] }

/-- A report handed to the Link Port, with the route in force (R180): `cls` is the class of a WARNING RAISED, and
`offered` says that its announcement was offered (R181). -/
def handWith (cls : WarnClass) (offered : Bool) (kind : ReportKind) (subject detail : Nat) (s : State) : State :=
  let r : Report := ⟨kind, byte subject, BitVec.ofNat 16 detail, s.stamp, false⟩
  match s.cfg.routes.get (routeIndex kind cls) with
  | .off => s
  | .post => postRecord r s
  | .urgent => postRecord { r with urgent := true } s
  | .afterShown => if offered then holdRecord r s else postRecord r s

/-- A report of any kind but WARNING RAISED handed to the Link Port. -/
def hand (kind : ReportKind) (subject detail : Nat) (s : State) : State := handWith .stop false kind subject detail s

/-- WARNING RAISED handed to the Link Port with its detail (R88, R196). -/
def handWarningRaised (w : Fin 48) (cls : WarnClass) (fromLatched offered : Bool) (s : State) : State :=
  handWith cls offered .warningRaised w.val
    (code WarnClass.list cls + (if fromLatched then 4 else 0) + (if offered then 8 else 0)) s

/-- The notice that a warning's entry is shown for the first time or has ended unshown: a held record is posted (R181). -/
def releaseHeld (w : Fin 48) (s : State) : State :=
  match s.lp.held.find? (fun h => decide (h.subject = byte w.val)) with
  | none => s
  | some r => postRecord r (s.setLp { s.lp with held := s.lp.held.filter (fun h => decide (h.subject ≠ byte w.val)) })

/-! ### Replies and requests (R174, R175) -/

/-- What a request answers: the state it leaves, the status and the reply body. -/
structure Answer where
  state : State
  status : Status
  body : List Byte

def Answer.ok (s : State) : Answer := ⟨s, .ok, []⟩
def Answer.okWith (s : State) (body : List Byte) : Answer := ⟨s, .ok, body⟩
/-- A refusal changes nothing and has an empty body (R176, R198). -/
def Answer.refuse (s : State) (status : Status) : Answer := ⟨s, status, []⟩

/-- The body as it is sent: a body longer than 240 bytes is left open (log entry 17). -/
def sentBody (body : List Byte) : List Byte :=
  if body.length ≤ 240 then body else (Config.oversizeBody body).take 240

/-- A reply begins (R174). -/
def beginReply (tag kind : Byte) (status : Status) (body : List Byte) (s : State) : State :=
  s.setLp { s.lp with reply := some ⟨tag, kind, status, sentBody body⟩ }

/-- The silence timer started afresh when it may run (R177): timeout not 0, not in SLEEP, LINK LOST not holding. -/
def restartSilence (s : State) : State :=
  if s.cfg.link.silence ≠ 0 ∧ s.psc.state ≠ .sleep ∧ s.linkLost = false then
    s.setLp { s.lp with silenceDue := some (s.now + Config.ms s.cfg.link.silence) }
  else s

/-- LINK LOST ends, if it holds (R178). -/
def endLinkLost (s : State) : State :=
  match s.lp.lostSince with
  | none => s
  | some since =>
    hand .linkRestored 0 (min 65535 ((s.now - since) / Config.sec 1)) (s.setLp { s.lp with lostSince := none })

/-- The last byte of a good frame: the receiver hunts again (R173), and step 1 of R175. -/
def goodFrame (s : State) : State :=
  restartSilence (endLinkLost (s.setLp { s.lp with receiver := .hunting, byteDue := none }))

/-- A good frame that arrives while a reply is in progress is discarded as an overrun (R174). -/
def overrun (tag kind : Byte) (s : State) : State := hand .linkOverrun tag.toNat kind.toNat s

/-- A request: its kind code, whether SLEEP accepts it (R170), its allowed body lengths and its own rule. -/
structure Request where
  kind : Byte
  inSleep : Bool
  fits : List Byte → Bool
  run : List Byte → State → Answer

/-- A request judged at steps 3 to 5 of R175. -/
def Request.judge (r : Request) (body : List Byte) (s : State) : Answer :=
  if r.fits body = false then Answer.refuse s .length
  else if s.psc.state = .sleep ∧ r.inSleep = false then Answer.refuse s .asleep
  else r.run body s

/-- A good frame of a known kind: an overrun, or taken, carried out and answered (R174, R175). -/
def Request.take (r : Request) (tag : Byte) (body : List Byte) (s : State) : State :=
  let s1 := goodFrame s
  match s1.lp.reply with
  | some _ => overrun tag r.kind s1
  | none =>
    let a := r.judge body s1
    beginReply tag r.kind a.status a.body a.state

/-- A good frame whose KIND names no request (step 2 of R175). -/
def takeUnknown (tag kind : Byte) (s : State) : State :=
  let s1 := goodFrame s
  match s1.lp.reply with
  | some _ => overrun tag kind s1
  | none => beginReply tag kind .unknown [] s1

/-- A request that changes the active configuration is refused with BUSY while a save is in progress, and with RANGE when
its fields cannot be read (R191 and the checks of each request). -/
def configuring {α : Type} (read : Option α) (act : α → Answer) (s : State) : Answer :=
  if s.saving then Answer.refuse s .busy
  else match read with
    | none => Answer.refuse s .range
    | some x => act x

/-- A request refused with RANGE when its fields cannot be read. -/
def reading {α : Type} (read : Option α) (act : α → Answer) (s : State) : Answer :=
  match read with
  | none => Answer.refuse s .range
  | some x => act x

end Sys2Proof.Machine
end

