-- ==== Sys2Proof/Machine/Lamps.lean ====
section
/-! DEFINITION. The lamps (R99 to R105) and the part of a warning's acknowledgement that needs nothing of the message line
(R91, R92). -/
namespace Sys2Proof.Machine

/-! ### Lamp drive (R100) -/

/-- A warning that names a lamp and is engaged (R84, R100). -/
def State.contributes (s : State) (l : Fin 32) (w : Fin 48) : Bool :=
  decide ((s.cfg.warnings.get w).lamp = some l) && (s.warning w).state.engaged

/-- A contributing warning of class STOP that is ACTIVE_NEW, or LATCHED with its acknowledged mark clear (R100). -/
def State.flashes (s : State) (l : Fin 32) (w : Fin 48) : Bool :=
  s.contributes l w && decide ((s.cfg.warnings.get w).cls = .stop) &&
    (decide ((s.warning w).state = .activeNew) ||
      (decide ((s.warning w).state = .latched) && !(s.warning w).acknowledged))

/-- The drive in mode RULE (R100). -/
def State.ruleDrive (s : State) (l : Fin 32) : Drive :=
  if (List.finRange 48).any (s.flashes l) then .flashing
  else if (List.finRange 48).any (s.contributes l) then .steady
  else .dark

/-- The drive in mode HOST (R100). -/
def HostLevel.drive : HostLevel → Drive
  | .off => .dark | .on => .steady | .flashing => .flashing

/-- The drive of a lamp by the table of R100. -/
def State.driveOf (s : State) (l : Fin 32) : Drive :=
  if s.psc.state = .sleep then .dark
  else if s.psc.state = .proving ∧ (s.cfg.lamps.get l).proved = true then .steady
  else match (s.cfg.lamps.get l).mode with
    | .off => .dark
    | .host => (s.lamp l).hostLevel.drive
    | .rule => s.ruleDrive l

/-- A lamp given a drive: the open run becomes 0 whenever the drive becomes DARK (R104). -/
def Lamp.drivenAs (r : Lamp) (d : Drive) : Lamp :=
  { r with drive := d, openRun := if d = .dark then 0 else r.openRun }

/-- The drive of one lamp re-judged (R100). -/
def judgeLamp (l : Fin 32) (s : State) : State := s.setLamp l ((s.lamp l).drivenAs (s.driveOf l))

/-- Every lamp re-judged, at a change of power state. -/
def judgeLamps (s : State) : State :=
  s.setWeu { s.weu with lamps := s.weu.lamps.mapIdx fun l r => r.drivenAs (s.driveOf l) }

/-- The lamp that a warning names re-judged, if it names one. -/
def judgeLampOf (w : Fin 48) (s : State) : State :=
  match (s.cfg.warnings.get w).lamp with
  | none => s
  | some l => judgeLamp l s

/-- A host level stored and the drive re-judged (R103). -/
def setHostLevel (l : Fin 32) (level : HostLevel) (s : State) : State :=
  judgeLamp l (s.setLamp l { s.lamp l with hostLevel := level })

/-- Every host level off and every lamp re-judged (R101, R103). Where LINK LOST begins in PROVING, a proved lamp in HOST
mode stays STEADY by the first line of R100 that applies, which is the model's choice (log entry 37). -/
def hostLevelsOff (s : State) : State :=
  judgeLamps (s.setWeu { s.weu with lamps := s.weu.lamps.mapIdx fun _ r => { r with hostLevel := .off } })

/-! ### Open-load sensing (R102, R104) -/

/-- The drive level as it is re-read at a lamp sample (R102). -/
def State.dimmed (s : State) : Nat :=
  match s.validValue s.cfg.dimmer with
  | none => 100
  | some v => (max 0 (min 100 v)).toNat

/-- One sample of one lamp (R104). -/
def sampleLamp (openLoads : BitVec 32) (l : Fin 32) (s : State) : State :=
  if s.energised l then
    let r := s.lamp l
    let mode := code LampMode.list (s.cfg.lamps.get l).mode
    match r.isOpen, openLoads.getLsbD l.val with
    | false, false => s.setLamp l { r with openRun := 0 }
    | false, true =>
      if 2 ≤ r.openRun + 1 then
        hand .lampOpen l.val mode (s.setLamp l { r with openRun := 2, isOpen := true })
      else s.setLamp l { r with openRun := r.openRun + 1 }
    | true, true => s
    | true, false => hand .lampRecovered l.val mode (s.setLamp l { r with openRun := 0, isOpen := false })
  else s

/-! ### The acknowledgement of a warning without its withdrawal (R91, R92) -/

/-- The reminder timer at an entry to ACTIVE_SEEN (R91). -/
def State.reminderStart (s : State) (w : Fin 48) : Option Nat :=
  let c := s.cfg.warnings.get w
  if c.cls = .stop ∧ c.reminder ≠ 0 ∧ c.message.isSome then some (s.now + Config.minutes c.reminder) else none

/-- The acknowledgement of a warning (R92): ACTIVE_NEW becomes ACTIVE_SEEN with its reminder timer, LATCHED is marked,
and no other state changes. -/
def acknowledgeWarning (w : Fin 48) (s : State) : State :=
  let r := s.warning w
  match r.state with
  | .activeNew =>
    judgeLampOf w (s.setWarning w { r with state := .activeSeen, acknowledged := true, reminderDue := s.reminderStart w })
  | .latched => judgeLampOf w (s.setWarning w { r with acknowledged := true })
  | .activeSeen | .off | .rising | .disabled | .suppressed => s

end Sys2Proof.Machine
end

