-- ==== Sys2Proof/Machine/Rendering.lean ====
section
/-! DEFINITION. Rendering the message line (R135, R151, R152) and the display port (R153). -/
namespace Sys2Proof.Machine

/-! ### Texts (R135) -/

/-- A number in decimal without leading zeros. -/
def decimal (n : Nat) : List Byte := (Nat.toDigits 10 n).map fun c => byte c.toNat

def minusSign : Byte := 0x2D#8
def space : Byte := 0x20#8

/-- INTEGER. -/
def integerText (v : Int) : List Byte := (if v < 0 then [minusSign] else []) ++ decimal v.natAbs

/-- H:MM. -/
def hoursText (v : Int) : List Byte :=
  let minutes := v.natAbs % 60
  (if v < 0 then [minusSign] else []) ++ decimal (v.natAbs / 60) ++ [0x3A#8] ++
    (if minutes < 10 then [0x30#8] else []) ++ decimal minutes

/-- The text of a number in a format; WORD is no format of a number (R134). -/
def numberText : Format → Int → List Byte
  | .hoursMinutes, v => hoursText v
  | .integer, v | .word, v => integerText v

def word (text : String) : List Byte := text.toList.map fun c => byte c.toNat

def QStatus.word : QStatus → List Byte
  | .valid => Machine.word "VALID" | .stale => Machine.word "STALE"
  | .fault => Machine.word "FAULT" | .absent => Machine.word "NONE"

def Activity.word : Activity → List Byte
  | .driving => Machine.word "DRIVE" | .work => Machine.word "WORK" | .available => Machine.word "AVAIL"
  | .rest => Machine.word "REST" | .unknown => Machine.word "UNKN"

/-! ### The readout of a slot (R132) -/

/-- The limit of a track in a limit set (R125). -/
def LimitSet.limit (l : LimitSet) : Track → Nat
  | .continuous => l.continuous | .daily => l.daily | .weekly => l.weekly

/-- The counter of a track. -/
def Slot.counter (x : Slot) : Track → Nat
  | .continuous => x.continuous | .daily => x.daily | .weekly => x.weekly

/-- The remaining minutes of a track: the limit of the active set less its counter, negative when over (R132). -/
def State.remaining (s : State) (i : Fin 2) (t : Track) : Int :=
  ((s.cfg.duty.limits.get i).limit t : Int) - ((s.slot i).counter t : Int)

/-! ### Placeholders and messages -/

/-- The text of a placeholder's field, none where it is dash-filled (R135). -/
def State.fieldText (s : State) (p : Placeholder) : Option (List Byte) :=
  let ofSlot (i : Fin 2) (text : List Byte) : Option (List Byte) := if (s.slot i).card.isSome then some text else none
  match p.field with
  | .quantityValue q => (s.validValue (some q)).map (numberText p.format)
  | .quantityStatus q => some (s.entry q).status.word
  | .slotActivity i => ofSlot i (s.slot i).activity.word
  | .slotCard i => some (if (s.slot i).card.isSome then word "CARD" else word "EMPTY")
  | .continuousRemaining i => ofSlot i (numberText p.format (s.remaining i .continuous))
  | .dailyRemaining i => ofSlot i (numberText p.format (s.remaining i .daily))
  | .weeklyRemaining i => ofSlot i (numberText p.format (s.remaining i .weekly))
  | .breakCredit i => ofSlot i (numberText p.format ((s.slot i).credit : Int))

/-- A text set in a width: dashes, stars, or right-aligned (R135). -/
def fitted (width : Nat) : Option (List Byte) → List Byte
  | none => List.replicate width minusSign
  | some text =>
    if width < text.length then List.replicate width 0x2A#8
    else List.replicate (width - text.length) space ++ text

/-- The text of a placeholder over the columns it occupies. -/
def State.fill (s : State) (chars : Table 16 Byte) (p : Placeholder) : Table 16 Byte :=
  let text := fitted p.width (s.fieldText p)
  chars.mapIdx fun j c => if p.start ≤ j.val + 1 then text.getD (j.val + 1 - p.start) c else c

/-- A message rendered (R135). -/
def State.rendered (s : State) (m : Fin 64) : Table 16 Byte :=
  let message := s.cfg.messages.get m
  message.placeholders.foldl s.fill message.chars

/-- The message of the page that the line shows while no entry is shown: none for a blank page (R151). -/
def State.page (s : State) : Option (Fin 64) :=
  if s.psc.state = .sleep then none
  else if s.anu.proofHold then s.cfg.power.startMessage
  else s.cfg.restingPage

/-- The message on the line: that of the shown entry, or of the page (R152). -/
def State.onLine (s : State) : Option (Fin 64) :=
  match s.anu.shown with
  | some sh => some sh.entry.message
  | none => s.page

/-- What the line should show (R151, R152). -/
def State.lineContent (s : State) : Table 16 Byte :=
  match s.onLine with
  | none => blankLine
  | some m => s.rendered m

/-- The line re-rendered (R152), with the transfer that R153 starts, or owes. -/
def renderLine (s : State) : State :=
  let content := s.lineContent
  let a := { s.anu with content := content }
  match a.transfer with
  | none =>
    if content = a.lastSent then s.setAnu a
    else s.setAnu { a with transfer := some ⟨content, s.now + Config.transferTime⟩ }
  | some t => if content = t.content then s.setAnu a else s.setAnu { a with owed := true }

/-- The completion of a transfer (R153). -/
def completeTransfer (t : Transfer) (s : State) : State :=
  let s1 := s.setAnu { s.anu with lastSent := t.content, transfer := none, owed := false }
  if s.anu.owed then renderLine s1 else s1

end Sys2Proof.Machine
end

