-- ==== Sys2Proof/Machine/Showing.lean ====
section
/-! DEFINITION. The announcement queue, the shown entry and the sounder (R138 to R149, R154): offers, withdrawals, the
decision of the line, and the ends of entries. -/
namespace Sys2Proof.Machine

/-! ### The queue (R138) -/

/-- One entry stands before another: by level, then by arrival number (R138). -/
def Entry.before (a b : Entry) : Bool := decide (a.level < b.level ∨ (a.level = b.level ∧ a.arrival < b.arrival))

/-- An entry joins the queue in its place (R138). -/
def enqueue (e : Entry) : List Entry → List Entry
  | [] => [e]
  | f :: rest => if e.before f then e :: f :: rest else f :: enqueue e rest

/-- A queue re-sorted (R143). -/
def sortQueue (q : List Entry) : List Entry := q.foldr enqueue []

/-- The level that the priority map gives a class (R143). -/
def State.levelOf (s : State) (c : AnnClass) : Nat := code s.cfg.priorityMap.items c + 1

/-- A hold is set (R144). -/
def Annunciation.held (a : Annunciation) : Bool := a.hostHold || a.proofHold

def State.setQueue (s : State) (q : List Entry) : State := s.setAnu { s.anu with queue := q }
def State.setShown (s : State) (x : Option Shown) : State := s.setAnu { s.anu with shown := x }

/-- The entries held, waiting and shown. -/
def Annunciation.entries (a : Annunciation) : List Entry := a.queue ++ (a.shown.map Shown.entry).toList

/-- The entries renumbered 1, 2, 3 and so on in the order of their arrival numbers (R138). With no entry held the counter
is set to 0, which is the model's choice (log entry 39). -/
def renumber (s : State) : State :=
  let all := s.anu.entries
  let place (e : Entry) : Entry := { e with arrival := (all.filter fun f => decide (f.arrival ≤ e.arrival)).length }
  s.setAnu { s.anu with
    queue := s.anu.queue.map place
    shown := s.anu.shown.map fun sh => { sh with entry := place sh.entry }
    arrivals := all.length }

/-- The arrival counter gains 1 (R138). -/
def gainArrival (s : State) : State :=
  let s1 := if s.anu.arrivals < 65535 then s else renumber s
  s1.setAnu { s1.anu with arrivals := s1.anu.arrivals + 1 }

/-! ### The sounder (R154) -/

def State.setSounder (s : State) (x : Sounder) : State := s.setAnu { s.anu with sounder := x }

/-- The period of a repeating pattern (R154). -/
def repeatPeriod (fast : Bool) : Nat := Config.ms (if fast then 600 else 2000)

/-- The length of a one-shot (R154, R155). -/
def OneShot.length : OneShot → Nat
  | .single | .proofTone => Config.ms 200
  | .double => Config.ms 450

/-- The length of each tone of a repeating pattern, at the start of its period (R154). -/
def repeatTone (fast : Bool) : Nat := Config.ms (if fast then 200 else 300)

/-- The sounder sounds at a time (R154, R155): a SINGLE, the proof tone and a click throughout, a DOUBLE in its first and
last 150 ms, a repeating pattern in the tone that starts its period. -/
def Sounder.sounds (x : Sounder) (now : Nat) : Bool :=
  match x with
  | .silent => false
  | .oneShot .double due => decide (now + Config.ms 300 < due ∨ (due ≤ now + Config.ms 150 ∧ now < due))
  | .oneShot .single due | .oneShot .proofTone due | .click due => decide (now < due)
  | .repeating fast due => decide (now + repeatPeriod fast < due + repeatTone fast)

/-- The sounder line: a tone sounds now (R154). -/
def State.sounding (s : State) : Bool := s.anu.sounder.sounds s.now

/-- The sounder taking up a pattern at a beginning of showing (R154). -/
def Chime.sound (c : Chime) (shownBefore : Bool) (now : Nat) : Sounder :=
  match c with
  | .none => .silent
  | .single => if shownBefore then .silent else .oneShot .single (now + OneShot.single.length)
  | .double => if shownBefore then .silent else .oneShot .double (now + OneShot.double.length)
  | .slowRepeat => .repeating false (now + repeatPeriod false)
  | .fastRepeat => .repeating true (now + repeatPeriod true)

/-- A repeating chime stops; any other sound goes on (R154). -/
def Sounder.endRepeat : Sounder → Sounder
  | .repeating _ _ => .silent
  | x => x

/-- The sounder after an update in place of the shown entry's pattern (R154). -/
def Sounder.updated (x : Sounder) (old new : Chime) (now : Nat) : Sounder :=
  if old = new then x
  else if new.repeats then new.sound true now
  else if old.repeats then .silent
  else x

/-! ### Beginning and end of showing -/

/-- The shown entry stops being shown: its timers stop and a repeating chime stops (R141, R146 to R149). -/
def stopShown (s : State) : State :=
  s.setAnu { s.anu with shown := none, sounder := s.anu.sounder.endRepeat }

/-- The timers of an entry that begins to be shown (R145 step 2). -/
def State.beginTimers (s : State) (e : Entry) : Shown where
  entry := e
  dwellDue :=
    let dwell := s.cfg.line.dwells.get e.cls.index
    if dwell = 0 then none else some (s.now + Config.ms dwell)
  showDue := if e.kind = .reminder then some (s.now + Config.sec s.cfg.line.showTime) else none
  rotationDue := if s.cfg.line.rotation = 0 then none else some (s.now + Config.sec s.cfg.line.rotation)

/-- The notice to the Link Port of a warning entry's first showing, or of its end unshown (R142). -/
def tellLink (e : Entry) (s : State) : State :=
  match e.source with
  | .warning w => if e.shownBefore then s else releaseHeld w s
  | .duty _ _ | .host _ => s

/-- ANNOUNCEMENT SHOWN with its detail (R160, R196). -/
def handShown (e : Entry) (s : State) : State :=
  hand .announcementShown e.source.number
    (e.message.val + 256 * e.level + (if e.shownBefore then 0 else 2048)) s

/-- An entry that has left the queue begins to be shown (R145). -/
def beginShowing (e : Entry) (s : State) : State :=
  let s1 := handShown e (tellLink e (s.setShown (some (s.beginTimers e))))
  renderLine (s1.setAnu { s1.anu with
    sounder := e.chime.sound e.shownBefore s.now
    shown := some (s.beginTimers { e with shownBefore := true }) })

/-- The head begins to be shown (R145). -/
def showHead (s : State) : State :=
  match s.anu.queue with
  | [] => s
  | e :: rest => beginShowing e (s.setQueue rest)

/-- The causes of the end of an entry, in the order of R196. -/
inductive EndCause where
  | acknowledged | withdrawn | displaced | expired | dropped
  deriving DecidableEq, Repr
def EndCause.list : List EndCause := [.acknowledged, .withdrawn, .displaced, .expired, .dropped]

/-- The record of a track. -/
def Tracks.get (t : Tracks) : Track → TrackRecord
  | .continuous => t.continuous | .daily => t.daily | .weekly => t.weekly

def Tracks.set (t : Tracks) (k : Track) (r : TrackRecord) : Tracks :=
  match k with
  | .continuous => { t with continuous := r }
  | .daily => { t with daily := r }
  | .weekly => { t with weekly := r }

/-- The record of a track of a slot changed. -/
def State.setTrack (s : State) (i : Fin 2) (k : Track) (r : TrackRecord) : State :=
  s.setSlot i { s.slot i with tracks := (s.slot i).tracks.set k r }

/-- The record of a track of a slot. -/
def State.track (s : State) (i : Fin 2) (k : Track) : TrackRecord := (s.slot i).tracks.get k

/-- The warning is told that its entry has ended (R90). -/
def warningEntryEnded (w : Fin 48) (s : State) : State := s.setWarning w { s.warning w with mark := .none }

/-- The notice to the owner of an entry that ends other than by a withdrawal (R142, R128). -/
def tellOwner (cause : EndCause) (e : Entry) (s : State) : State :=
  match e.source, cause with
  | .host _, _ => s
  | _, .withdrawn => s
  | .warning w, .acknowledged => acknowledgeWarning w (warningEntryEnded w s)
  | .warning w, _ => warningEntryEnded w s
  | .duty i k, .acknowledged => s.setTrack i k { s.track i k with acknowledged := true, offered := false }
  | .duty i k, _ => s.setTrack i k { s.track i k with offered := false }

/-- The end of an entry that has left the queue or the line: the notices of R142 and then ANNOUNCEMENT ENDED (R160). -/
def endEntry (cause : EndCause) (e : Entry) (s : State) : State :=
  hand .announcementEnded e.source.number
    (code EndCause.list cause + (if e.shownBefore then 8 else 0) + (if e.kind = .reminder then 16 else 0))
    (tellLink e (tellOwner cause e s))

/-- The shown entry gives way to the head (R146). -/
def displace (sh : Shown) (s : State) : State :=
  let s1 := showHead (stopShown s)
  match sh.entry.kind with
  | .normal => s1.setQueue (enqueue sh.entry s1.anu.queue)
  | .reminder => endEntry .displaced sh.entry s1

/-- The head's level is higher than the shown entry's (R146). -/
def Annunciation.headHigher (a : Annunciation) (sh : Shown) : Bool :=
  match a.queue with
  | [] => false
  | e :: _ => decide (e.level < sh.entry.level)

/-- The line decided (R145, R146): with no hold set, the head begins to be shown when nothing is shown, and displaces a
shown entry of lower level whose dwell has elapsed. -/
def decideLine (s : State) : State :=
  if s.anu.held then s
  else match s.anu.shown with
    | none => showHead s
    | some sh => if sh.dwellDue = none ∧ s.anu.headHigher sh then displace sh s else s

/-- The line after the end of the shown entry (R141, R147, R149, R152): decided, and rendered with what it then shows. -/
def decideAfterEnd (s : State) : State := renderLine (decideLine s)

/-! ### Offers and withdrawals -/

/-- An offer (R139). -/
structure Offer where
  source : AnnSource
  cls : AnnClass
  message : Fin 64
  chime : Chime
  kind : AnnKind

/-- The shown entry is of a source. -/
def Annunciation.shows (a : Annunciation) (x : AnnSource) : Bool :=
  match a.shown with
  | none => false
  | some sh => decide (sh.entry.source = x)

/-- An entry of a source waits. -/
def Annunciation.waits (a : Annunciation) (x : AnnSource) : Bool := a.queue.any fun e => decide (e.source = x)

def Entry.updated (e : Entry) (o : Offer) : Entry := { e with message := o.message, chime := o.chime }

/-- The shown entry updated in place (R139). -/
def updateShown (o : Offer) (sh : Shown) (s : State) : State :=
  renderLine (s.setAnu { s.anu with
    shown := some { sh with entry := sh.entry.updated o }
    sounder := s.anu.sounder.updated sh.entry.chime o.chime s.now })

/-- The waiting entry of the offer's source updated in place (R139). -/
def updateWaiting (o : Offer) (s : State) : State :=
  s.setQueue (s.anu.queue.map fun e => if e.source = o.source then e.updated o else e)

/-- The entry that an offer makes, under the number the arrival counter now has. -/
def State.newEntry (s : State) (o : Offer) : Entry :=
  ⟨o.source, o.cls, s.levelOf o.cls, o.message, o.chime, o.kind, s.anu.arrivals, false⟩

/-- A new entry joins a queue that has room, and the line is decided (R139). -/
def joinQueue (o : Offer) (s : State) : State :=
  let s1 := gainArrival s
  decideLine (s1.setQueue (enqueue (s1.newEntry o) s1.anu.queue))

/-- An offer on a full queue, judged against the lowest waiting entry (R140). -/
def offerOnFull (o : Offer) (s : State) : State :=
  match s.anu.queue.getLast? with
  | none => joinQueue o s
  | some low =>
    if s.levelOf o.cls < low.level then
      joinQueue o (endEntry .dropped low (s.setQueue s.anu.queue.dropLast))
    else
      let s1 := gainArrival s
      endEntry .dropped (s1.newEntry o) s1

/-- An offer taken (R139, R140). -/
def offer (o : Offer) (s : State) : State :=
  match s.anu.shown.filter fun sh => decide (sh.entry.source = o.source) with
  | some sh => updateShown o sh s
  | none =>
    if s.anu.waits o.source then updateWaiting o s
    else if s.anu.queue.length < 16 then joinQueue o s
    else offerOnFull o s

/-- A withdrawal (R141). -/
def withdraw (x : AnnSource) (s : State) : State :=
  match s.anu.queue.find? fun e => decide (e.source = x) with
  | some e => endEntry .withdrawn e (s.setQueue (s.anu.queue.filter fun f => decide (f.source ≠ x)))
  | none =>
    match s.anu.shown with
    | none => s
    | some sh =>
      if sh.entry.source = x then decideAfterEnd (endEntry .withdrawn sh.entry (stopShown s)) else s

/-- An acknowledgement of the shown entry; nothing where no entry is shown (R149). -/
def acknowledgeShown (s : State) : State :=
  match s.anu.shown with
  | none => s
  | some sh => decideAfterEnd (endEntry .acknowledged sh.entry (stopShown s))

end Sys2Proof.Machine
end

