-- ==== Sys2Proof/Machine/Warnings.lean ====
section
/-! DEFINITION. The warnings (R83 to R97): offers, withdrawals, the state machine at an evaluation, reconfiguration, and
what the power states do to them. -/
namespace Sys2Proof.Machine

/-- The class of the announcements of a warning class (R83). -/
def WarnClass.announced : WarnClass → AnnClass
  | .stop => .stopWarning | .check => .checkWarning | .info => .infoWarning

/-- The announcement mark of a warning changed (R84, R90). -/
def State.setMark (s : State) (w : Fin 48) (m : AnnMark) : State := s.setWarning w { s.warning w with mark := m }

/-- The warning's announcement offered with a kind, and the mark set (R88, R91). -/
def offerWarning (w : Fin 48) (kind : AnnKind) (mark : AnnMark) (s : State) : State :=
  let c := s.cfg.warnings.get w
  match c.message with
  | none => s
  | some m => offer ⟨.warning w, c.cls.announced, m, c.chime, kind⟩ (s.setMark w mark)

/-- The withdrawal of a warning's announcement, made when the mark is not NONE (R90). -/
def withdrawWarning (w : Fin 48) (s : State) : State :=
  if (s.warning w).mark = .none then s else withdraw (.warning w) (s.setMark w .none)

/-- The details of WARNING ENDED, in the order of R196. -/
inductive WarnEnd where
  | strength | cleared | suppressed | reconfigured
  deriving DecidableEq, Repr
def WarnEnd.list : List WarnEnd := [.strength, .cleared, .suppressed, .reconfigured]

def handWarningEnded (w : Fin 48) (cause : WarnEnd) (s : State) : State :=
  hand .warningEnded w.val (code WarnEnd.list cause) s

/-- A warning that offers at its entry to ACTIVE_NEW: it has a message and its mark is not NORMAL (R88). -/
def State.offersAtRaise (s : State) (w : Fin 48) : Bool :=
  (s.cfg.warnings.get w).message.isSome && decide ((s.warning w).mark ≠ .normal)

/-- The entry to ACTIVE_NEW (R88). -/
def enterActiveNew (w : Fin 48) (fromLatched : Bool) (s : State) : State :=
  let offers := s.offersAtRaise w
  let s1 := s.setWarning w
    { s.warning w with state := .activeNew, acknowledged := false, raiseDue := none, reminderDue := none }
  let s2 := handWarningRaised w (s.cfg.warnings.get w).cls fromLatched offers s1
  judgeLampOf w (if offers then offerWarning w .normal .normal s2 else s2)

/-- A warning put in a state with both timers stopped and the acknowledged mark clear (R84, R89, R94, R97). -/
def Warning.restedIn (r : Warning) (state : WarnState) : Warning :=
  { r with state := state, acknowledged := false, raiseDue := none, reminderDue := none }

/-- An end with its report: OFF, the announcement withdrawn if held, WARNING ENDED, the lamp re-judged (R89, R93, R96). -/
def goOff (w : Fin 48) (cause : WarnEnd) (s : State) : State :=
  judgeLampOf w (handWarningEnded w cause (withdrawWarning w (s.setWarning w ((s.warning w).restedIn .off))))

/-- The strength of an ACTIVE_NEW or ACTIVE_SEEN warning has fallen to the clear level (R86, R89). -/
def endAtStrength (w : Fin 48) (s : State) : State :=
  if (s.cfg.warnings.get w).latching then
    let s1 := s.setWarning w { s.warning w with state := .latched, reminderDue := none }
    judgeLampOf w (if (s1.warning w).mark = .reminder then withdrawWarning w s1 else s1)
  else goOff w .strength s

/-- The warning acts on the strength handed to it (R86). -/
def actOnStrength (w : Fin 48) (strength : Nat) (s : State) : State :=
  let c := s.cfg.warnings.get w
  let r := s.warning w
  match r.state with
  | .disabled | .suppressed => s
  | .off =>
    if c.raiseLevel ≤ strength then
      if c.raiseDelay = 0 then enterActiveNew w false s
      else judgeLampOf w (s.setWarning w { r with state := .rising, raiseDue := some (s.now + Config.ms c.raiseDelay) })
    else s
  | .rising => if strength < c.raiseLevel then judgeLampOf w (s.setWarning w (r.restedIn .off)) else s
  | .activeNew | .activeSeen => if strength ≤ c.clearLevel then endAtStrength w s else s
  | .latched =>
    if c.raiseLevel ≤ strength then
      if r.acknowledged then
        judgeLampOf w (s.setWarning w { r with state := .activeSeen, reminderDue := s.reminderStart w })
      else enterActiveNew w true s
    else s

/-- A warning put OFF by its reconfiguration, from any state but OFF and DISABLED (R96). -/
def putOff (w : Fin 48) (s : State) : State :=
  match (s.warning w).state with
  | .off | .disabled => s
  | .rising | .activeNew | .activeSeen | .latched | .suppressed => goOff w .reconfigured s

/-- The configuration of a warning replaced (R96). -/
def State.setWarnSettings (s : State) (w : Fin 48) (c : WarnSettings) : State :=
  s.setCfg { s.cfg with warnings := s.cfg.warnings.set w c }

/-- A lamp that may be none re-judged. -/
def judgeLamp? (l : Option (Fin 32)) (s : State) : State :=
  match l with
  | none => s
  | some l => judgeLamp l s

/-- A warning reconfigured (R96): put OFF, then OFF or DISABLED under the new configuration, the old lamp and the new
re-judged. -/
def reconfigureWarning (w : Fin 48) (c : WarnSettings) (s : State) : State :=
  let s1 := putOff w s
  let s2 := s1.setWarnSettings w c
  let s3 := s2.setWarning w ((s2.warning w).restedIn (if c.enabled then .off else .disabled))
  judgeLamp? c.lamp (judgeLamp? (s.cfg.warnings.get w).lamp s3)

/-- A warning at the entry to SLEEP (R97). -/
def Warning.asleep (r : Warning) : Warning :=
  match r.state with
  | .rising | .activeNew | .activeSeen => { r.restedIn .off with mark := .none }
  | .off | .disabled | .latched | .suppressed => { r with mark := .none }

/-- A LATCHED warning not acknowledged offers its NORMAL announcement at the entry to PROVING (R97). -/
def reofferWarning (w : Fin 48) (s : State) : State :=
  if (s.warning w).state = .latched ∧ (s.warning w).acknowledged = false then offerWarning w .normal .normal s else s

end Sys2Proof.Machine
end

