-- ==== Sys2Proof/Machine/Quantities.lean ====
section
/-! DEFINITION. Writes into the Quantity Table (R1 to R12, R16, R17): link pairs, scan deliveries, switch samples, the scan
stop, with the reports of R13 and the rising edge of the acknowledge quantity (R149). -/
namespace Sys2Proof.Machine

/-- A write that is a rising edge of the acknowledge quantity (R149). -/
def State.risingEdge (s : State) (q : Fin 48) (e : Quantity) : Bool :=
  decide (s.cfg.line.acknowledge = some q ∧ (s.entry q).status = .valid ∧ (s.entry q).value = 0 ∧
    e.status = .valid ∧ e.value = 1)

/-- One whole write into an entry (R1); a rising edge of the acknowledge quantity acknowledges the shown entry (R149). -/
def writeEntry (q : Fin 48) (e : Quantity) (s : State) : State :=
  let s1 := s.setEntry q e
  if s.risingEdge q e then acknowledgeShown s1 else s1

/-- QUANTITY RECOVERED with its detail, when the status before was STALE or FAULT (R13). -/
def handRecovered (q : Fin 48) (before : QStatus) (s : State) : State :=
  match before with
  | .stale => hand .quantityRecovered q.val 0 s
  | .fault => hand .quantityRecovered q.val 1 s
  | .absent | .valid => s

/-! ### Link pairs (R4, R5) -/

/-- The refresh timer started afresh for a limit in ms; a limit of 0 has no timer (R5). -/
def State.refreshStart (s : State) (limit : Nat) : Option Nat :=
  if limit = 0 then none else some (s.now + Config.ms limit)

/-- A value pair applied to a link-sourced entry (R4). -/
def applyValue (q : Fin 48) (limit : Nat) (v : Int) (s : State) : State :=
  let e := s.entry q
  handRecovered q e.status
    (writeEntry q { e with value := v, status := .valid, restarted := s.now, refreshDue := s.refreshStart limit } s)

/-- A fault-marker pair applied to a link-sourced entry (R4). -/
def applyFaultMarker (q : Fin 48) (s : State) : State :=
  let e := s.entry q
  let s1 := s.setEntry q { e with status := .fault, restarted := s.now, refreshDue := none }
  if e.status = .fault then s1 else hand .quantityFault q.val 0 s1

/-- The expiry of a refresh timer (R5). -/
def refreshExpired (q : Fin 48) (s : State) : State :=
  let e := s.entry q
  if e.status = .valid then
    hand .quantityStale q.val 0 (s.setEntry q { e with status := .stale, refreshDue := none })
  else s.setEntry q { e with refreshDue := none }

/-! ### Scan deliveries (R6 to R9) -/

/-- A number held within the range of a value (R7). -/
def clampValue (v : Int) : Int := max (-32768) (min 32767 v)

/-- The value computed from a filtered value (R7): the quotient is rounded toward zero. -/
def ScanFields.scaled (f : ScanFields) (filtered : Nat) : Int :=
  clampValue (Int.tdiv ((filtered : Int) * f.gain) 1024 + f.offset)

/-- An in-limit sample (R8). -/
def deliverInLimit (q : Fin 48) (f : ScanFields) (filtered : Nat) (s : State) : State :=
  let e := s.entry q
  let written : Quantity := { e with value := f.scaled filtered, status := .valid, restarted := s.now, outRun := 0 }
  match e.status with
  | .absent | .valid => writeEntry q written s
  | .stale => handRecovered q .stale (writeEntry q written s)
  | .fault =>
    if f.confirm ≤ e.inRun + 1 then handRecovered q .fault (writeEntry q { written with inRun := 0 } s)
    else s.setEntry q { e with inRun := e.inRun + 1 }

/-- An out-of-limit sample with its detail, BELOW LOW 1 or ABOVE HIGH 2 (R8, R196). -/
def deliverOutOfLimit (q : Fin 48) (f : ScanFields) (detail : Nat) (s : State) : State :=
  let e := s.entry q
  if e.status = .fault then s.setEntry q { e with inRun := 0 }
  else if f.confirm ≤ e.outRun + 1 then
    hand .quantityFault q.val detail
      (s.setEntry q { e with
        value := if e.status = .absent then 0 else e.value
        status := .fault, outRun := e.outRun + 1, inRun := 0 })
  else s.setEntry q { e with outRun := e.outRun + 1 }

/-- A result delivered to one entry when it is bound to the input (R6, R8). -/
def deliver (input : Fin 16) (raw filtered : Nat) (q : Fin 48) (s : State) : State :=
  match s.cfg.sources.get q with
  | .scan f =>
    if f.input = input then
      if raw < f.rawLow then deliverOutOfLimit q f 1 s
      else if f.rawHigh < raw then deliverOutOfLimit q f 2 s
      else deliverInLimit q f filtered s
    else s
  | .none | .switch _ _ | .link _ | .duty => s

/-- One entry at a stop of the scan (R9). -/
def scanStopped (q : Fin 48) (s : State) : State :=
  match s.cfg.sources.get q with
  | .scan _ =>
    let e := s.entry q
    if e.status = .valid then
      hand .quantityStale q.val 1 (s.setEntry q { e with status := .stale, outRun := 0, inRun := 0 })
    else s.setEntry q { e with outRun := 0, inRun := 0 }
  | .none | .switch _ _ | .link _ | .duty => s

/-! ### Switch samples (R10, R11) -/

/-- The required count of a debounce time in ms (R11). -/
def requiredCount (debounce : Nat) : Nat := if debounce = 0 then 1 else debounce / 10

/-- One sample of one switch-sourced entry (R11). -/
def sampleSwitch (levels : BitVec 8) (q : Fin 48) (s : State) : State :=
  match s.cfg.sources.get q with
  | .switch i debounce =>
    let e := s.entry q
    let level := levels.getLsbD i.val
    let required := requiredCount debounce
    let run := if e.candidate = some level then min required (e.candidateRun + 1) else min required 1
    let e1 : Quantity := { e with candidate := some level, candidateRun := run }
    let value : Int := if level then 1 else 0
    if required ≤ run ∧ (e.status = .absent ∨ e.value ≠ value) then
      writeEntry q { e1 with value := value, status := .valid, restarted := s.now } s
    else s.setEntry q e1
  | .none | .scan _ | .link _ | .duty => s

/-! ### A change of configuration (R16, R17) -/

/-- Two sources are the same source with the same binding (R1). -/
def QSource.same : QSource → QSource → Bool
  | .none, .none => true
  | .scan f, .scan g => decide (f.input = g.input)
  | .switch i _, .switch j _ => decide (i = j)
  | .link _, .link _ => true
  | .duty, .duty => true
  | _, _ => false

/-- The entry under a changed refresh limit in ms (R17). -/
def Quantity.relimited (e : Quantity) (limit now : Nat) : Quantity :=
  if limit = 0 then { e with refreshDue := none }
  else if e.status = .valid then
    if e.restarted + Config.ms limit ≤ now then { e with status := .stale, refreshDue := none }
    else { e with refreshDue := some (e.restarted + Config.ms limit) }
  else { e with refreshDue := none }

/-- The entry under a configuration that keeps its source and binding (R17). -/
def Quantity.reconfigured (e : Quantity) (old new : QSource) (now : Nat) : Quantity :=
  match old, new with
  | .link l, .link l' => if l = l' then e else e.relimited l' now
  | .scan f, .scan f' =>
    if f.rawLow = f'.rawLow ∧ f.rawHigh = f'.rawHigh ∧ f.confirm = f'.confirm then e
    else { e with outRun := 0, inRun := 0 }
  | _, _ => e

/-- An accepted CONFIGURE QUANTITY (R16, R17). -/
def configureEntry (q : Fin 48) (new : QSource) (s : State) : State :=
  let old := s.cfg.sources.get q
  let e := s.entry q
  let s1 := s.setCfg { s.cfg with sources := s.cfg.sources.set q new }
  s1.setEntry q (if old.same new then e.reconfigured old new s.now else .fresh s.now)

end Sys2Proof.Machine
end

