-- ==== Sys2Proof/Machine/Duty.lean ====
section
/-! DEFINITION. The Duty Time Unit (R108 to R133): cards, the minute accounting in its nine steps, stages and their
announcements, the mismatch check and the derived quantities. Slot 1 is index 0 and slot 2 index 1. -/
namespace Sys2Proof.Machine

/-- The number of a slot in reports (R110). -/
def slotNumber (i : Fin 2) : Nat := i.val + 1

/-- The active limit set of a slot (R112). -/
def State.limits (s : State) (i : Fin 2) : LimitSet := s.cfg.duty.limits.get i

/-! ### Stages (R125) -/

/-- The prewarn margin of a track; the weekly track has none. -/
def LimitSet.margin (l : LimitSet) : Track → Nat
  | .continuous => l.continuousMargin | .daily => l.dailyMargin | .weekly => 0

/-- The stage of a counter against its limit and margin (R125). -/
def stageOf (limit margin counter : Nat) : Stage :=
  if limit < counter then .exceeded
  else if counter = limit then .limit
  else if limit ≤ counter + margin then .prewarn
  else .normal

/-- The stage of a track of a slot (R125). -/
def State.stage (s : State) (i : Fin 2) (k : Track) : Stage :=
  stageOf ((s.limits i).limit k) ((s.limits i).margin k) ((s.slot i).counter k)

/-! ### Offers (R126, R129, R137) -/

/-- The position of a slot, track and stage in the duty message assignment (R137); none for what is never offered. -/
def dutyPosition (i : Fin 2) (k : Track) (stage : Stage) : Option (Fin 16) :=
  match k, stage with
  | _, .normal | .weekly, .prewarn => none
  | .continuous, .prewarn => some ⟨8 * i.val, by omega⟩
  | .continuous, .limit => some ⟨8 * i.val + 1, by omega⟩
  | .continuous, .exceeded => some ⟨8 * i.val + 2, by omega⟩
  | .daily, .prewarn => some ⟨8 * i.val + 3, by omega⟩
  | .daily, .limit => some ⟨8 * i.val + 4, by omega⟩
  | .daily, .exceeded => some ⟨8 * i.val + 5, by omega⟩
  | .weekly, .limit => some ⟨8 * i.val + 6, by omega⟩
  | .weekly, .exceeded => some ⟨8 * i.val + 7, by omega⟩

/-- The class of a stage's announcement (R126). -/
def Stage.announced : Stage → AnnClass
  | .normal | .prewarn => .dutyPrewarn
  | .limit | .exceeded => .dutyLimit

/-- The offer of a track's stage, when the assignment gives a message (R126). -/
def State.dutyOffer (s : State) (i : Fin 2) (k : Track) (stage : Stage) : Option Offer :=
  match dutyPosition i k stage with
  | none => none
  | some p =>
    let d := s.cfg.dutyMessages.get p
    d.message.map fun m => ⟨.duty i k, stage.announced, m, d.chime, .normal⟩

/-- A track's stage offered and its mark set, except in SLEEP and where no message is assigned (R126). -/
def offerTrack (i : Fin 2) (k : Track) (s : State) : State :=
  if s.psc.state = .sleep then s
  else match s.dutyOffer i k (s.track i k).stage with
    | none => s
    | some o => offer o (s.setTrack i k { s.track i k with offered := true })

/-- A track's entry withdrawn when its mark is OFFERED (R126, R127). -/
def withdrawTrack (i : Fin 2) (k : Track) (s : State) : State :=
  if (s.track i k).offered then withdraw (.duty i k) (s.setTrack i k { s.track i k with offered := false }) else s

/-- DUTY STAGE with its detail (R196). -/
def handStage (i : Fin 2) (k : Track) (old new : Stage) (s : State) : State :=
  hand .dutyStage (slotNumber i) (code Track.list k + 16 * old.rank + 256 * new.rank) s

/-- A track given a stage and an acknowledged mark. -/
def State.setStage (s : State) (i : Fin 2) (k : Track) (stage : Stage) (acknowledged : Bool) : State :=
  s.setTrack i k { s.track i k with stage := stage, acknowledged := acknowledged }

/-- A rise of a track's stage (R126). -/
def riseTrack (i : Fin 2) (k : Track) (new : Stage) (s : State) : State :=
  handStage i k (s.track i k).stage new (offerTrack i k ((withdrawTrack i k s).setStage i k new false))

/-- A fall of a track's stage (R127). -/
def fallTrack (i : Fin 2) (k : Track) (new : Stage) (s : State) : State :=
  handStage i k (s.track i k).stage new ((withdrawTrack i k s).setStage i k new (decide (new ≠ .normal)))

/-- One track recomputed (R125). -/
def recomputeTrack (i : Fin 2) (k : Track) (s : State) : State :=
  let old := (s.track i k).stage
  let new := s.stage i k
  if new = old then s
  else if old.rank < new.rank then riseTrack i k new s
  else fallTrack i k new s

/-- The three tracks of a slot recomputed, in the order continuous, daily, weekly (R125). -/
def recomputeStages (i : Fin 2) (s : State) : State :=
  recomputeTrack i .weekly (recomputeTrack i .daily (recomputeTrack i .continuous s))

/-- A track found above NORMAL at CARD IN (R118). -/
def insertTrack (i : Fin 2) (k : Track) (s : State) : State :=
  let new := s.stage i k
  match new with
  | .normal => s
  | .prewarn => handStage i k .normal new (s.setStage i k new true)
  | .limit | .exceeded => handStage i k .normal new (offerTrack i k (s.setStage i k new false))

/-- A track offered again at the entry to PROVING (R129). -/
def reofferTrack (i : Fin 2) (k : Track) (s : State) : State :=
  let r := s.track i k
  if (s.slot i).card.isSome = true ∧ r.stage ≠ .normal ∧ r.acknowledged = false ∧ r.offered = false then offerTrack i k s
  else s

/-- Every track of one slot offered again (R129), in an order that is the model's choice (log entry 36). -/
def reofferSlot (i : Fin 2) (s : State) : State :=
  reofferTrack i .weekly (reofferTrack i .daily (reofferTrack i .continuous s))

/-- Announcement marks NONE (R129). -/
def Tracks.unmarked (t : Tracks) : Tracks :=
  ⟨{ t.continuous with offered := false }, { t.daily with offered := false }, { t.weekly with offered := false }⟩
def Duty.unmarked (d : Duty) : Duty :=
  { d with slots := d.slots.mapIdx fun _ x => { x with tracks := x.tracks.unmarked } }

/-! ### The accounting of one slot (R109), steps 1 to 4 -/

/-- Step 1: a pending activity becomes current (R120). -/
def Slot.adopt (x : Slot) : Slot :=
  { x with activity := x.pending.getD x.activity, pending := none, superseded := false }

/-- A count that gains 1 and stays at its limit. -/
def gain (limit n : Nat) : Nat := min limit (n + 1)

/-- The day total of an activity gains 1 (R120). -/
def DayTotals.count (t : DayTotals) : Activity → DayTotals
  | .driving => { t with driving := gain 4294967295 t.driving }
  | .work => { t with work := gain 4294967295 t.work }
  | .available => { t with available := gain 4294967295 t.available }
  | .rest => { t with rest := gain 4294967295 t.rest }
  | .unknown => { t with unknown := gain 4294967295 t.unknown }

/-- Step 2 (R120). -/
def Slot.total (x : Slot) : Slot := { x with totals := x.totals.count x.activity }

/-- The runs broken: both 0, with every mark clear (R121). -/
def Slot.breakRuns (x : Slot) : Slot :=
  { x with pauseRun := 0, restRun := 0, segmentMark := false, dayClosed := false, weekClosed := false }

/-- Step 3: the driving counters and the runs advance (R121). -/
def Slot.advance (x : Slot) : Slot :=
  match x.activity with
  | .driving =>
    { x.breakRuns with
      continuous := gain 65535 x.continuous, daily := gain 65535 x.daily, weekly := gain 65535 x.weekly }
  | .work | .unknown => x.breakRuns
  | .available =>
    { x with pauseRun := gain 65535 x.pauseRun, restRun := 0, dayClosed := false, weekClosed := false }
  | .rest => { x with pauseRun := gain 65535 x.pauseRun, restRun := gain 65535 x.restRun }

/-- A completed break (R122). -/
def Slot.completeBreak (l : LimitSet) (x : Slot) : Slot :=
  if l.breakLength ≤ x.credit then { x with continuous := 0, credit := 0 } else x

/-- Step 4: break credit (R122). -/
def Slot.earn (l : LimitSet) (x : Slot) : Slot :=
  if x.pauseRun = 0 then x
  else if x.segmentMark then ({ x with credit := x.credit + 1 } : Slot).completeBreak l
  else if l.breakSegment ≤ x.pauseRun then
    ({ x with credit := x.credit + l.breakSegment, segmentMark := true } : Slot).completeBreak l
  else x

/-- Steps 1 to 4. -/
def Slot.minute (l : LimitSet) (x : Slot) : Slot := (x.adopt.total.advance).earn l

/-! ### Steps 5 to 9 -/

/-- A staged set loaded at a day start (R123). -/
def loadStaged (i : Fin 2) (s : State) : State :=
  match (s.slot i).staged with
  | none => s
  | some l =>
    hand .dutyLimitsLoaded (slotNumber i) 0
      ((s.setCfg { s.cfg with duty := { s.cfg.duty with limits := s.cfg.duty.limits.set i l } }).setSlot i
        { s.slot i with staged := none })

/-- Step 5: a day start (R123). -/
def dayStart (i : Fin 2) (s : State) : State :=
  let x := s.slot i
  if (s.limits i).dailyRest ≤ x.restRun ∧ x.dayClosed = false then
    loadStaged i (hand .dutyDayStart (slotNumber i) x.daily
      (s.setSlot i { x with
        daily := 0, continuous := 0, credit := 0, totals := ⟨0, 0, 0, 0, 0⟩, dayBase := 0
        dayStart := s.dtu.clock, dayClosed := true }))
  else s

/-- Step 6: a week start (R124). -/
def weekStart (i : Fin 2) (s : State) : State :=
  let x := s.slot i
  if (s.limits i).weeklyRest ≤ x.restRun ∧ x.weekClosed = false then
    hand .dutyWeekStart (slotNumber i) x.weekly (s.setSlot i { x with weekly := 0, weekClosed := true })
  else s

/-- The minute just accounted disagrees (R130). -/
def State.disagrees (s : State) : Bool :=
  decide ((s.slot 0).activity ≠ .driving) &&
    match s.validValue (some s.cfg.duty.speed) with
    | none => false
    | some v => decide ((s.cfg.duty.threshold : Int) < v)

/-- Step 8, slot 1 alone: the mismatch check (R130). -/
def mismatchCheck (s : State) : State :=
  if s.disagrees then
    let count := min s.cfg.duty.mismatchMinutes (s.dtu.mismatchCount + 1)
    let s1 := s.setDtu { s.dtu with mismatchCount := count }
    if s.cfg.duty.mismatchMinutes ≤ count ∧ s.dtu.mismatch = false then
      hand .dutyMismatch 1 (code Activity.list (s.slot 0).activity) (s1.setDtu { s1.dtu with mismatch := true })
    else s1
  else s.setDtu { s.dtu with mismatchCount := 0, mismatch := false }

/-- The derived quantities of a slot (R12): continuous and daily. -/
def derivedQuantity (i : Fin 2) (daily : Bool) : Fin 48 := ⟨44 + 2 * i.val + (if daily then 1 else 0), by split <;> omega⟩

/-- A derived quantity written VALID (R131). -/
def writeRemaining (i : Fin 2) (daily : Bool) (s : State) : State :=
  let q := derivedQuantity i daily
  writeEntry q { s.entry q with
    value := max (-32768) (s.remaining i (if daily then .daily else .continuous)), status := .valid
    restarted := s.now } s

/-- Step 9: both quantities of the slot written VALID (R131), the continuous one before the daily one, which is the model's
choice (log entry 36). -/
def writeDerived (i : Fin 2) (s : State) : State := writeRemaining i true (writeRemaining i false s)

/-- A derived quantity written ABSENT with value 0 (R131). -/
def writeAbsent (q : Fin 48) (s : State) : State :=
  writeEntry q { s.entry q with value := 0, status := .absent, restarted := s.now } s

/-- The accounting of one slot (R109); an EMPTY slot is not accounted. -/
def account (i : Fin 2) (s : State) : State :=
  if (s.slot i).card.isSome then
    let s4 := s.setSlot i ((s.slot i).minute (s.limits i))
    let s7 := recomputeStages i (weekStart i (dayStart i s4))
    writeDerived i (if i = 0 then mismatchCheck s7 else s7)
  else s

/-- The minute expiry (R108, R109). -/
def minuteExpired (due : Nat) (slot2First : Bool) (s : State) : State :=
  let s1 := s.setDtu { s.dtu with clock := gain 4294967295 s.dtu.clock, minuteDue := due + Config.minutes 1 }
  if slot2First then account 0 (account 1 s1) else account 1 (account 0 s1)

/-! ### Requests -/

/-- What an accepted CONFIGURE DUTY does to one slot (R113). -/
def dutyReconfigured (i : Fin 2) (s : State) : State :=
  if (s.slot i).card.isSome then
    writeDerived i (recomputeStages i (s.setSlot i ((s.slot i).completeBreak (s.limits i))))
  else s

/-- An accepted CONFIGURE DUTY (R113). Slot 1 is taken first, which is the model's choice (log entry 36). -/
def configureDuty (c : DutySettings) (s : State) : State :=
  dutyReconfigured 1 (dutyReconfigured 0 (s.setCfg { s.cfg with duty := c }))

/-- The record that an accepted CARD IN makes (R118). -/
def Slot.inserted (token : BitVec 32) (activity : Activity) (c : Summary) (clock : Nat) (staged : Option LimitSet) :
    Slot :=
  { Slot.empty staged with
    card := some token, activity := activity, continuous := c.continuous, daily := c.daily, weekly := c.weekly
    credit := c.credit, dayBase := c.elapsed, dayStart := clock }

/-- The mismatch count 0 and DUTY MISMATCH ended, for slot 1 (R118, R119, R130). -/
def clearMismatch (i : Fin 2) (s : State) : State :=
  if i = 0 then s.setDtu { s.dtu with mismatchCount := 0, mismatch := false } else s

/-- An accepted CARD IN, but for its notice to the Power State Controller (R118). -/
def insertCard (i : Fin 2) (token : BitVec 32) (activity : Activity) (c : Summary) (s : State) : State :=
  let s1 := clearMismatch i
    (s.setSlot i (Slot.inserted token activity c s.dtu.clock (s.slot i).staged))
  writeDerived i (insertTrack i .weekly (insertTrack i .daily (insertTrack i .continuous s1)))

/-- An accepted CARD OUT (R119). The entries are withdrawn in the order continuous, daily, weekly, which is the model's
choice (log entry 36). -/
def removeCard (i : Fin 2) (s : State) : State :=
  let s1 := s.setSlot i { s.slot i with pending := none, superseded := false }
  let s2 := withdraw (.duty i .weekly) (withdraw (.duty i .daily) (withdraw (.duty i .continuous) s1))
  let s3 := clearMismatch i (s2.setSlot i (.empty (s2.slot i).staged))
  writeAbsent (derivedQuantity i true) (writeAbsent (derivedQuantity i false) s3)

/-- The summary of a CARD IN breaks a relation or a range (third check of R117). -/
def Summary.bad (c : Summary) (l : LimitSet) : Bool :=
  decide (l.breakLength ≤ c.credit ∨ c.daily < c.continuous ∨ c.weekly < c.daily)

/-- Another slot is PRESENT with the same token, or the named slot is PRESENT (second check of R117). -/
def State.cardConflict (s : State) (i : Fin 2) (token : BitVec 32) : Bool :=
  (s.slot i).card.isSome || s.dtu.slots.items.any fun x => decide (x.card = some token)

end Sys2Proof.Machine
end

