-- ==== Sys2Proof/Machine/Evaluation.lean ====
section
/-! DEFINITION. Grades, criteria and the evaluation pass (R66 to R81). -/
namespace Sys2Proof.Machine

/-- The grade of a value under a shape whose quantity is VALID (R67). -/
def Shape.grade (f : Shape) (v : Int) : Nat :=
  if f.b ≤ v ∧ v ≤ f.c then 255
  else if v < f.b ∧ f.openLow = true then 255
  else if f.c < v ∧ f.openHigh = true then 255
  else if v ≤ f.a then 0
  else if f.d ≤ v then 0
  else if v < f.b then (255 * (v - f.a)).toNat / (f.b - f.a).toNat
  else (255 * (f.d - v)).toNat / (f.d - f.c).toNat

/-- The grade that a shape in force gives (R67, R68, R70). -/
def State.gradeOf (s : State) (f : Fin 32) : Nat :=
  let shape := s.weu.inForce.get f
  match s.validValue shape.quantity with
  | none => shape.invalid
  | some v => shape.grade v

/-- 255 or 0 (R71 to R73). -/
def truth (b : Bool) : Nat := if b then 255 else 0

/-- The value of a term before the complement (R69 to R73). -/
def State.rawTerm (s : State) : TermKind → Nat
  | .grade f => s.gradeOf f
  | .status q among => truth (among.contains (s.entry q).status)
  | .engaged w => truth (s.warning w).state.engaged
  | .condition c => truth (s.holds c)
  | .constant k => k

/-- The value of a term (R69). -/
def State.termValue (s : State) (t : Term) : Nat := if t.complement then 255 - s.rawTerm t.kind else s.rawTerm t.kind

/-- The least of the values of a clause (R69). -/
def clauseStrength (values : List Nat) : Nat := values.foldl min 255

/-- The greatest of the clause strengths; 0 with no clauses (R69). -/
def criterionStrength (clauses : List Nat) : Nat := clauses.foldl max 0

/-- The values of a criterion's terms, of which some have been read before (R75 step 1, R76): those, and then the values
that up to `n` of the terms after them have now. -/
def State.readOn (s : State) (c : Criterion) (read : List Nat) (n : Nat) : List Nat :=
  read ++ ((c.flatten.drop read.length).take n).map s.termValue

/-- The values of a criterion's terms clause by clause. -/
def byClause : Criterion → List Nat → List (List Nat)
  | [], _ => []
  | clause :: rest, values => values.take clause.length :: byClause rest (values.drop clause.length)

/-- The evaluation of a criterion under a pass number (R75, R77): the terms that have not been read yet are read now. -/
def State.evaluate (s : State) (c : Criterion) (read : List Nat) : Strength :=
  let terms := byClause c (s.readOn c read c.flatten.length)
  let clauses := terms.map clauseStrength
  ⟨true, criterionStrength clauses, clauses, terms, s.weu.passCount⟩

/-- The strength record of a criterion set (R77). -/
def State.setStrength (s : State) (w : Fin 48) (r : Strength) : State :=
  s.setWeu { s.weu with strengths := s.weu.strengths.set w r }

/-- A pass starts (R74, R75, R77, R79). -/
def startPass (due : Nat) (s : State) : State :=
  s.setWeu { s.weu with
    evalDue := some (due + Config.ms s.cfg.evalInterval)
    inForce := s.cfg.shapes
    passCount := s.weu.passCount + 1
    pass := some ⟨0, s.now + Config.criterionTime, false, []⟩ }

/-- The pass after a criterion: the next one, or the end after W47 (R75). -/
def Pass.next (p : Pass) (now : Nat) : Option Pass :=
  if h : p.criterion.val + 1 < 48 then some ⟨⟨p.criterion.val + 1, h⟩, now + Config.criterionTime, false, []⟩ else none

/-- The end of a criterion's evaluation (R75): unless it has been replaced meanwhile (R80), its strength is stored and
handed to its warning. -/
def endCriterion (p : Pass) (s : State) : State :=
  let s1 := s.setWeu { s.weu with pass := p.next s.now }
  if p.replaced then s1
  else
    let r := s1.evaluate (s1.cfg.criteria.get p.criterion) p.read
    actOnStrength p.criterion r.strength (s1.setStrength p.criterion r)

/-- The pass under way while a microsecond passes: some of the terms that come next in its criterion are read, as many as
the manual leaves open (R75, R76, log entry 14). -/
def State.readSome (s : State) (p : Pass) : Pass :=
  { p with read := s.readOn (s.cfg.criteria.get p.criterion) p.read (Config.termsRead (s.now + 1)) }

/-- Time passes while no command waits: one microsecond (log entries 1 and 14). -/
def State.idle (s : State) : State :=
  let s1 := s.setNow (s.now + 1)
  match s.weu.pass with
  | none => s1
  | some p => s1.setWeu { s.weu with pass := some (s.readSome p) }

/-- The criterion under way marked as replaced, when it is the one named (R80). -/
def Pass.replace (p : Pass) (w : Fin 48) : Pass := if p.criterion = w then { p with replaced := true } else p

/-- An accepted CONFIGURE CRITERION (R80, R96). -/
def configureCriterion (w : Fin 48) (c : Criterion) (s : State) : State :=
  let s1 := putOff w s
  let s2 := (s1.setCfg { s1.cfg with criteria := s1.cfg.criteria.set w c }).setStrength w .notEvaluated
  s2.setWeu { s2.weu with pass := s2.weu.pass.map fun p => p.replace w }

/-- The unit at the entry to SLEEP (R74, R78, R97, R101). -/
def warningsAtSleep (s : State) : State :=
  hostLevelsOff (s.setWeu { s.weu with
    evalDue := none, pass := none, flash := none, lampDue := none
    warnings := s.weu.warnings.mapIdx fun _ r => r.asleep })

/-- The unit at the entry to PROVING (R74, R97, R100, R101). The LATCHED warnings offer in index order, which is the
model's choice (log entry 36). -/
def warningsAtProving (s : State) : State :=
  forEach reofferWarning (judgeLamps (s.setWeu { s.weu with
    evalDue := some (s.now + Config.ms s.cfg.evalInterval)
    flash := some ⟨true, s.now + Config.flashHalf⟩
    lampDue := some (s.now + Config.lampInterval) }))

end Sys2Proof.Machine
end

