-- ==== Sys2Proof/Machine/Motion.lean ====
section
/-! DEFINITION. The Gauge Drive Unit (R38 to R64): mapping, moves, homing, the sweep, the gauge update, parking, release and
faults. -/
namespace Sys2Proof.Machine

/-! ### Mapping (R39) -/

/-- The position between two breakpoints (R39): the quotient is rounded toward zero. -/
def interpolate (lo hi : Int × Nat) (v : Int) : Int :=
  (lo.2 : Int) + Int.tdiv (((hi.2 : Int) - (lo.2 : Int)) * (v - lo.1)) (hi.1 - lo.1)

/-- A value mapped through breakpoints, before the clamp (R39). -/
def mapThrough (v : Int) : List (Int × Nat) → Int
  | [] => 0
  | [p] => p.2
  | p :: q :: rest =>
    if v ≤ p.1 then p.2 else if v < q.1 then interpolate p q v else mapThrough v (q :: rest)

/-- A value mapped to a position (R39). -/
def Calibration.map (c : Calibration) (v : Int) : Nat :=
  (max (c.minPos : Int) (min (c.maxPos : Int) (mapThrough v c.breakpoints))).toNat

/-! ### Moves (R42 to R45) -/

/-- The stopping distance at a speed, given by its square (R43). -/
def stoppingDistance (accel speedSq : Nat) : Nat :=
  if speedSq ≤ 2500 then 1 else (speedSq - 2500 + (2 * accel - 1)) / (2 * accel) + 1

/-- The distance between two positions. -/
def distance (a b : Nat) : Nat := if a ≤ b then b - a else a - b

/-- The position at a distance from the needle toward its move target. -/
def toward (position target d : Nat) : Nat := if position < target then position + d else position - d

/-- A position lies ahead of a needle that moves toward a target (section 3.3). -/
def ahead (position target x : Nat) : Bool :=
  if position < target then decide (position < x) else decide (x < position)

/-- The stop point of a moving needle (R43). -/
def Gauge.stopPoint (r : Gauge) (position : Nat) (m : Move) : Nat :=
  toward position m.target (stoppingDistance r.profile.accel m.speedSq)

/-- The square of the minimum step rate of 50 microsteps/s (R42). -/
def startSpeedSq : Nat := 2500

/-- A gauge takes a new target (R44). A gauge of unknown position takes none. -/
def Gauge.takeTarget (t : Nat) (r : Gauge) : Gauge :=
  match r.position, r.move with
  | none, _ => r
  | some p, none => if t = p then r else { r with move := some ⟨t, startSpeedSq⟩ }
  | some p, some m =>
    if ahead p m.target t = true ∧ stoppingDistance r.profile.accel m.speedSq ≤ distance p t then
      { r with move := some { m with target := t }, following := none }
    else { r with move := some { m with target := r.stopPoint p m }, following := some t }

/-- A needle brought to a halt at its stop point (R53). -/
def Gauge.halt (r : Gauge) : Gauge :=
  match r.position, r.move with
  | some p, some m => { r with move := some { m with target := r.stopPoint p m }, following := none }
  | _, _ => { r with following := none }

/-- The square of the speed for the next microstep, with a remaining distance (R42). -/
def Profile.nextSq (p : Profile) (speedSq remaining : Nat) : Nat :=
  min (p.maxSpeed * p.maxSpeed) (min (speedSq + 2 * p.accel) (2500 + 2 * p.accel * (remaining - 1)))

/-- A staged profile put in force, if one is held (R45). -/
def Gauge.putStaged (r : Gauge) : Gauge :=
  match r.staged with
  | none => r
  | some p => { r with profile := p, staged := none }

/-- The needle is at rest: no move and no homing is in progress. -/
def Gauge.atRest (r : Gauge) : Bool := r.move.isNone && r.homing.isNone

/-! ### Entries to states -/

/-- The configuration of a gauge. -/
def State.gaugeConfig (s : State) (g : Fin 6) : GaugeSettings := s.cfg.gauges.get g

/-- TRACKING with the damping history empty (R52). -/
def Gauge.track (r : Gauge) : Gauge := { r with state := .tracking, history := [] }

/-- FAULT (R46, R58): motion stops, the position is unknown, a staged profile is put in force, and GAUGE FAULT is handed
on with its detail. -/
def enterFault (g : Fin 6) (detail : GaugeFaultDetail) (s : State) : State :=
  hand .gaugeFault g.val (code GaugeFaultDetail.list detail)
    (s.setGauge g
      { (s.gauge g).putStaged with
        state := .fault, faultDetail := some detail, position := none, move := none, following := none
        parkPending := false, homing := none })

/-- The coil-open input of a gauge read while its coils are driven (R58). -/
def watchCoil (g : Fin 6) (s : State) : State :=
  if s.coilsDriven g = true ∧ s.coilOpen.get g = true then enterFault g .coilOpen s else s

/-- HOMING (R46), with the mode, the travel and the speed configured now; the coil-open input is watched from this
moment (R58). -/
def enterHoming (g : Fin 6) (s : State) : State :=
  let c := s.gaugeConfig g
  watchCoil g (s.setGauge g
    { s.gauge g with
      state := .homing, faultDetail := none, position := none, move := none, following := none
      homing := some ⟨c.homingMode, c.homeTravel, c.homingSpeed, 0, false⟩ })

/-- A gauge in PARKING that is at rest at its rest position becomes PARKED (R55). The rest position is the one the park has
taken: a new one given by CONFIGURE GAUGE counts from the next gauge update on (R64, log entry 34). A following target held
elsewhere is taken after it (R43, log entry 28). -/
def arrivePark (g : Fin 6) (s : State) : State :=
  let r := s.gauge g
  if r.state = .parking ∧ r.move = none ∧ r.position = some r.restTaken then
    hand .gaugeParked g.val r.restTaken (s.setGauge g { r with state := .parked })
  else s

/-- PARKING (R54): the rest position is taken as a new target, and as the one the park goes to (R64). -/
def enterParking (g : Fin 6) (s : State) : State :=
  let rest := (s.gaugeConfig g).rest
  arrivePark g (s.setGauge g
    (Gauge.takeTarget rest { s.gauge g with state := .parking, following := none, restTaken := rest }))

/-- SWEEPING (R50): the first move goes to the maximum position, or the second at once when the needle stands there. -/
def enterSweeping (g : Fin 6) (s : State) : State :=
  let c := (s.gaugeConfig g).calibration
  let r := { s.gauge g with state := .sweeping, sweepBack := decide ((s.gauge g).position = some c.maxPos) }
  s.setGauge g (r.takeTarget (if r.sweepBack then c.minPos else c.maxPos))

/-- The end of a homing or of a sweep: PARKING where a park is pending or the power state is PARKING (R48, R50). -/
def parkOr (g : Fin 6) (otherwise : State → State) (s : State) : State :=
  if (s.gauge g).parkPending = true ∨ s.psc.state = .parking then
    enterParking g (s.setGauge g { s.gauge g with parkPending := false })
  else otherwise s

/-- TRACKING entered (R48, R50). -/
def enterTracking (g : Fin 6) (s : State) : State := s.setGauge g (s.gauge g).track

/-! ### The step timer of a move (R42, R43) -/

/-- The move-end actions of the gauge's state (R43, R50, R55). -/
def moveEndActions (g : Fin 6) (s : State) : State :=
  let r := s.gauge g
  match r.state with
  | .sweeping =>
    if r.sweepBack then parkOr g (enterTracking g) s
    else s.setGauge g (({ r with sweepBack := true } : Gauge).takeTarget (s.gaugeConfig g).calibration.minPos)
  | .parking => arrivePark g s
  | .unhomed | .homing | .tracking | .held | .resting | .parked | .test | .fault => s

/-- A following target starts a new move and is cleared (R43). -/
def Gauge.follow (r : Gauge) : Gauge :=
  match r.following with
  | none => r
  | some t => ({ r with following := none } : Gauge).takeTarget t

/-- One microstep of a move (R42). -/
def stepMove (g : Fin 6) (position : Nat) (m : Move) (s : State) : State :=
  let r := s.gauge g
  let p := toward position m.target 1
  if p = m.target then
    let s1 := moveEndActions g (s.setGauge g ({ r with position := some p, move := none } : Gauge).putStaged)
    s1.setGauge g (s1.gauge g).follow
  else
    s.setGauge g { r with
      position := some p, move := some { m with speedSq := r.profile.nextSq m.speedSq (distance p m.target) } }

/-! ### The step timer of a homing (R46 to R48) -/

/-- GAUGE HOMED with its detail (R196). -/
def handHomed (g : Fin 6) (h : Homing) (s : State) : State :=
  hand .gaugeHomed g.val (h.used % 8192 + (if h.mode = .blind then 32768 else 0)) s

/-- The completion of a homing (R48). -/
def completeHoming (g : Fin 6) (h : Homing) (s : State) : State :=
  let s1 := handHomed g h (s.setGauge g ({ s.gauge g with homing := none } : Gauge).putStaged)
  parkOr g
    (fun t =>
      if t.psc.state = .proving ∧ (t.gaugeConfig g).sweepAtProof = true then enterSweeping g t else enterTracking g t)
    s1

/-- The end of the search phase (R46, R47): position 0, at rest, and the final phase begins; it has no length when the
minimum position is 0 (R48). -/
def endSearch (g : Fin 6) (h : Homing) (s : State) : State :=
  let s1 := s.setGauge g
    ({ s.gauge g with position := some 0, homing := some { h with final := true } } : Gauge).putStaged
  if (s.gaugeConfig g).calibration.minPos = 0 then completeHoming g h s1 else s1

/-- One step of the search phase, with the stall-sense level read after it (R46, R47, log entry 10). -/
def searchStep (g : Fin 6) (h : Homing) (stall : Bool) (s : State) : State :=
  let h1 := { h with used := h.used + 1 }
  if h.mode = .stall ∧ stall = true then endSearch g h1 s
  else if h.travel ≤ h1.used then
    match h.mode with
    | .stall => enterFault g .noStop s
    | .blind => endSearch g h1 s
  else s.setGauge g { s.gauge g with homing := some h1 }

/-- One step of the final phase (R48). -/
def finalStep (g : Fin 6) (h : Homing) (position : Nat) (s : State) : State :=
  let s1 := s.setGauge g { s.gauge g with position := some (position + 1) }
  if (s.gaugeConfig g).calibration.minPos ≤ position + 1 then completeHoming g h s1 else s1

/-! ### The gauge update (R51 to R53) -/

/-- A mapped position joins the damping history (R52). -/
def joinHistory (depth p : Nat) (history : List Nat) : List Nat :=
  let all := history ++ [p]
  all.drop (all.length - depth)

/-- The damped position (R52). -/
def dampedPosition (history : List Nat) : Nat := history.sum / history.length

/-- The tracking computation for a value (R52); `returning` is the update that returns the gauge to TRACKING, which the
deadband does not hold back. -/
def Gauge.follows (c : GaugeSettings) (v : Int) (returning : Bool) (r : Gauge) : Gauge :=
  let history := joinHistory c.damping (c.calibration.map v) r.history
  let damped := dampedPosition history
  let r1 := { r with history := history }
  match r.position, r.move with
  | some p, none => if distance p damped ≤ c.deadband ∧ returning = false then r1 else r1.takeTarget damped
  | _, _ => r1.takeTarget damped

/-- The rest position is taken as a new target where it differs from the move target or, at rest, from the position
(R51). -/
def Gauge.retarget (rest : Nat) (r : Gauge) : Gauge :=
  match r.move with
  | some m => if m.target = rest then r else r.takeTarget rest
  | none => r.takeTarget rest

/-- HELD or RESTING, by the invalid action (R53). -/
def Gauge.loseSource (c : GaugeSettings) (r : Gauge) : Gauge :=
  match c.invalid with
  | .hold => ({ r with state := .held } : Gauge).halt
  | .park => ({ r with state := .resting } : Gauge).takeTarget c.rest

/-- What a gauge update does to a gauge that is not PARKED, with the value of a VALID source or none (R51). In PARKING the
configured rest position is taken as the one the park goes to (R64). -/
def Gauge.updated (c : GaugeSettings) (source : Option Int) (r : Gauge) : Gauge :=
  match r.state, source with
  | .tracking, some v => r.follows c v false
  | .tracking, none => r.loseSource c
  | .held, some v | .resting, some v => r.track.follows c v true
  | .held, none =>
    match c.invalid with
    | .hold => r
    | .park => r.loseSource c
  | .resting, none =>
    match c.invalid with
    | .hold => r.loseSource c
    | .park => r.retarget c.rest
  | .parking, _ => ({ r with restTaken := c.rest } : Gauge).retarget c.rest
  | .parked, _ | .unhomed, _ | .homing, _ | .sweeping, _ | .test, _ | .fault, _ => r

/-- A gauge update (R51), read at the expiry of the update timer. -/
def updateGauge (g : Fin 6) (s : State) : State :=
  let c := s.gaugeConfig g
  let r := s.gauge g
  if r.state = .parked then (if r.position = some c.rest then s else enterParking g s)
  else arrivePark g (s.setGauge g (r.updated c (s.validValue c.source)))

/-- The update timer runs on (R51). -/
def restartUpdate (g : Fin 6) (due : Nat) (s : State) : State :=
  s.setGauge g { s.gauge g with updateDue := some (due + Config.updateInterval) }

/-! ### Park and release (R54, R56) -/

/-- A park ordered for one gauge (R54). -/
def orderPark (g : Fin 6) (s : State) : State :=
  match (s.gauge g).state with
  | .tracking | .held | .resting | .test => enterParking g s
  | .homing | .sweeping => s.setGauge g { s.gauge g with parkPending := true }
  | .parking | .parked | .unhomed | .fault => s

/-- The release of one gauge at the return from PARKING to RUN (R56). -/
def Gauge.released (r : Gauge) : Gauge :=
  match r.state with
  | .parked | .parking => r.track
  | .homing | .sweeping => { r with parkPending := false }
  | .tracking | .held | .resting | .test | .unhomed | .fault => r

/-! ### Power states (R60, R62) -/

/-- The order to one gauge at the entry to PROVING (R60), by its state then. -/
def proofOrder (g : Fin 6) (s : State) : State :=
  let c := s.gaugeConfig g
  match (s.gauge g).state with
  | .unhomed => enterHoming g s
  | .parked =>
    if c.rehome then enterHoming g s
    else if c.sweepAtProof then enterSweeping g s
    else enterTracking g s
  | .fault => if c.rehome then enterHoming g s else s
  | .homing | .sweeping | .tracking | .held | .resting | .parking | .test => s

/-- The update timers started at the entry to PROVING (R62). -/
def startUpdates (s : State) : State :=
  s.setGdu (s.gdu.mapIdx fun _ r => { r with updateDue := some (s.now + Config.updateInterval) })

/-- The gauges at the entry to PROVING (R60, R62): the update timers start, the coil-open input of every gauge whose coils
are driven again is watched, and then every gauge is given its order. Each is made in index order (log entries 19 and
36). -/
def gaugesAtProving (s : State) : State := forEach proofOrder (forEach watchCoil (startUpdates s))

/-- Every gauge at the entry to SLEEP (R62): its update timer stops, and no move is in progress (log entry 28). -/
def gaugesAtSleep (s : State) : State :=
  s.setGdu (s.gdu.mapIdx fun _ r => { r with updateDue := none, move := none, following := none })

/-! ### Configuration (R63, R64) -/

/-- A profile given by CONFIGURE GAUGE (R45). -/
def Gauge.giveProfile (p : Profile) (r : Gauge) : Gauge :=
  if p = r.profile then { r with staged := none }
  else if r.atRest = true ∨ r.state = .unhomed ∨ r.state = .fault then { r with profile := p, staged := none }
  else { r with staged := some p }

/-- The damping history under a new configuration (R64). -/
def Gauge.rehistory (old new : GaugeSettings) (r : Gauge) : Gauge :=
  if old.source = new.source ∧ old.calibration = new.calibration ∧ old.damping = new.damping then r
  else { r with history := [] }

/-- The damping depth as it is stored (R63). -/
def storedDamping (depth : Nat) : Nat := if [1, 2, 4, 8].contains depth then depth else 1

/-- An accepted CONFIGURE GAUGE (R63, R64). -/
def configureGauge (g : Fin 6) (c : GaugeSettings) (s : State) : State :=
  let new := { c with damping := storedDamping c.damping }
  let old := s.gaugeConfig g
  (s.setCfg { s.cfg with gauges := s.cfg.gauges.set g new }).setGauge g
    (((s.gauge g).rehistory old new).giveProfile new.profile)

/-- A change of the range that the gauge's state forbids (fifth check of R63). -/
def State.rangeForbidden (s : State) (g : Fin 6) (c : GaugeSettings) : Bool :=
  let old := (s.gaugeConfig g).calibration
  let r := s.gauge g
  decide ((old.minPos ≠ c.calibration.minPos ∨ old.maxPos ≠ c.calibration.maxPos) ∧
      r.state ≠ .unhomed ∧ r.state ≠ .fault) &&
    (!r.atRest ||
      match r.position with
      | none => false
      | some p => decide (p < c.calibration.minPos ∨ c.calibration.maxPos < p))

/-- The whole part of a square root, for numbers below 67108864: the bits of the root from the highest (R65). -/
def wholeRoot (n : Nat) : Nat :=
  ([4096, 2048, 1024, 512, 256, 128, 64, 32, 16, 8, 4, 2, 1]).foldl
    (fun r b => if (r + b) * (r + b) ≤ n then r + b else r) 0

end Sys2Proof.Machine
end

