-- ==== Sys2Proof/Machine/Scan.lean ====
section
/-! DEFINITION. The Sensor Scan Unit (R21 to R30): passes, conversions, filters and the stop. List positions are counted
from 1. -/
namespace Sys2Proof.Machine

/-- The list positions of a group, in list order. -/
def positionsOf (group : ScanGroup) (list : List ScanEntry) : List Nat :=
  (List.range list.length).filterMap fun i =>
    match list[i]? with
    | some e => if e.group = group then some (i + 1) else none
    | none => none

/-- The entry at a list position. -/
def entryAt (list : List ScanEntry) (position : Nat) : Option ScanEntry :=
  if position = 0 then none else list[position - 1]?

/-- The first SLOW position of a list, or none (R23). -/
def firstSlow (list : List ScanEntry) : Option Nat := (positionsOf .slow list).head?

/-- The SLOW position after one, in list order, and after the last the first again (R23). -/
def nextSlow (list : List ScanEntry) (position : Nat) : Option Nat :=
  match (positionsOf .slow list).find? fun p => decide (position < p) with
  | some p => some p
  | none => firstSlow list

/-- The positions that a continuous pass converts, in order (R24). -/
def State.passPositions (s : State) : List Nat :=
  positionsOf .fast s.cfg.scan.list ++ s.ssu.roundRobin.toList

/-- The conversions of a pass start with the first (R24, R26). -/
def Scan.convert (u : Scan) (positions : List Nat) (now : Nat) : Scan :=
  match positions with
  | [] => { u with flight := none, remaining := [] }
  | p :: rest => { u with flight := some ⟨p, now + Config.conversionTime⟩, remaining := rest }

/-- The scan enters CONTINUOUS (R25). -/
def startContinuous (s : State) : State :=
  s.setSsu { s.ssu.convert s.passPositions s.now with
    mode := .continuous, intervalDue := some (s.now + Config.ms s.cfg.scan.interval) }

/-- A single pass over the positions from the first to the last (R30). -/
def startOnce (first last : Nat) (s : State) : State :=
  s.setSsu { s.ssu.convert ((List.range (last + 1)).drop first) s.now with mode := .once first last }

/-- The interval timer expires (R25). -/
def intervalExpired (due : Nat) (s : State) : State :=
  s.setSsu { s.ssu.convert s.passPositions s.now with
    intervalDue := some (due + Config.ms s.cfg.scan.interval) }

/-- The scan stops (R29, R9). -/
def stopScan (s : State) : State :=
  forEach scanStopped
    (s.setSsu { s.ssu with mode := .stopped, flight := none, remaining := [], intervalDue := none })

/-- A raw result joins a filter (R27). -/
def joinFilter (depth raw : Nat) (held : List Nat) : List Nat :=
  let all := held ++ [raw]
  all.drop (all.length - depth)

/-- The filtered value: the sum of the results held divided by their number, rounded down (R27). -/
def filteredValue (held : List Nat) : Nat := held.sum / held.length

/-- The result of the conversion of an entry joins its filter and is delivered (R28). -/
def takeResult (position : Nat) (e : ScanEntry) (raw : Nat) (s : State) : State :=
  let held := joinFilter e.depth raw (s.ssu.filters.getD (position - 1) [])
  forEach (deliver e.input raw (filteredValue held))
    (s.setSsu { s.ssu with filters := s.ssu.filters.set (position - 1) held })

/-- A completed SLOW conversion of a continuous pass moves the round-robin position (R23). -/
def moveRoundRobin (position : Nat) (e : ScanEntry) (s : State) : State :=
  if s.ssu.mode = .continuous ∧ e.group = .slow then
    s.setSsu { s.ssu with roundRobin := nextSlow s.cfg.scan.list position }
  else s

/-- The next conversion of the pass starts, or the pass ends (R24, R28, R30). -/
def nextConversion (s : State) : State :=
  match s.ssu.remaining with
  | [] =>
    match s.ssu.mode with
    | .once _ _ => stopScan s
    | .continuous | .stopped => s.setSsu { s.ssu with flight := none }
  | p :: rest => s.setSsu (s.ssu.convert (p :: rest) s.now)

/-- The completion of the conversion in flight (R28). -/
def completeConversion (f : Flight) (raw : Nat) (s : State) : State :=
  match entryAt s.cfg.scan.list f.position with
  | none => nextConversion s
  | some e => nextConversion (moveRoundRobin f.position e (takeResult f.position e raw s))

/-- Every filter of a list empty (R27). -/
def emptyFilters (list : List ScanEntry) : List (List Nat) := list.map fun _ => []

/-- The unit at the entry to SLEEP (R29, R27). -/
def scanAtSleep (s : State) : State :=
  let s1 := if s.ssu.mode = .stopped then s else stopScan s
  s1.setSsu { s1.ssu with filters := emptyFilters s1.cfg.scan.list }

/-- Autostart at the entry to PROVING (R36). -/
def autostart (s : State) : State :=
  if s.cfg.scan.autostart = true ∧ s.cfg.scan.list ≠ [] ∧ s.ssu.mode = .stopped then startContinuous s else s

/-- A depth as it is stored (R32). -/
def storedDepth (depth : Nat) : Nat := if [1, 2, 4, 8, 16].contains depth then depth else 1

/-- The positions whose depth is stored in another form (R32). -/
def coercedPositions (list : List ScanEntry) : List Nat :=
  (List.range list.length).filterMap fun i =>
    match list[i]? with
    | some e => if storedDepth e.depth = e.depth then none else some (i + 1)
    | none => none

/-- An accepted CONFIGURE SCAN (R31, R32). -/
def configureScan (c : ScanSettings) (s : State) : State :=
  let list := c.list.map fun e => { e with depth := storedDepth e.depth }
  let s1 := s.setCfg { s.cfg with scan := { c with list := list } }
  s1.setSsu { s1.ssu with filters := emptyFilters list, roundRobin := firstSlow list }

end Sys2Proof.Machine
end

