-- ==== Sys2Proof/Machine/Power.lean ====
section
/-! DEFINITION. The Power State Controller (R161 to R172): what each change of power state does, block by block, and the
judgements that make a change. -/
namespace Sys2Proof.Machine

/-- The causes of a change of power state, in the order of R196. -/
inductive PowerCause where
  | powerOn | linkReset | keyOn | wake | proofDone | sleepRequest | driving | gaugesParked
  deriving DecidableEq, Repr
def PowerCause.list : List PowerCause :=
  [.powerOn, .linkReset, .keyOn, .wake, .proofDone, .sleepRequest, .driving, .gaugesParked]

/-- A power state with the proof timer (R161, R164). -/
def State.setPower (s : State) (state : PowerState) (proof : ProofTimer) : State :=
  s.setPsc { s.psc with state := state, proof := proof }

/-- POWER STATE for the state now held, with the code of the old state, 0xFF for RESET (R172, R196). -/
def handPowerState (old : Nat) (cause : PowerCause) (s : State) : State :=
  hand .powerState (code PowerState.list s.psc.state) (old + 256 * code PowerCause.list cause) s

/-- The code of a power state in a detail. -/
def PowerState.number (p : PowerState) : Nat := code PowerState.list p

/-- RESET in the detail of POWER STATE (R196). -/
def resetNumber : Nat := 255

/-! ### The Annunciation Unit -/

/-- R156. -/
def lineAtProving (s : State) : State :=
  let s1 := renderLine (s.setAnu { s.anu with
    proofHold := true, refreshDue := some (s.now + Config.refreshInterval) })
  s1.setSounder (.oneShot .proofTone (s.now + OneShot.proofTone.length))

/-- The proof hold cleared and the line decided (R144, R156). -/
def lineAtRun (s : State) : State := renderLine (decideLine (s.setAnu { s.anu with proofHold := false }))

/-- R157: the Link Port is told of every warning entry that had never been shown, and the unit is emptied. The entries are
told of in the order of the queue and the shown one last, which is the model's choice (log entry 36). -/
def lineAtSleep (s : State) : State :=
  let s1 := s.anu.entries.foldl (fun t e => tellLink e t) s
  renderLine (s1.setAnu { s1.anu with queue := [], shown := none, refreshDue := none, sounder := .silent })

/-! ### Entries -/

/-- The entry to PROVING (R163). The order of the blocks, and within a block of the gauges, warnings, slots and tracks,
is the model's choice (log entries 12 and 36). -/
def enterProving (old : Nat) (cause : PowerCause) (s : State) : State :=
  s.setPower .proving (.running (s.now + Config.sec s.cfg.power.proofTime))
  |> handPowerState old cause
  |> lineAtProving
  |> autostart
  |> gaugesAtProving
  |> warningsAtProving
  |> forEach reofferSlot
  |> restartSilence
  |> judgeAttention

/-- The completion of the proof (R164). -/
def finishProof (s : State) : State :=
  s.setPower .run .stopped
  |> handPowerState PowerState.proving.number .proofDone
  |> lineAtRun
  |> judgeLamps

/-- The entry to SLEEP from PARKING (R168). -/
def enterSleep (s : State) : State :=
  let s1 := s.setPower .sleep .stopped
    |> handPowerState PowerState.parking.number .gaugesParked
    |> scanAtSleep
    |> gaugesAtSleep
    |> warningsAtSleep
    |> lineAtSleep
  let s2 := s1.setDtu s1.dtu.unmarked
  judgeAttention (s2.setLp { s2.lp with silenceDue := none })

/-- The return from PARKING to RUN (R167). -/
def returnToRun (cause : PowerCause) (s : State) : State :=
  let s1 := handPowerState PowerState.parking.number cause (s.setPower .run .stopped)
  s1.setGdu (s1.gdu.mapIdx fun _ r => r.released)

/-- The two indications of the Gauge Drive Unit acted on (R61): the proof completes (R164), or the part enters SLEEP
(R166). Made after every change of a gauge's state and at the expiry of the proof timer (log entry 11). -/
def judgePower (s : State) : State :=
  match s.psc.state with
  | .proving => if s.psc.proof = .expired ∧ s.gaugesReady = true then finishProof s else s
  | .parking => if s.gaugesParked then enterSleep s else s
  | .sleep | .run => s

/-- The entry to PARKING (R166), and on to SLEEP at once when GAUGES PARKED holds already. The gauges are ordered to park in
index order, which is the model's choice (log entry 36). -/
def enterParkingState (s : State) : State :=
  s.setPower .parking .stopped
  |> handPowerState PowerState.run.number .sleepRequest
  |> forEach orderPark
  |> judgePower

/-- The notice of an accepted DRIVING (R116): in PARKING it returns the part to RUN (R167). -/
def drivingNotice (a : Activity) (s : State) : State :=
  if a = .driving ∧ s.psc.state = .parking then returnToRun .driving s else s

/-- A key-on edge (R162). -/
def keyOnEdge (s : State) : State :=
  match s.psc.state with
  | .sleep => enterProving PowerState.sleep.number .keyOn s
  | .parking => returnToRun .keyOn s
  | .proving | .run => s

/-- One sample of the key line (R162), with the debounce of R11 at three samples. -/
def sampleKey (level : Bool) (due : Nat) (s : State) : State :=
  let p := s.psc
  let run := if p.keyCandidate = level then min 3 (p.keyRun + 1) else 1
  let p1 := { p with keyCandidate := level, keyRun := run, keyDue := due + Config.sampleInterval }
  if run = 3 ∧ p.key ≠ level then
    let s1 := s.setPsc { p1 with key := level }
    if level then keyOnEdge s1 else s1
  else s.setPsc p1

end Sys2Proof.Machine
end

