-- ==== Sys2Proof/Machine/DutyFamily.lean ====
section
/-! DEFINITION. The commands of the Duty Time Unit: its six requests and the minute expiry. -/
namespace Sys2Proof.Machine

/-- CONFIGURE DUTY (R113). -/
def configureDutyRequest : Request where
  kind := 0x40
  inSleep := false
  fits := exactly 40
  run b s := configuring (readDutySettings b) (fun c => Answer.ok (configureDuty c s)) s

def execConfigureDuty (tag : Byte) (body : List Byte) (s : State) : Host.Outcome State Fault Refusal :=
  event (configureDutyRequest.take tag body) s

/-- STAGE LIMITS (R114). -/
def stageLimitsRequest : Request where
  kind := 0x41
  inSleep := false
  fits := exactly 19
  run b s := reading (readStagedLimits b) (fun (i, l) => Answer.ok (s.setSlot i { s.slot i with staged := some l })) s

def execStageLimits (tag : Byte) (body : List Byte) (s : State) : Host.Outcome State Fault Refusal :=
  event (stageLimitsRequest.take tag body) s

/-- An activity stored as pending, with the notice of a DRIVING (R115, R116). DUTY SUPERSEDED comes before the POWER STATE
of the return to RUN, which is the model's choice (R172, log entry 38). -/
def storeActivity (i : Fin 2) (a : Activity) (s : State) : Answer :=
  match (s.slot i).pending with
  | none => Answer.ok (drivingNotice a (s.setSlot i { s.slot i with pending := some a }))
  | some old =>
    ⟨drivingNotice a (hand .dutySuperseded (slotNumber i) (code Activity.list old)
        (s.setSlot i { s.slot i with pending := some a, superseded := true })),
      .superseded, enumByte Activity.list old⟩

/-- DUTY ACTIVITY (R115). -/
def dutyActivityRequest : Request where
  kind := 0x42
  inSleep := true
  fits := exactly 2
  run b s := reading (readActivity b) (fun (i, a) =>
    if (s.slot i).card = none then Answer.refuse s .noCard
    else if s.psc.state = .sleep ∧ a = .driving then Answer.refuse s .asleep
    else storeActivity i a s) s

def execDutyActivity (tag : Byte) (body : List Byte) (s : State) : Host.Outcome State Fault Refusal :=
  event (dutyActivityRequest.take tag body) s

/-- CARD IN (R117, R118). Its DUTY STAGE reports come before the POWER STATE of the return to RUN, which is the model's
choice (R172, log entry 38). -/
def cardInRequest : Request where
  kind := 0x43
  inSleep := true
  fits := cardInBodyFits
  run b s := reading (readCardIn b) (fun (i, a) =>
    if s.cardConflict i (readToken b) then Answer.refuse s .conflict
    else if (readSummary b).bad (s.limits i) then Answer.refuse s .range
    else if s.psc.state = .sleep ∧ a = .driving then Answer.refuse s .asleep
    else Answer.ok (drivingNotice a (insertCard i (readToken b) a (readSummary b) s))) s

def execCardIn (tag : Byte) (body : List Byte) (s : State) : Host.Outcome State Fault Refusal :=
  event (cardInRequest.take tag body) s

/-- The slot that a body names. -/
def readSlotByte (b : List Byte) : Option (Fin 2) := readSlot (byteAt b 0)

/-- CARD OUT (R119). -/
def cardOutRequest : Request where
  kind := 0x44
  inSleep := true
  fits := exactly 1
  run b s := reading (readSlotByte b) (fun i =>
    if (s.slot i).card = none then Answer.refuse s .noCard else Answer.ok (removeCard i s)) s

def execCardOut (tag : Byte) (body : List Byte) (s : State) : Host.Outcome State Fault Refusal :=
  event (cardOutRequest.take tag body) s

/-- The stage, the acknowledged mark and the announcement mark of a track (R132). -/
def TrackRecord.bytes (r : TrackRecord) : List Byte :=
  enumByte Stage.list r.stage ++ flagByte r.acknowledged ++ be8 (if r.offered then 1 else 0)

def DayTotals.bytes (t : DayTotals) : List Byte := be32 t.driving ++ be32 t.work ++ be32 t.available ++ be32 t.rest ++ be32 t.unknown

/-- The mismatch count and DUTY MISMATCH, for slot 1 alone (R132, log entry 32). -/
def State.mismatchBytes (s : State) (i : Fin 2) : List Byte :=
  if i = 0 then be8 s.dtu.mismatchCount ++ flagByte s.dtu.mismatch else absentField 2

/-- The fields of a slot's record in the order of R132, from the card to the three tracks. -/
def Slot.bytes (x : Slot) : List Byte :=
  flagByte x.card.isSome ++ optField 4 (fun t : BitVec 32 => be32 t.toNat) x.card ++
  enumByte Activity.list x.activity ++ optField 1 (enumByte Activity.list) x.pending ++ flagByte x.superseded ++
  be16 x.continuous ++ be16 x.daily ++ be16 x.weekly ++
  be8 x.credit ++ be16 x.pauseRun ++ be16 x.restRun ++
  flagByte x.segmentMark ++ flagByte x.dayClosed ++ flagByte x.weekClosed ++
  x.totals.bytes ++ be16 x.dayBase ++ be32 x.dayStart ++
  x.tracks.continuous.bytes ++ x.tracks.daily.bytes ++ x.tracks.weekly.bytes

/-- The reply of READ DUTY (R132). -/
def State.dutyReadout (s : State) (i : Fin 2) : List Byte :=
  let x := s.slot i
  let l := s.limits i
  be32 s.dtu.clock ++ x.bytes ++
  int32 (s.remaining i .continuous) ++ int32 (s.remaining i .daily) ++ int32 (s.remaining i .weekly) ++
  be8 (l.breakLength - x.credit) ++ be16 (l.dailyRest - x.restRun) ++ s.mismatchBytes i ++
  l.bytes ++ optField 18 LimitSet.bytes x.staged

/-- READ DUTY (R132). -/
def readDutyRequest : Request where
  kind := 0x45
  inSleep := true
  fits := exactly 1
  run b s := reading (readSlotByte b) (fun i => Answer.okWith s (s.dutyReadout i)) s

def execReadDuty (tag : Byte) (body : List Byte) (s : State) : Host.Outcome State Fault Refusal :=
  event (readDutyRequest.take tag body) s

/-- MINUTE_EXPIRY (R108, R109), with the slot that is accounted first (log entry 9). -/
def execMinuteExpiry (slot2First : Bool) (s : State) : Host.Outcome State Fault Refusal :=
  event (fun t => minuteExpired t.dtu.minuteDue slot2First (t.reach t.dtu.minuteDue)) s

end Sys2Proof.Machine
end

