-- ==== Sys2Proof/Machine/EvaluationFamily.lean ====
section
/-! DEFINITION. The commands of the Warning Evaluation Unit for shapes, criteria and passes (R74 to R82). -/
namespace Sys2Proof.Machine

/-- CONFIGURE SHAPE (R79): the active configuration changes at once, the shape in force at the next pass start. -/
def configureShapeRequest : Request where
  kind := 0x28
  inSleep := false
  fits := exactly 12
  run b s := configuring (readShape b) (fun (f, c) =>
    Answer.ok (s.setCfg { s.cfg with shapes := s.cfg.shapes.set f c })) s

def execConfigureShape (tag : Byte) (body : List Byte) (s : State) : Host.Outcome State Fault Refusal :=
  event (configureShapeRequest.take tag body) s

/-- CONFIGURE CRITERION (R80). -/
def configureCriterionRequest : Request where
  kind := 0x29
  inSleep := false
  fits := criterionBodyFits
  run b s := configuring (readCriterion b) (fun (w, c) => Answer.ok (configureCriterion w c s)) s

def execConfigureCriterion (tag : Byte) (body : List Byte) (s : State) : Host.Outcome State Fault Refusal :=
  event (configureCriterionRequest.take tag body) s

/-- A new evaluation interval in ms, with the timer started afresh (R81). -/
def setEvalInterval (interval : Nat) (s : State) : State :=
  (s.setCfg { s.cfg with evalInterval := interval }).setWeu
    { s.weu with evalDue := some (s.now + Config.ms interval) }

/-- CONFIGURE EVALUATION (R81). -/
def configureEvaluationRequest : Request where
  kind := 0x2A
  inSleep := false
  fits := exactly 1
  run b s := configuring (readSteps 10 20 500 (byteAt b 0)) (fun n => Answer.ok (setEvalInterval n s)) s

def execConfigureEvaluation (tag : Byte) (body : List Byte) (s : State) : Host.Outcome State Fault Refusal :=
  event (configureEvaluationRequest.take tag body) s

/-- The reply of READ STRENGTH (R82). -/
def State.strengthReadout (s : State) (w : Fin 48) : List Byte :=
  let r := s.weu.strengths.get w
  flagByte r.evaluated ++ be8 r.strength ++ be16 r.pass.toNat ++ be16 s.weu.passCount.toNat ++
  countedList be8 r.clauses ++ countedList be8 r.terms.flatten ++ criterionBytes (s.cfg.criteria.get w)

/-- READ STRENGTH (R82). -/
def readStrengthRequest : Request where
  kind := 0x2B
  inSleep := false
  fits := exactly 1
  run b s := reading (readIndex 48 (byteAt b 0)) (fun w => Answer.okWith s (s.strengthReadout w)) s

def execReadStrength (tag : Byte) (body : List Byte) (s : State) : Host.Outcome State Fault Refusal :=
  event (readStrengthRequest.take tag body) s

/-- PASS_START (R74, R75): the evaluation timer expires, which finds no pass under way. -/
def execPassStart (s : State) : Host.Outcome State Fault Refusal :=
  event (fun t =>
    match t.weu.evalDue, t.weu.pass with
    | some due, none => startPass due (t.reach due)
    | _, _ => t) s

/-- CRITERION_EVALUATION (R75): the 20 microseconds of the criterion under way end. -/
def execCriterionEvaluation (s : State) : Host.Outcome State Fault Refusal :=
  event (fun t =>
    match t.weu.pass with
    | none => t
    | some p => endCriterion p (t.reach p.due)) s

end Sys2Proof.Machine
end

