-- ==== Sys2Proof/Machine/GaugeFamily.lean ====
section
/-! DEFINITION. The commands of the Gauge Drive Unit: its six requests, the step timers, the gauge update and the coil-open
input. -/
namespace Sys2Proof.Machine

/-- The calibration lock forbids a change of breakpoints or range (fourth check of R63). -/
def State.calibrationLocked (s : State) (g : Fin 6) (c : GaugeSettings) : Bool :=
  s.cs.lock.isSome && decide (c.calibration ≠ (s.gaugeConfig g).calibration)

/-- The status and body of an accepted CONFIGURE GAUGE (R63): a damping depth stored as 1 in place of the one given is
named as it is stored (R176, log entry 41). -/
def configuredGauge (c : GaugeSettings) (after : State) : Answer :=
  if storedDamping c.damping = c.damping then Answer.ok after
  else ⟨after, .coerced, be8 (storedDamping c.damping)⟩

/-- CONFIGURE GAUGE (R63). -/
def configureGaugeRequest : Request where
  kind := 0x20
  inSleep := false
  fits := gaugeBodyFits
  run b s := configuring (readGaugeSettings b) (fun (g, c) =>
    if s.calibrationLocked g c then Answer.refuse s .locked
    else if s.rangeForbidden g c then Answer.refuse s .state
    else configuredGauge c (configureGauge g c s)) s

def execConfigureGauge (tag : Byte) (body : List Byte) (s : State) : Host.Outcome State Fault Refusal :=
  event (configureGaugeRequest.take tag body) s

/-- The gauge that a body names. -/
def readGauge (b : List Byte) : Option (Fin 6) := readIndex 6 (byteAt b 0)

/-- HOMING ordered by the host, with the park-pending mark cleared (R49). -/
def homeGauge (g : Fin 6) (s : State) : State :=
  judgePower (enterHoming g (s.setGauge g { s.gauge g with parkPending := false }))

/-- HOME GAUGE (R49). -/
def homeGaugeRequest : Request where
  kind := 0x21
  inSleep := false
  fits := exactly 1
  run b s := reading (readGauge b) (fun g => Answer.ok (homeGauge g s)) s

def execHomeGauge (tag : Byte) (body : List Byte) (s : State) : Host.Outcome State Fault Refusal :=
  event (homeGaugeRequest.take tag body) s

/-- PARK GAUGE for a gauge: in PARKING accepted with nothing changed (R166), and in the other power states by the table of
R54 (R50, R59). That R166 goes before that table in PARKING is the model's reading (log entry 43). -/
def parkGauge (g : Fin 6) (s : State) : Answer :=
  if s.psc.state = .parking then Answer.ok s
  else if (s.gauge g).state = .unhomed ∨ (s.gauge g).state = .fault then Answer.refuse s .state
  else Answer.ok (judgePower (orderPark g s))

/-- PARK GAUGE (R54, R166). -/
def parkGaugeRequest : Request where
  kind := 0x22
  inSleep := false
  fits := exactly 1
  run b s := reading (readGauge b) (fun g => parkGauge g s) s

def execParkGauge (tag : Byte) (body : List Byte) (s : State) : Host.Outcome State Fault Refusal :=
  event (parkGaugeRequest.take tag body) s

/-- A release ordered by the host (R56): as at the return to RUN, and from TEST too. -/
def Gauge.releasedByHost (r : Gauge) : Gauge := if r.state = .test then r.track else r.released

/-- RELEASE GAUGE (R56). -/
def releaseGaugeRequest : Request where
  kind := 0x23
  inSleep := false
  fits := exactly 1
  run b s := if s.psc.state = .parking then Answer.refuse s .state
    else reading (readGauge b) (fun g =>
      if (s.gauge g).state = .unhomed ∨ (s.gauge g).state = .fault then Answer.refuse s .state
      else Answer.ok (s.setGauge g (s.gauge g).releasedByHost)) s

def execReleaseGauge (tag : Byte) (body : List Byte) (s : State) : Host.Outcome State Fault Refusal :=
  event (releaseGaugeRequest.take tag body) s

/-- TEST (R57): the park-pending mark is cleared and the position is taken as a new target. -/
def positionGauge (g : Fin 6) (p : Nat) (s : State) : State :=
  judgePower (s.setGauge g (Gauge.takeTarget p { s.gauge g with state := .test, parkPending := false }))

/-- The gauge and the position of POSITION GAUGE, within the gauge's range (second check of R57). -/
def State.readPosition (s : State) (b : List Byte) : Option (Fin 6 × Nat) := do
  let g ← readGauge b
  let c := (s.gaugeConfig g).calibration
  let p ← readRange c.minPos c.maxPos (wordAt b 1)
  some (g, p)

/-- The states in which POSITION GAUGE is refused (third check of R57). -/
def GaugeState.unplaced : GaugeState → Bool
  | .unhomed | .homing | .fault => true
  | .sweeping | .tracking | .held | .resting | .parking | .parked | .test => false

/-- POSITION GAUGE (R57). -/
def positionGaugeRequest : Request where
  kind := 0x24
  inSleep := false
  fits := exactly 3
  run b s := reading (s.readPosition b) (fun (g, p) =>
    if (s.gauge g).state.unplaced = true ∨ s.psc.state = .parking then Answer.refuse s .state
    else Answer.ok (positionGauge g p s)) s

def execPositionGauge (tag : Byte) (body : List Byte) (s : State) : Host.Outcome State Fault Refusal :=
  event (positionGaugeRequest.take tag body) s

/-- The direction, up 0 or down 1, and the speed (R65); absent at rest. -/
def Gauge.motionBytes (r : Gauge) : List Byte :=
  match r.homing, r.move with
  | some h, _ => be8 (if h.final then 0 else 1) ++ be16 h.speed
  | none, some m =>
    be8 (match r.position with
      | some p => if p < m.target then 0 else 1
      | none => 1) ++ be16 (wholeRoot m.speedSq)
  | none, none => absentField 3

/-- The move target of a move, or of the final phase of a homing (R65). -/
def Gauge.targetBytes (minPos : Nat) (r : Gauge) : List Byte :=
  match r.homing, r.move with
  | some h, _ => if h.final then be16 minPos else absentField 2
  | none, some m => be16 m.target
  | none, none => absentField 2

/-- The homing phase, SEARCH 0 or FINAL 1, and the travel used (R65). -/
def Gauge.homingBytes (r : Gauge) : List Byte :=
  match r.homing with
  | none => absentField 3
  | some h => be8 (if h.final then 1 else 0) ++ be16 h.used

/-- The reply of READ GAUGE (R65). -/
def Gauge.readout (c : GaugeSettings) (r : Gauge) : List Byte :=
  enumByte GaugeState.list r.state ++ optField 1 (enumByte GaugeFaultDetail.list) r.faultDetail ++
  optField 2 be16 r.position ++ flagByte (!r.atRest) ++ r.motionBytes ++ r.targetBytes c.calibration.minPos ++
  optField 2 be16 r.following ++ r.homingBytes ++ flagByte r.parkPending ++ r.profile.bytes ++
  optField 4 Profile.bytes r.staged ++ be8 r.history.length ++ c.bytes

/-- READ GAUGE (R65). -/
def readGaugeRequest : Request where
  kind := 0x25
  inSleep := false
  fits := exactly 1
  run b s := reading (readGauge b) (fun g => Answer.okWith s ((s.gauge g).readout (s.gaugeConfig g))) s

def execReadGauge (tag : Byte) (body : List Byte) (s : State) : Host.Outcome State Fault Refusal :=
  event (readGaugeRequest.take tag body) s

/-- GAUGE_STEP (R42, R43): the step timer of a move expires. -/
def execGaugeStep (g : Fin 6) (s : State) : Host.Outcome State Fault Refusal :=
  event (fun t =>
    match (t.gauge g).position, (t.gauge g).move with
    | some p, some m => judgePower (stepMove g p m t)
    | _, _ => t) s

/-- One step of a homing, in the phase under way (R46 to R48). -/
def stepHoming (g : Fin 6) (h : Homing) (stall : Bool) (s : State) : State :=
  match h.final, (s.gauge g).position with
  | true, some p => finalStep g h p s
  | true, none => s
  | false, _ => searchStep g h stall s

/-- HOMING_STEP (R46 to R48): the step timer of a homing expires, with the level of the stall-sense input read after the
step. -/
def execHomingStep (g : Fin 6) (stall : Bool) (s : State) : Host.Outcome State Fault Refusal :=
  event (fun t =>
    match (t.gauge g).homing with
    | none => t
    | some h => judgePower (stepHoming g h stall t)) s

/-- GAUGE_UPDATE (R51). -/
def execGaugeUpdate (g : Fin 6) (s : State) : Host.Outcome State Fault Refusal :=
  event (fun t =>
    match (t.gauge g).updateDue with
    | none => t
    | some due => judgePower (updateGauge g (restartUpdate g due (t.reach due)))) s

/-- COIL_OPEN (R58): the coil-open input of a gauge takes a level. -/
def execCoilOpen (g : Fin 6) (active : Bool) (s : State) : Host.Outcome State Fault Refusal :=
  event (fun t => judgePower (watchCoil g (t.setCoilOpen (t.coilOpen.set g active)))) s

end Sys2Proof.Machine
end

