-- ==== Sys2Proof/Machine/LampFamily.lean ====
section
/-! DEFINITION. The commands of the lamps: the four requests of section 5.11, the flash clock and the lamp sample. -/
namespace Sys2Proof.Machine

/-- An accepted CONFIGURE LAMP (R106): a change of mode sets the host level off, and the drive is re-judged. -/
def configureLamp (l : Fin 32) (c : LampSettings) (s : State) : State :=
  let s1 := s.setCfg { s.cfg with lamps := s.cfg.lamps.set l c }
  if (s.cfg.lamps.get l).mode = c.mode then judgeLamp l s1 else setHostLevel l .off s1

/-- CONFIGURE LAMP (R106). -/
def configureLampRequest : Request where
  kind := 0x36
  inSleep := false
  fits := exactly 3
  run b s := configuring (readLampSettings b) (fun (l, c) => Answer.ok (configureLamp l c s)) s

def execConfigureLamp (tag : Byte) (body : List Byte) (s : State) : Host.Outcome State Fault Refusal :=
  event (configureLampRequest.take tag body) s

/-- CONFIGURE DIMMER (R106): the drive level follows at the next lamp sample (R102). -/
def configureDimmerRequest : Request where
  kind := 0x37
  inSleep := false
  fits := exactly 1
  run b s := configuring (readOptIndex 48 (byteAt b 0)) (fun q => Answer.ok (s.setCfg { s.cfg with dimmer := q })) s

def execConfigureDimmer (tag : Byte) (body : List Byte) (s : State) : Host.Outcome State Fault Refusal :=
  event (configureDimmerRequest.take tag body) s

/-- One pair of SET LAMPS (R103). -/
def applyLampPair (index level : Byte) (s : State) : State × Status :=
  match readIndex 32 index.toNat, readEnum HostLevel.list level.toNat with
  | some l, some h => if (s.cfg.lamps.get l).mode = .host then (setHostLevel l h s, .ok) else (s, .conflict)
  | _, _ => (s, .range)

/-- The pairs of SET LAMPS in the order of the list (R103). -/
def applyLampPairs : List Byte → State → State × List Byte
  | index :: level :: rest, s =>
    let one := applyLampPair index level s
    let more := applyLampPairs rest one.1
    (more.1, one.2.code :: more.2)
  | _, s => (s, [])

/-- SET LAMPS (R103). -/
def setLampsRequest : Request where
  kind := 0x38
  inSleep := false
  fits := elements 2 1 32
  run b s := Answer.okWith (applyLampPairs b s).1 (applyLampPairs b s).2

def execSetLamps (tag : Byte) (body : List Byte) (s : State) : Host.Outcome State Fault Refusal :=
  event (setLampsRequest.take tag body) s

/-- The record of one lamp (R107): open-load state OK 0 or OPEN 1. -/
def State.lampRecord (s : State) (l : Fin 32) : List Byte :=
  (s.cfg.lamps.get l).bytes ++ enumByte HostLevel.list (s.lamp l).hostLevel ++ enumByte Drive.list (s.lamp l).drive ++ flagByte (s.energised l) ++
  be8 (if (s.lamp l).isOpen then 1 else 0) ++ be8 (s.lamp l).openRun

/-- The half of the flash clock, on 1 or off 0, or stopped (R107, log entry 16). -/
def State.flashBytes (s : State) : List Byte := optField 1 (fun f : Flash => flagByte f.onHalf) s.weu.flash

/-- The reply of READ LAMPS (R107). -/
def State.lampsReadout (s : State) : List Byte :=
  (List.finRange 32).flatMap s.lampRecord ++ optIndex s.cfg.dimmer ++ be8 s.weu.driveLevel ++ s.flashBytes

/-- READ LAMPS (R107). -/
def readLampsRequest : Request where
  kind := 0x39
  inSleep := false
  fits := exactly 0
  run _ s := Answer.okWith s s.lampsReadout

def execReadLamps (tag : Byte) (body : List Byte) (s : State) : Host.Outcome State Fault Refusal :=
  event (readLampsRequest.take tag body) s

/-- FLASH_HALF_CHANGE (R100). -/
def execFlashHalfChange (s : State) : Host.Outcome State Fault Refusal :=
  event (fun t =>
    match t.weu.flash with
    | none => t
    | some f =>
      let t1 := t.reach f.due
      t1.setWeu { t1.weu with flash := some ⟨!f.onHalf, f.due + Config.flashHalf⟩ }) s

/-- A lamp sample expiry (R102, R104): the timer runs on, the drive level is re-read, and the energised lamps are sampled
in index order, which is the model's choice (log entry 36). -/
def lampSampled (openLoads : BitVec 32) (due : Nat) (s : State) : State :=
  forEach (sampleLamp openLoads)
    (s.setWeu { s.weu with lampDue := some (due + Config.lampInterval), driveLevel := s.dimmed })

/-- LAMP_SAMPLE (R104), with the open-load inputs of L0-L31 in bits 0-31. -/
def execLampSample (openLoads : BitVec 32) (s : State) : Host.Outcome State Fault Refusal :=
  event (fun t =>
    match t.weu.lampDue with
    | none => t
    | some due => lampSampled openLoads due (t.reach due)) s

end Sys2Proof.Machine
end

