-- ==== Sys2Proof/Machine/LineFamily.lean ====
section
/-! DEFINITION. The commands of the Annunciation Unit: its twelve requests, the timers of the line, the display port and
the sounder. -/
namespace Sys2Proof.Machine

/-! ### Settings -/

/-- The line re-rendered when a message is on it (R134). -/
def renderIfOnLine (m : Fin 64) (s : State) : State := if s.onLine = some m then renderLine s else s

/-- CONFIGURE MESSAGE (R134). -/
def configureMessageRequest : Request where
  kind := 0x48
  inSleep := false
  fits := messageBodyFits
  run b s := configuring (readMessage b) (fun (m, c) =>
    Answer.ok (renderIfOnLine m (s.setCfg { s.cfg with messages := s.cfg.messages.set m c }))) s

def execConfigureMessage (tag : Byte) (body : List Byte) (s : State) : Host.Outcome State Fault Refusal :=
  event (configureMessageRequest.take tag body) s

/-- The rotation timer of the shown entry under a new interval in s (R136). -/
def Shown.rerotated (sh : Shown) (interval now : Nat) : Shown :=
  { sh with rotationDue := if interval = 0 then none else some (now + Config.sec interval) }

/-- An accepted CONFIGURE LINE (R136). -/
def configureLine (c : LineSettings) (s : State) : State :=
  (s.setCfg { s.cfg with line := c }).setAnu
    { s.anu with shown := s.anu.shown.map fun sh => sh.rerotated c.rotation s.now }

/-- CONFIGURE LINE (R136). -/
def configureLineRequest : Request where
  kind := 0x49
  inSleep := false
  fits := exactly 9
  run b s := configuring (readLineSettings b) (fun c => Answer.ok (configureLine c s)) s

def execConfigureLine (tag : Byte) (body : List Byte) (s : State) : Host.Outcome State Fault Refusal :=
  event (configureLineRequest.take tag body) s

/-- CONFIGURE DUTY MESSAGES (R137). -/
def configureDutyMessagesRequest : Request where
  kind := 0x4A
  inSleep := false
  fits := exactly 32
  run b s := configuring (readDutyMessages b) (fun c => Answer.ok (s.setCfg { s.cfg with dutyMessages := c })) s

def execConfigureDutyMessages (tag : Byte) (body : List Byte) (s : State) : Host.Outcome State Fault Refusal :=
  event (configureDutyMessagesRequest.take tag body) s

/-- An accepted SET PRIORITY MAP (R143): every level recomputed and the queue re-sorted. -/
def setPriorityMap (m : Table 6 AnnClass) (s : State) : State :=
  let s1 := s.setCfg { s.cfg with priorityMap := m }
  let relevel (e : Entry) : Entry := { e with level := s1.levelOf e.cls }
  s1.setAnu { s1.anu with
    queue := sortQueue (s1.anu.queue.map relevel)
    shown := s1.anu.shown.map fun sh => { sh with entry := relevel sh.entry } }

/-- SET PRIORITY MAP (R143). -/
def setPriorityMapRequest : Request where
  kind := 0x4B
  inSleep := false
  fits := exactly 6
  run b s := configuring (readPriorityMap b) (fun m =>
    if s.anu.hostHold then Answer.ok (setPriorityMap m s) else Answer.refuse s .noHold) s

def execSetPriorityMap (tag : Byte) (body : List Byte) (s : State) : Host.Outcome State Fault Refusal :=
  event (setPriorityMapRequest.take tag body) s

/-- The resting page is on the line (R151). -/
def State.restingOnLine (s : State) : Bool :=
  s.anu.shown.isNone && !s.anu.proofHold && decide (s.psc.state ≠ .sleep)

/-- An accepted SET RESTING PAGE (R151). -/
def setRestingPage (page : Option (Fin 64)) (s : State) : State :=
  let s1 := s.setCfg { s.cfg with restingPage := page }
  if s1.restingOnLine then renderLine s1 else s1

/-- SET RESTING PAGE (R151). -/
def setRestingPageRequest : Request where
  kind := 0x51
  inSleep := false
  fits := exactly 1
  run b s := configuring (readOptIndex 64 (byteAt b 0)) (fun p => Answer.ok (setRestingPage p s)) s

def execSetRestingPage (tag : Byte) (body : List Byte) (s : State) : Host.Outcome State Fault Refusal :=
  event (setRestingPageRequest.take tag body) s

/-! ### Holds, acknowledgement, host announcements, click -/

/-- HOLD (R144). -/
def holdRequest : Request where
  kind := 0x4C
  inSleep := false
  fits := exactly 0
  run _ s := Answer.ok (s.setAnu { s.anu with hostHold := true })

def execHold (tag : Byte) (body : List Byte) (s : State) : Host.Outcome State Fault Refusal :=
  event (holdRequest.take tag body) s

/-- RELEASE (R144): when the last hold is cleared, the line is decided. -/
def releaseRequest : Request where
  kind := 0x4D
  inSleep := false
  fits := exactly 0
  run _ s := if s.anu.hostHold then Answer.ok (decideLine (s.setAnu { s.anu with hostHold := false })) else Answer.ok s

def execRelease (tag : Byte) (body : List Byte) (s : State) : Host.Outcome State Fault Refusal :=
  event (releaseRequest.take tag body) s

/-- ACKNOWLEDGE SHOWN (R149). -/
def acknowledgeShownRequest : Request where
  kind := 0x4E
  inSleep := false
  fits := exactly 0
  run _ s :=
    match s.anu.shown with
    | none => Answer.refuse s .state
    | some sh => Answer.okWith (acknowledgeShown s) (be8 sh.entry.source.number)

def execAcknowledgeShown (tag : Byte) (body : List Byte) (s : State) : Host.Outcome State Fault Refusal :=
  event (acknowledgeShownRequest.take tag body) s

/-- The outcome of an offer, from the state before and after it: UPDATED 0, SHOWN 1, QUEUED 2, DROPPED 3 (R150). -/
def offerOutcome (x : AnnSource) (before after : Annunciation) : Nat :=
  if before.shows x || before.waits x then 0
  else if after.shows x then 1
  else if after.waits x then 2
  else 3

/-- ANNOUNCE (R150). -/
def announceRequest : Request where
  kind := 0x4F
  inSleep := false
  fits := exactly 3
  run b s := reading (readAnnounce b) (fun (h, m, c) =>
    let s1 := offer ⟨.host h, .hostMessage, m, c, .normal⟩ s
    Answer.okWith s1 (be8 (offerOutcome (.host h) s.anu s1.anu))) s

def execAnnounce (tag : Byte) (body : List Byte) (s : State) : Host.Outcome State Fault Refusal :=
  event (announceRequest.take tag body) s

/-- WITHDRAW (R150). -/
def withdrawRequest : Request where
  kind := 0x50
  inSleep := false
  fits := exactly 1
  run b s := reading (readIndex 8 (byteAt b 0)) (fun h =>
    Answer.okWith (withdraw (.host h) s) (flagByte (s.anu.shows (.host h) || s.anu.waits (.host h)))) s

def execWithdraw (tag : Byte) (body : List Byte) (s : State) : Host.Outcome State Fault Refusal :=
  event (withdrawRequest.take tag body) s

/-- CHIME CLICK (R155). -/
def chimeClickRequest : Request where
  kind := 0x52
  inSleep := false
  fits := exactly 0
  run _ s :=
    if s.anu.sounder = .silent then Answer.ok (s.setSounder (.click (s.now + Config.clickTime)))
    else ⟨s, .suppressed, []⟩

def execChimeClick (tag : Byte) (body : List Byte) (s : State) : Host.Outcome State Fault Refusal :=
  event (chimeClickRequest.take tag body) s

/-! ### READ LINE (R159) -/

/-- The fields of an entry (R138). -/
def Entry.bytes (e : Entry) : List Byte :=
  be8 e.source.number ++ enumByte AnnClass.list e.cls ++ be8 e.level ++ indexByte e.message ++ enumByte Chime.list e.chime ++
  enumByte AnnKind.list e.kind ++ be16 e.arrival ++ flagByte e.shownBefore

/-- The time to an expiry in steps of 100 ms, rounded down. -/
def remainingSteps (now due : Nat) : Nat := (due - now) / Config.ms 100

/-- The shown entry with its times remaining; the dwell remaining is 0 once elapsed (R159). -/
def Shown.bytes (now : Nat) (sh : Shown) : List Byte :=
  sh.entry.bytes ++ be8 ((sh.dwellDue.map (remainingSteps now)).getD 0) ++
  optField 1 (fun due => be8 (remainingSteps now due)) sh.showDue ++
  optField 2 (fun due => be16 (remainingSteps now due)) sh.rotationDue

/-- The page on the line: NONE 0, START 1, RESTING 2, BLANK 3 (R159, log entry 16). -/
def State.pageNumber (s : State) : Nat :=
  if s.anu.shown.isSome then 0
  else if s.page.isNone then 3
  else if s.anu.proofHold then 1
  else 2

/-- SILENT 0, ONE-SHOT 1, CLICK 2, REPEATING 3 (R159). -/
def Sounder.number : Sounder → Nat
  | .silent => 0 | .oneShot _ _ => 1 | .click _ => 2 | .repeating _ _ => 3

/-- The reply of READ LINE (R159). -/
def State.lineReadout (s : State) : List Byte :=
  flagByte s.anu.hostHold ++ flagByte s.anu.proofHold ++ optField 13 (Shown.bytes s.now) s.anu.shown ++
  countedList Entry.bytes s.anu.queue ++ be8 s.pageNumber ++ s.anu.content.items ++ s.anu.lastSent.items ++
  flagByte s.anu.transfer.isSome ++ flagByte s.anu.owed ++ be8 s.anu.sounder.number ++ be16 s.anu.arrivals ++
  s.cfg.lineBytes

/-- READ LINE (R159). -/
def readLineRequest : Request where
  kind := 0x53
  inSleep := false
  fits := exactly 0
  run _ s := Answer.okWith s s.lineReadout

def execReadLine (tag : Byte) (body : List Byte) (s : State) : Host.Outcome State Fault Refusal :=
  event (readLineRequest.take tag body) s

/-! ### Timers of the line -/

/-- The dwell elapses, and a higher head displaces the shown entry (R146). -/
def dwellElapsed (sh : Shown) (s : State) : State := decideLine (s.setShown (some { sh with dwellDue := none }))

/-- DWELL_EXPIRY (R146). -/
def execDwellExpiry (s : State) : Host.Outcome State Fault Refusal :=
  event (fun t =>
    match t.anu.shown with
    | none => t
    | some sh => onTimer sh.dwellDue (dwellElapsed sh) t) s

/-- A shown REMINDER's show time expires (R147). -/
def showTimeExpired (sh : Shown) (s : State) : State := decideAfterEnd (endEntry .expired sh.entry (stopShown s))

/-- SHOW_TIME_EXPIRY (R147). -/
def execShowTimeExpiry (s : State) : Host.Outcome State Fault Refusal :=
  event (fun t =>
    match t.anu.shown with
    | none => t
    | some sh => onTimer sh.showDue (showTimeExpired sh) t) s

/-- The shown entry is rotated when the conditions of R148 hold. -/
def Annunciation.rotates (a : Annunciation) (sh : Shown) : Bool :=
  !a.held && decide (sh.entry.kind = .normal ∧ sh.dwellDue = none) &&
    a.queue.any fun e => decide (e.level = sh.entry.level)

/-- The shown entry goes behind every waiting entry of its level, and the head begins to be shown (R148). -/
def rotate (s : State) : State :=
  let s1 := gainArrival s
  match s1.anu.shown with
  | none => s1
  | some sh =>
    let s2 := stopShown s1
    showHead (s2.setQueue (enqueue { sh.entry with arrival := s1.anu.arrivals } s2.anu.queue))

/-- The expiry of the rotation timer (R148). -/
def rotationExpired (sh : Shown) (s : State) : State :=
  if s.anu.rotates sh then rotate s
  else s.setShown (some (sh.rerotated s.cfg.line.rotation s.now))

/-- ROTATION_EXPIRY (R148). -/
def execRotationExpiry (s : State) : Host.Outcome State Fault Refusal :=
  event (fun t =>
    match t.anu.shown with
    | none => t
    | some sh => onTimer sh.rotationDue (rotationExpired sh) t) s

/-- LINE_REFRESH (R152). -/
def execLineRefresh (s : State) : Host.Outcome State Fault Refusal :=
  event (fun t =>
    match t.anu.refreshDue with
    | none => t
    | some due =>
      let t1 := t.reach due
      renderLine (t1.setAnu { t1.anu with refreshDue := some (due + Config.refreshInterval) })) s

/-- TRANSFER_COMPLETION (R153). -/
def execTransferCompletion (s : State) : Host.Outcome State Fault Refusal :=
  event (fun t =>
    match t.anu.transfer with
    | none => t
    | some x => completeTransfer x (t.reach x.due)) s

/-- ONE_SHOT_END (R154). -/
def execOneShotEnd (s : State) : Host.Outcome State Fault Refusal :=
  event (fun t =>
    match t.anu.sounder with
    | .oneShot _ due => (t.reach due).setSounder .silent
    | .silent | .click _ | .repeating _ _ => t) s

/-- CLICK_END (R155). -/
def execClickEnd (s : State) : Host.Outcome State Fault Refusal :=
  event (fun t =>
    match t.anu.sounder with
    | .click due => (t.reach due).setSounder .silent
    | .silent | .oneShot _ _ | .repeating _ _ => t) s

/-- REPEAT_PERIOD (R154): one period ends and the next begins with its tone. -/
def execRepeatPeriod (s : State) : Host.Outcome State Fault Refusal :=
  event (fun t =>
    match t.anu.sounder with
    | .repeating fast due => (t.reach due).setSounder (.repeating fast (due + repeatPeriod fast))
    | .silent | .oneShot _ _ | .click _ => t) s

end Sys2Proof.Machine
end

