-- ==== Sys2Proof/Machine/Resets.lean ====
section
/-! DEFINITION. The Configuration Store (R190 to R192) and the two resets, with the state each block takes (R20, R22, R23,
R41, R77, R85, R99, R133, R158, R161, R189). -/
namespace Sys2Proof.Machine

/-! ### The calibration part (R190 to R192) -/

/-- The calibration of a gauge from the lock cell; a rest position outside its range becomes its minimum (R190). -/
def GaugeSettings.calibrated (c : GaugeSettings) (k : Calibration) : GaugeSettings :=
  { c with calibration := k, rest := if k.minPos ≤ c.rest ∧ c.rest ≤ k.maxPos then c.rest else k.minPos }

/-- A source under the lock cell's binding, gain and offset (R190): a source that is not SCAN with that binding takes raw
limits 0-1023 and a fault confirm count of 3. -/
def QSource.calibrated (c : QSource) (input : Fin 16) (gain offset : Int) : QSource :=
  match c with
  | .scan f =>
    if f.input = input then .scan { f with gain := gain, offset := offset }
    else .scan ⟨input, 0, 1023, 3, gain, offset⟩
  | .none | .switch _ _ | .link _ | .duty => .scan ⟨input, 0, 1023, 3, gain, offset⟩

/-- The calibration part of the lock cell laid over settings, at every load and at every save (R190, R191). -/
def LockCell.over (k : LockCell) (c : Settings) : Settings :=
  { c with
    gauges := c.gauges.mapIdx fun g r => r.calibrated (k.gauges.get g)
    sources := k.quantities.foldl
      (fun t (x : Fin 48 × Fin 16 × Int × Int) => t.set x.1 ((t.get x.1).calibrated x.2.1 x.2.2.1 x.2.2.2)) c.sources }

/-- Settings with the lock applied, when it is set. -/
def Store.locked (c : Store) (x : Settings) : Settings :=
  match c.lock with
  | none => x
  | some k => k.over x

/-- The settings that a load puts in force (R190). -/
def Store.loaded (c : Store) : Settings :=
  c.locked (c.image.read.getD .builtIn)

/-- STORE INVALID after a load (R190). -/
def Store.loadFails (c : Store) : Bool := c.image.read.isNone

/-- The calibration part of the active configuration, as LOCK CALIBRATION writes it (R192). -/
def Settings.calibrationPart (c : Settings) : LockCell where
  gauges := .ofFn fun g => (c.gauges.get g).calibration
  quantities := (List.finRange 48).filterMap fun q =>
    match c.sources.get q with
    | .scan f => some (q, f.input, f.gain, f.offset)
    | .none | .switch _ _ | .link _ | .duty => none

/-- A save in progress is abandoned: the image is left with a check value that does not match (R191). -/
def Store.abandoned (c : Store) : Store :=
  match c.saving with
  | none => c
  | some x => { c with image := .brokenOff x, saving := none }

/-- The store after the load of a reset (R190, R191). -/
def Store.afterReset (c : Store) : Store :=
  let d := c.abandoned
  { d with invalid := d.loadFails, saving := none }

/-! ### The reset states of the blocks -/

/-- R189. -/
def LinkPort.afterReset : LinkPort where
  receiver := .hunting
  byteDue := none
  reply := none
  queue := []
  overflow := false
  held := []
  attention := false
  lostSince := none
  silenceDue := none

/-- R22, R23, R27. -/
def Scan.afterReset (list : List ScanEntry) : Scan where
  mode := .stopped
  flight := none
  remaining := []
  roundRobin := firstSlow list
  filters := emptyFilters list
  intervalDue := none

/-- R77, R78, R79, R85, R99. -/
def Evaluation.afterReset (c : Settings) : Evaluation where
  inForce := c.shapes
  strengths := .replicate 48 .notEvaluated
  passCount := 0
  evalDue := none
  pass := none
  warnings := .ofFn fun w => .afterReset (c.warnings.get w)
  lamps := .replicate 32 .afterReset
  driveLevel := 100
  flash := none
  lampDue := none

/-- R153, R158: a transfer of sixteen spaces starts. -/
def Annunciation.afterReset (now : Nat) : Annunciation where
  queue := []
  shown := none
  arrivals := 0
  hostHold := false
  proofHold := false
  refreshDue := none
  content := blankLine
  lastSent := blankLine
  transfer := some ⟨blankLine, now + Config.transferTime⟩
  owed := false
  sounder := .silent

/-- R133 at POWER-ON. -/
def Duty.afterPowerOn (now : Nat) : Duty := ⟨0, now + Config.minutes 1, .replicate 2 (.empty none), 0, false⟩

/-- The controller with the key level sampled at the completion of a reset (R162, log entry 23); the state is chosen
afterwards. -/
def Power.afterReset (keyOn : Bool) (keyDue : Nat) : Power := ⟨.sleep, .stopped, keyOn, keyOn, 1, keyDue⟩

/-- Every block in its reset state under the settings loaded, with the parts that only some resets keep given as
arguments. -/
def resetBlocks (c : Settings) (store : Store) (duty : Duty) (sampleDue keyDue : Nat) (keyOn : Bool) (s : State) :
    State where
  pending := s.pending
  now := s.now
  powered := true
  coilOpen := s.coilOpen
  cfg := c
  lp := .afterReset
  qt := ⟨.replicate 48 (.fresh s.now), sampleDue⟩
  ssu := .afterReset c.scan.list
  gdu := .ofFn fun g => .afterReset (c.gauges.get g).profile
  weu := .afterReset c
  dtu := duty
  anu := .afterReset s.now
  psc := .afterReset keyOn keyDue
  cs := store

/-- The power state chosen at the completion of a reset (R161). -/
def choosePower (cause : PowerCause) (s : State) : State :=
  if s.psc.key = true ∨ s.anyDriving = true then enterProving resetNumber cause s
  else handPowerState resetNumber cause s

/-- POWER-ON (R161). -/
def powerOn (keyOn : Bool) (s : State) : State :=
  let store := s.cs.afterReset
  choosePower .powerOn
    (resetBlocks store.loaded store (.afterPowerOn s.now) (s.now + Config.sampleInterval)
      (s.now + Config.sampleInterval) keyOn s)

/-- The derived quantities of a slot written when its card is PRESENT (R131). -/
def writeDerivedIfPresent (i : Fin 2) (s : State) : State := if (s.slot i).card.isSome then writeDerived i s else s

/-- LINK RESET (R188): the active limit sets, the duty records and clock, and the sampling schedules are kept (R112, R133,
log entry 33), and the derived quantities are written as it completes (R131), those of slot 1 first, which is the model's
choice (log entry 36). -/
def linkReset (keyOn : Bool) (s : State) : State :=
  let store := s.cs.afterReset
  let loaded := store.loaded
  let c := { loaded with duty := { loaded.duty with limits := s.cfg.duty.limits } }
  choosePower .linkReset
    (writeDerivedIfPresent 1 (writeDerivedIfPresent 0
      (resetBlocks c store s.dtu.unmarked s.qt.sampleDue s.psc.keyDue keyOn s)))

/-- The loss of supply (R191): a save in progress is abandoned, and nothing but the store is kept (log entry 21). -/
def loseSupply (s : State) : State :=
  let s1 := resetBlocks .builtIn s.cs.abandoned (.afterPowerOn s.now) (s.now + Config.sampleInterval)
    (s.now + Config.sampleInterval) false s
  { s1 with powered := false, anu := { s1.anu with transfer := none } }

end Sys2Proof.Machine
end

