-- ==== Sys2Proof/Machine/LinkFamily.lean ====
section
/-! DEFINITION. The link-owned requests (R183 to R188), the end of a reply, and the link silence (R177). -/
namespace Sys2Proof.Machine

/-- FETCH REPORTS for a count (R183). -/
def fetchReports (n : Nat) (s : State) : Answer :=
  let taken := s.lp.queue.take n
  let left := s.lp.queue.drop n
  Answer.okWith (judgeAttention (s.setLp { s.lp with queue := left, overflow := false }))
    (be8 left.length ++ flagByte s.lp.overflow ++ taken.flatMap Report.bytes)

/-- FETCH REPORTS (R183). -/
def fetchReportsRequest : Request where
  kind := 0x01
  inSleep := true
  fits := exactly 1
  run b s := reading (readRange 1 32 (byteAt b 0)) (fun n => fetchReports n s) s

def execFetchReports (tag : Byte) (body : List Byte) (s : State) : Host.Outcome State Fault Refusal :=
  event (fetchReportsRequest.take tag body) s

/-- The reply of STATUS (R184). -/
def State.statusReadout (s : State) : List Byte :=
  enumByte PowerState.list s.psc.state ++ flagByte s.psc.key ++ be16 (bitsOf s.conditions) ++ be8 s.lp.queue.length ++
  be8 (s.lp.queue.filter Report.urgent).length ++ be8 s.lp.held.length ++ flagByte s.lp.attention

/-- STATUS (R184). -/
def statusRequest : Request where
  kind := 0x02
  inSleep := true
  fits := exactly 0
  run _ s := Answer.okWith s s.statusReadout

def execStatus (tag : Byte) (body : List Byte) (s : State) : Host.Outcome State Fault Refusal :=
  event (statusRequest.take tag body) s

/-- The reply of IDENTIFY (R185, R195). -/
def State.identity (s : State) : List Byte :=
  be16 0x0A3C ++ be16 0x0046 ++ [Config.siliconRevision] ++ flagByte s.cs.lock.isSome ++
  be8 ((if s.cs.invalid then 1 else 0) + (if s.saving then 2 else 0))

/-- IDENTIFY (R185). -/
def identifyRequest : Request where
  kind := 0x03
  inSleep := true
  fits := exactly 0
  run _ s := Answer.okWith s s.identity

def execIdentify (tag : Byte) (body : List Byte) (s : State) : Host.Outcome State Fault Refusal :=
  event (identifyRequest.take tag body) s

/-- SET ROUTE (R186). -/
def setRouteRequest : Request where
  kind := 0x04
  inSleep := false
  fits := exactly 3
  run b s := configuring (readRouteChange b) (fun (i, r) =>
    Answer.ok (s.setCfg { s.cfg with routes := s.cfg.routes.set i r })) s

def execSetRoute (tag : Byte) (body : List Byte) (s : State) : Host.Outcome State Fault Refusal :=
  event (setRouteRequest.take tag body) s

/-- An accepted CONFIGURE LINK (R187). -/
def configureLink (c : LinkSettings) (s : State) : State :=
  let s1 := s.setCfg { s.cfg with link := c }
  judgeAttention (s1.setLp { s1.lp with
    silenceDue := if c.silence = 0 then none else some (s1.now + Config.ms c.silence) })

/-- CONFIGURE LINK (R187). -/
def configureLinkRequest : Request where
  kind := 0x05
  inSleep := false
  fits := exactly 2
  run b s := configuring (readLinkSettings b) (fun c => Answer.ok (configureLink c s)) s

def execConfigureLink (tag : Byte) (body : List Byte) (s : State) : Host.Outcome State Fault Refusal :=
  event (configureLinkRequest.take tag body) s

/-- RESET (R188): the LINK RESET is made when its reply has been sent. -/
def resetRequest : Request where
  kind := 0x06
  inSleep := true
  fits := exactly 0
  run _ s := Answer.ok s

def execReset (tag : Byte) (body : List Byte) (s : State) : Host.Outcome State Fault Refusal :=
  event (resetRequest.take tag body) s

/-- A reply that answers a RESET with OK (R188). -/
def Reply.resets (r : Reply) : Bool := decide (r.kind = resetRequest.kind ∧ r.status = .ok)

/-- The last byte of a reply has been sent (R174), with the LINK RESET that follows a RESET (R188). -/
def replySent (keyOn : Bool) (r : Reply) (s : State) : State :=
  if r.resets then linkReset keyOn s else s.setLp { s.lp with reply := none }

/-- REPLY_SENT (R174), with the level of the key line. -/
def execReplySent (keyOn : Bool) (s : State) : Host.Outcome State Fault Refusal :=
  event (fun t =>
    match t.lp.reply with
    | none => t
    | some r => replySent keyOn r t) s

/-- LINK LOST begins (R177). -/
def beginLinkLost (s : State) : State :=
  s.setLp { s.lp with lostSince := some s.now, silenceDue := none }
  |> hand .linkLost 0 (s.cfg.link.silence / 10)
  |> hostLevelsOff
  |> forEach (fun h => withdraw (.host h))

/-- SILENCE_EXPIRY (R177). -/
def execSilenceExpiry (s : State) : Host.Outcome State Fault Refusal :=
  event (fun t => onTimer t.lp.silenceDue beginLinkLost t) s

end Sys2Proof.Machine
end

