-- ==== Sys2Proof/Machine/PowerFamily.lean ====
section
/-! DEFINITION. The commands of the Power State Controller and of the supply: SLEEP, WAKE, CONFIGURE POWER, the key sample,
the proof timer, PROOF_DONE, ENTRY_TO_SLEEP, POWER_ON and LOSS_OF_SUPPLY. -/
namespace Sys2Proof.Machine

/-- SLEEP (R165). -/
def sleepRequest : Request where
  kind := 0x08
  inSleep := false
  fits := exactly 0
  run _ s :=
    match s.psc.state with
    | .sleep => Answer.refuse s .asleep
    | .proving => Answer.refuse s .busy
    | .run => if s.anyDriving then Answer.refuse s .driving else Answer.ok (enterParkingState s)
    | .parking => Answer.ok s

def execSleep (tag : Byte) (body : List Byte) (s : State) : Host.Outcome State Fault Refusal :=
  event (sleepRequest.take tag body) s

/-- WAKE (R169). -/
def wakeRequest : Request where
  kind := 0x09
  inSleep := true
  fits := exactly 0
  run _ s :=
    match s.psc.state with
    | .sleep => Answer.ok (enterProving PowerState.sleep.number .wake s)
    | .parking => Answer.ok (returnToRun .wake s)
    | .proving | .run => Answer.ok s

def execWake (tag : Byte) (body : List Byte) (s : State) : Host.Outcome State Fault Refusal :=
  event (wakeRequest.take tag body) s

/-- CONFIGURE POWER (R171). -/
def configurePowerRequest : Request where
  kind := 0x0A
  inSleep := false
  fits := exactly 2
  run b s := configuring (readPowerSettings b) (fun c => Answer.ok (s.setCfg { s.cfg with power := c })) s

def execConfigurePower (tag : Byte) (body : List Byte) (s : State) : Host.Outcome State Fault Refusal :=
  event (configurePowerRequest.take tag body) s

/-- KEY_SAMPLE (R162). -/
def execKeySample (level : Bool) (s : State) : Host.Outcome State Fault Refusal :=
  event (fun t => sampleKey level t.psc.keyDue (t.reach t.psc.keyDue)) s

/-- PROOF_TIMER_EXPIRY (R164). -/
def execProofTimerExpiry (s : State) : Host.Outcome State Fault Refusal :=
  event (fun t =>
    match t.psc.proof with
    | .running due =>
      let t1 := t.reach due
      judgePower (t1.setPsc { t1.psc with proof := .expired })
    | .stopped | .expired => t) s

/-- PROOF_DONE (R164): the proof completes when the timer has expired and GAUGES READY holds (log entry 11). -/
def execProofDone (s : State) : Host.Outcome State Fault Refusal :=
  event (fun t => if t.psc.state = .proving then judgePower t else t) s

/-- ENTRY_TO_SLEEP (R168): the part goes from PARKING to SLEEP when GAUGES PARKED holds (log entry 11). -/
def execEntryToSleep (s : State) : Host.Outcome State Fault Refusal :=
  event (fun t => if t.psc.state = .parking then judgePower t else t) s

/-- POWER_ON (R161), with the level of the key line. -/
def execPowerOn (keyOn : Bool) (s : State) : Host.Outcome State Fault Refusal := .next (powerOn keyOn s)

/-- LOSS_OF_SUPPLY (R191). -/
def execLossOfSupply (s : State) : Host.Outcome State Fault Refusal := event loseSupply s

end Sys2Proof.Machine
end

