-- ==== Sys2Proof/Machine/QuantityFamily.lean ====
section
/-! DEFINITION. The commands of the Quantity Table: CONFIGURE QUANTITY, SET QUANTITIES, READ QUANTITIES, the refresh expiry
and the switch sample. -/
namespace Sys2Proof.Machine

/-- The calibration lock forbids a new source for an entry whose source is SCAN (fourth check of R15). -/
def State.sourceLocked (s : State) (q : Fin 48) (new : QSource) : Bool :=
  s.cs.lock.isSome &&
    match s.cfg.sources.get q, new with
    | .scan f, .scan f' => decide (f'.input ≠ f.input ∨ f'.gain ≠ f.gain ∨ f'.offset ≠ f.offset)
    | .scan _, _ => true
    | _, _ => false

/-- CONFIGURE QUANTITY (R15). -/
def configureQuantityRequest : Request where
  kind := 0x10
  inSleep := false
  fits := exactly 15
  run b s := configuring (readQuantityConfig b) (fun (q, c) =>
    if s.sourceLocked q c then Answer.refuse s .locked else Answer.ok (configureEntry q c s)) s

def execConfigureQuantity (tag : Byte) (body : List Byte) (s : State) : Host.Outcome State Fault Refusal :=
  event (configureQuantityRequest.take tag body) s

/-- One pair of SET QUANTITIES: the index with the fault marker in bit 7, and the value (R18, R197). -/
def applyPair (first : Byte) (v : Int) (s : State) : State × Status :=
  match readIndex 48 (first.toNat % 128) with
  | none => (s, .range)
  | some q =>
    match s.cfg.sources.get q with
    | .link limit => (if 128 ≤ first.toNat then applyFaultMarker q s else applyValue q limit v s, .ok)
    | .none | .scan _ | .switch _ _ | .duty => (s, .conflict)

/-- The pairs of SET QUANTITIES in the order of the list, with the state they leave and their results (R18). -/
def applyPairs : List Byte → State → State × List Byte
  | first :: hi :: lo :: rest, s =>
    let one := applyPair first (intAt [hi, lo] 0) s
    let more := applyPairs rest one.1
    (more.1, one.2.code :: more.2)
  | _, s => (s, [])

/-- SET QUANTITIES (R18). -/
def setQuantitiesRequest : Request where
  kind := 0x11
  inSleep := false
  fits := elements 3 1 16
  run b s := Answer.okWith (applyPairs b s).1 (applyPairs b s).2

def execSetQuantities (tag : Byte) (body : List Byte) (s : State) : Host.Outcome State Fault Refusal :=
  event (setQuantitiesRequest.take tag body) s

/-- The age of an entry in milliseconds, as it is reported (R3). That the part of a millisecond is dropped is the model's
choice (log entry 42). -/
def State.ageOf (s : State) (q : Fin 48) : Nat := min 65535 ((s.now - (s.entry q).restarted) / 1000)

/-- The record of one quantity (R19). -/
def State.quantityRecord (s : State) (q : Fin 48) : List Byte :=
  (s.cfg.sources.get q).pair ++ int16 (s.entry q).value ++ enumByte QStatus.list (s.entry q).status ++ be16 (s.ageOf q)

/-- READ QUANTITIES (R19). -/
def readQuantitiesRequest : Request where
  kind := 0x12
  inSleep := false
  fits := elements 1 1 16
  run b s := reading (readAll (fun x : Byte => readIndex 48 x.toNat) b)
    (fun l => Answer.okWith s (countedList s.quantityRecord l)) s

def execReadQuantities (tag : Byte) (body : List Byte) (s : State) : Host.Outcome State Fault Refusal :=
  event (readQuantitiesRequest.take tag body) s

/-- REFRESH_EXPIRY (R5). -/
def execRefreshExpiry (q : Fin 48) (s : State) : Host.Outcome State Fault Refusal :=
  event (fun t => onTimer (t.entry q).refreshDue (refreshExpired q) t) s

/-- The switch sample timer runs on (R10). -/
def restartSwitchSample (s : State) : State :=
  s.setQt { s.qt with sampleDue := s.qt.sampleDue + Config.sampleInterval }

/-- SWITCH_SAMPLE (R10, R11), with the levels of S0-S7 in bits 0-7. The switch-sourced entries take the sample in index
order, which is the model's choice (log entry 36): at an acknowledge edge among them (R149) the line is rendered before
the entries of higher index have taken it (log entry 13). -/
def execSwitchSample (levels : BitVec 8) (s : State) : Host.Outcome State Fault Refusal :=
  event (fun t => forEach (sampleSwitch levels) (restartSwitchSample (t.reach t.qt.sampleDue))) s

end Sys2Proof.Machine
end

