-- ==== Sys2Proof/Machine/ScanFamily.lean ====
section
/-! DEFINITION. The commands of the Sensor Scan Unit: its five requests, the interval expiry and the completion of a
conversion. -/
namespace Sys2Proof.Machine

/-- CONFIGURE SCAN (R31, R32). -/
def configureScanRequest : Request where
  kind := 0x18
  inSleep := false
  fits := scanBodyFits
  run b s :=
    if s.saving then Answer.refuse s .busy
    else if s.ssu.mode ≠ .stopped then Answer.refuse s .notStopped
    else reading (readScanSettings b) (fun c =>
      match coercedPositions c.list with
      | [] => Answer.ok (configureScan c s)
      | l => ⟨configureScan c s, .coerced, countedList be8 l⟩) s

def execConfigureScan (tag : Byte) (body : List Byte) (s : State) : Host.Outcome State Fault Refusal :=
  event (configureScanRequest.take tag body) s

/-- SCAN START (R33). -/
def scanStartRequest : Request where
  kind := 0x19
  inSleep := false
  fits := exactly 0
  run _ s :=
    match s.ssu.mode with
    | .once _ _ => Answer.refuse s .busy
    | .continuous => Answer.ok s
    | .stopped => if s.cfg.scan.list = [] then Answer.refuse s .conflict else Answer.ok (startContinuous s)

def execScanStart (tag : Byte) (body : List Byte) (s : State) : Host.Outcome State Fault Refusal :=
  event (scanStartRequest.take tag body) s

/-- SCAN STOP (R34). -/
def scanStopRequest : Request where
  kind := 0x1A
  inSleep := false
  fits := exactly 0
  run _ s := if s.ssu.mode = .stopped then Answer.ok s else Answer.ok (stopScan s)

def execScanStop (tag : Byte) (body : List Byte) (s : State) : Host.Outcome State Fault Refusal :=
  event (scanStopRequest.take tag body) s

/-- SCAN ONCE (R35). -/
def scanOnceRequest : Request where
  kind := 0x1B
  inSleep := false
  fits := exactly 2
  run b s :=
    let first := byteAt b 0
    let last := byteAt b 1
    if s.ssu.mode ≠ .stopped then Answer.refuse s .busy
    else if 1 ≤ first ∧ last ≤ s.cfg.scan.list.length ∧ first ≤ last then Answer.ok (startOnce first last s)
    else Answer.refuse s .range

def execScanOnce (tag : Byte) (body : List Byte) (s : State) : Host.Outcome State Fault Refusal :=
  event (scanOnceRequest.take tag body) s

def ScanMode.number : ScanMode → Nat
  | .stopped => 0 | .continuous => 1 | .once _ _ => 2

/-- WAITING 0 or CONVERTING 1 in CONTINUOUS; absent otherwise (R37). -/
def Scan.subState (u : Scan) : List Byte :=
  match u.mode with
  | .continuous => be8 (if u.flight.isSome then 1 else 0)
  | .stopped | .once _ _ => absentField 1

/-- The input and the list position of the conversion in flight (R37). -/
def State.flightBytes (s : State) : List Byte :=
  match s.ssu.flight with
  | none => absentField 2
  | some f =>
    match entryAt s.cfg.scan.list f.position with
    | none => absentField 2
    | some e => indexByte e.input ++ be8 f.position

/-- The positions of the SCAN ONCE under way (R37). -/
def Scan.rangeBytes (u : Scan) : List Byte :=
  match u.mode with
  | .once first last => be8 first ++ be8 last
  | .stopped | .continuous => absentField 2

/-- The reply of READ SCAN (R37). -/
def State.scanReadout (s : State) : List Byte :=
  be8 s.ssu.mode.number ++ s.ssu.subState ++ s.flightBytes ++ optField 1 be8 s.ssu.roundRobin ++ s.ssu.rangeBytes ++
  be8 s.cfg.scan.interval ++ flagByte s.cfg.scan.autostart ++ countedList ScanEntry.bytes s.cfg.scan.list ++
  countedList (fun f : List Nat => be8 f.length) s.ssu.filters

/-- READ SCAN (R37). -/
def readScanRequest : Request where
  kind := 0x1C
  inSleep := false
  fits := exactly 0
  run _ s := Answer.okWith s s.scanReadout

def execReadScan (tag : Byte) (body : List Byte) (s : State) : Host.Outcome State Fault Refusal :=
  event (readScanRequest.take tag body) s

/-- SCAN_INTERVAL_EXPIRY (R25): it finds the sub-state WAITING. -/
def execScanIntervalExpiry (s : State) : Host.Outcome State Fault Refusal :=
  event (fun t =>
    match t.ssu.intervalDue, t.ssu.flight with
    | some due, none => intervalExpired due (t.reach due)
    | _, _ => t) s

/-- CONVERSION_COMPLETION (R28), with the raw result. -/
def execConversionCompletion (raw : BitVec 10) (s : State) : Host.Outcome State Fault Refusal :=
  event (fun t =>
    match t.ssu.flight with
    | none => t
    | some f => completeConversion f raw.toNat (t.reach f.due)) s

end Sys2Proof.Machine
end

