-- ==== Sys2Proof/Machine/StoreFamily.lean ====
section
/-! DEFINITION. The commands of the Configuration Store: SAVE CONFIGURATION and its end, LOCK CALIBRATION and READ
CONFIGURATION. -/
namespace Sys2Proof.Machine

/-- A save begins: the image to be written is the active configuration as it stands, the calibration part from the lock
cell (R191). -/
def beginSave (s : State) : State := s.setCs { s.cs with saving := some (s.cs.locked s.cfg) }

/-- SAVE CONFIGURATION (R191). -/
def saveConfigurationRequest : Request where
  kind := 0x0C
  inSleep := false
  fits := exactly 0
  run _ s := if s.saving then Answer.refuse s .busy else Answer.ok (beginSave s)

def execSaveConfiguration (tag : Byte) (body : List Byte) (s : State) : Host.Outcome State Fault Refusal :=
  event (saveConfigurationRequest.take tag body) s

/-- What the stored image is after a failed save (R191, log entry 8). -/
def ImageLeft.image (left : ImageLeft) (before : StoredImage) (written : Settings) : StoredImage :=
  match left with
  | .previous => before
  | .written => .written written
  | .broken => .brokenOff written

/-- The end of a save (R191). -/
def endSave (written : Settings) (outcome : SaveOutcome) (s : State) : State :=
  match outcome with
  | .completed =>
    hand .saveDone 0 0 (s.setCs { s.cs with image := .written written, invalid := false, saving := none })
  | .failed left =>
    hand .saveFailed 0 0 (s.setCs { s.cs with image := ImageLeft.image left s.cs.image written, invalid := true, saving := none })

/-- SAVE_END (R191). -/
def execSaveEnd (outcome : SaveOutcome) (s : State) : Host.Outcome State Fault Refusal :=
  event (fun t =>
    match t.cs.saving with
    | none => t
    | some written => endSave written outcome t) s

/-- The lock cell written with the calibration part as it stands (R192). -/
def setLock (s : State) : State :=
  match s.cs.lock with
  | some _ => s
  | none => s.setCs { s.cs with lock := some s.cfg.calibrationPart }

/-- LOCK CALIBRATION (R192). -/
def lockCalibrationRequest : Request where
  kind := 0x0D
  inSleep := false
  fits := exactly 0
  run _ s :=
    if s.saving then Answer.refuse s .busy
    else if s.cs.invalid then Answer.refuse s .conflict
    else Answer.ok (setLock s)

def execLockCalibration (tag : Byte) (body : List Byte) (s : State) : Host.Outcome State Fault Refusal :=
  event (lockCalibrationRequest.take tag body) s

/-- The lock cell: the mark, and while it is set the calibration part (R192, R193). That the calibration part stands gauge by
gauge, each with its breakpoints, minimum and maximum, and then as a count and the locked quantities by rising index, each
with its index, input, gain and offset, is the model's choice, as is the mark alone while the lock is clear (log entry
16). -/
def lockBytes : Option LockCell → List Byte
  | none => flagByte false
  | some k => flagByte true ++ k.gauges.items.flatMap Calibration.bytes ++
      countedList (fun x : Fin 48 × Fin 16 × Int × Int =>
        indexByte x.1 ++ indexByte x.2.1 ++ int16 x.2.2.1 ++ int16 x.2.2.2) k.quantities

/-- An item without an index, whose index byte is 0 (R193). -/
def whole (index : Nat) (bytes : List Byte) : Option (List Byte) := readWhen (decide (index = 0)) bytes

/-- The item of the active configuration that READ CONFIGURATION names, by its row in R193's table and its index. -/
def State.configurationItem (s : State) (item index : Nat) : Option (List Byte) :=
  let c := s.cfg
  match item with
  | 0 => (readIndex 64 index).map fun m => (c.messages.get m).bytes
  | 1 => whole index (c.dutyMessages.items.flatMap DutyMessage.bytes)
  | 2 => whole index (lockBytes s.cs.lock)
  | 3 => (readIndex 48 index).map fun q => (c.sources.get q).bytes
  | 4 => (readIndex 32 index).map fun f => (c.shapes.get f).bytes
  | 5 => whole index (be8 (c.evalInterval / 10))
  | 6 => whole index (c.routes.items.flatMap (enumByte Route.list))
  | 7 => whole index c.link.bytes
  | 8 => whole index c.power.bytes
  | 9 => whole index c.duty.bytes
  | _ => none

/-- READ CONFIGURATION (R193). -/
def readConfigurationRequest : Request where
  kind := 0x0E
  inSleep := false
  fits := exactly 2
  run b s := reading (s.configurationItem (byteAt b 0) (byteAt b 1)) (fun bytes => Answer.okWith s bytes) s

def execReadConfiguration (tag : Byte) (body : List Byte) (s : State) : Host.Outcome State Fault Refusal :=
  event (readConfigurationRequest.take tag body) s

end Sys2Proof.Machine
end

