-- ==== Sys2Proof/Machine/WarningFamily.lean ====
section
/-! DEFINITION. The commands of the warnings: the six requests of chapter 5 and the two timers. -/
namespace Sys2Proof.Machine

/-- The warning that a body names. -/
def readWarningIndex (b : List Byte) : Option (Fin 48) := readIndex 48 (byteAt b 0)

/-- RAISE_DELAY_EXPIRY (R87). -/
def execRaiseDelayExpiry (w : Fin 48) (s : State) : Host.Outcome State Fault Refusal :=
  event (fun t => onTimer (t.warning w).raiseDue (enterActiveNew w false) t) s

/-- The expiry of a reminder timer (R91): the timer starts again and a REMINDER is offered. -/
def reminderExpired (w : Fin 48) (s : State) : State :=
  offerWarning w .reminder .reminder
    (s.setWarning w { s.warning w with
      reminderDue := some (s.now + Config.minutes (s.cfg.warnings.get w).reminder) })

/-- REMINDER_EXPIRY (R91). -/
def execReminderExpiry (w : Fin 48) (s : State) : Host.Outcome State Fault Refusal :=
  event (fun t => onTimer (t.warning w).reminderDue (reminderExpired w) t) s

/-- CONFIGURE WARNING (R96). -/
def configureWarningRequest : Request where
  kind := 0x30
  inSleep := false
  fits := exactly 11
  run b s := configuring (readWarnSettings b) (fun (w, c) => Answer.ok (reconfigureWarning w c s)) s

def execConfigureWarning (tag : Byte) (body : List Byte) (s : State) : Host.Outcome State Fault Refusal :=
  event (configureWarningRequest.take tag body) s

/-- ACKNOWLEDGE WARNING on a warning, by its state (R92). -/
def acknowledgeByHost (w : Fin 48) (s : State) : Answer :=
  match (s.warning w).state with
  | .activeNew | .activeSeen => Answer.ok (withdrawWarning w (acknowledgeWarning w s))
  | .latched =>
    if (s.warning w).acknowledged then Answer.ok s else Answer.ok (withdrawWarning w (acknowledgeWarning w s))
  | .off | .rising | .disabled | .suppressed => Answer.refuse s .conflict

/-- ACKNOWLEDGE WARNING (R92). -/
def acknowledgeWarningRequest : Request where
  kind := 0x31
  inSleep := false
  fits := exactly 1
  run b s := reading (readWarningIndex b) (fun w => acknowledgeByHost w s) s

def execAcknowledgeWarning (tag : Byte) (body : List Byte) (s : State) : Host.Outcome State Fault Refusal :=
  event (acknowledgeWarningRequest.take tag body) s

/-- CLEAR WARNING on a warning, by its state (R93). -/
def clearByHost (w : Fin 48) (s : State) : Answer :=
  match (s.warning w).state with
  | .latched => Answer.ok (goOff w .cleared s)
  | .off | .disabled | .suppressed => Answer.ok s
  | .rising | .activeNew | .activeSeen => Answer.refuse s .conflict

/-- CLEAR WARNING (R93). -/
def clearWarningRequest : Request where
  kind := 0x32
  inSleep := false
  fits := exactly 1
  run b s := reading (readWarningIndex b) (fun w => clearByHost w s) s

def execClearWarning (tag : Byte) (body : List Byte) (s : State) : Host.Outcome State Fault Refusal :=
  event (clearWarningRequest.take tag body) s

/-- A warning set aside (R94). -/
def suppress (w : Fin 48) (s : State) : State :=
  let s1 := withdrawWarning w (s.setWarning w ((s.warning w).restedIn .suppressed))
  judgeLampOf w (if (s.warning w).state.engaged then handWarningEnded w .suppressed s1 else s1)

/-- SUPPRESS WARNING on a warning, by its state (R94). -/
def suppressByHost (w : Fin 48) (s : State) : Answer :=
  match (s.warning w).state with
  | .disabled => Answer.refuse s .conflict
  | .suppressed => Answer.ok s
  | .off | .rising | .activeNew | .activeSeen | .latched => Answer.ok (suppress w s)

/-- SUPPRESS WARNING (R94). -/
def suppressWarningRequest : Request where
  kind := 0x33
  inSleep := false
  fits := exactly 1
  run b s := reading (readWarningIndex b) (fun w => suppressByHost w s) s

def execSuppressWarning (tag : Byte) (body : List Byte) (s : State) : Host.Outcome State Fault Refusal :=
  event (suppressWarningRequest.take tag body) s

/-- RESTORE WARNING on a warning, by its state (R95). -/
def restoreByHost (w : Fin 48) (s : State) : Answer :=
  if (s.warning w).state = .suppressed then
    Answer.ok (judgeLampOf w (s.setWarning w { s.warning w with state := .off, acknowledged := false }))
  else Answer.refuse s .conflict

/-- RESTORE WARNING (R95). -/
def restoreWarningRequest : Request where
  kind := 0x34
  inSleep := false
  fits := exactly 1
  run b s := reading (readWarningIndex b) (fun w => restoreByHost w s) s

def execRestoreWarning (tag : Byte) (body : List Byte) (s : State) : Host.Outcome State Fault Refusal :=
  event (restoreWarningRequest.take tag body) s

/-- The raise delay remaining in steps of 100 ms, in RISING; absent otherwise (R98). -/
def State.raiseRemaining (s : State) (w : Fin 48) : List Byte :=
  match (s.warning w).state, (s.warning w).raiseDue with
  | .rising, some due => be8 ((due - s.now) / Config.ms 100)
  | _, _ => absentField 1

/-- The whole seconds to the next reminder; absent while its timer does not run (R98). That a part of a second is dropped
is the model's choice (log entry 42). -/
def State.reminderRemaining (s : State) (w : Fin 48) : List Byte :=
  optField 2 (fun due => be16 ((due - s.now) / Config.sec 1)) (s.warning w).reminderDue

/-- The reply of READ WARNING (R98). -/
def State.warningReadout (s : State) (w : Fin 48) : List Byte :=
  enumByte WarnState.list (s.warning w).state ++ flagByte (s.warning w).acknowledged ++ s.raiseRemaining w ++
  s.reminderRemaining w ++ enumByte AnnMark.list (s.warning w).mark ++ (s.cfg.warnings.get w).bytes

/-- READ WARNING (R98). -/
def readWarningRequest : Request where
  kind := 0x35
  inSleep := false
  fits := exactly 1
  run b s := reading (readWarningIndex b) (fun w => Answer.okWith s (s.warningReadout w)) s

def execReadWarning (tag : Byte) (body : List Byte) (s : State) : Host.Outcome State Fault Refusal :=
  event (readWarningRequest.take tag body) s

end Sys2Proof.Machine
end

