-- ==== Sys2Proof/WellFormed.lean ====
section
/-! DEFINITION. Well-formed commands: what a frame can carry and what an event's name says of it. The meanings are total;
an ill-formed command names an event that cannot occur. -/
namespace Sys2Proof

/-- The 58 kind codes that name a request, in the order of R195's table. -/
def requestKinds : List Byte :=
  [0x01#8, 0x02#8, 0x03#8, 0x04#8, 0x05#8, 0x06#8] ++
  [0x08#8, 0x09#8, 0x0A#8] ++
  [0x0C#8, 0x0D#8, 0x0E#8] ++
  [0x10#8, 0x11#8, 0x12#8] ++
  [0x18#8, 0x19#8, 0x1A#8, 0x1B#8, 0x1C#8] ++
  [0x20#8, 0x21#8, 0x22#8, 0x23#8, 0x24#8, 0x25#8] ++
  [0x28#8, 0x29#8, 0x2A#8, 0x2B#8] ++
  [0x30#8, 0x31#8, 0x32#8, 0x33#8, 0x34#8, 0x35#8, 0x36#8, 0x37#8, 0x38#8, 0x39#8] ++
  [0x40#8, 0x41#8, 0x42#8, 0x43#8, 0x44#8, 0x45#8] ++
  [0x48#8, 0x49#8, 0x4A#8, 0x4B#8, 0x4C#8, 0x4D#8, 0x4E#8, 0x4F#8, 0x50#8, 0x51#8, 0x52#8, 0x53#8]

/-- A BODY is at most 240 bytes (chapter 9, section 9.1). -/
def bodyFits (body : List Byte) : Bool := decide (body.length ≤ 240)

/-- A LENGTH byte outside 2-242 discards its frame (R173). -/
def badLength (value : Byte) : Bool := decide (value.toNat < 2) || decide (242 < value.toNat)

/-- The well-formed commands. -/
def wellFormed : Instr → Bool
  | .powerOn _ => true
  | .replySent _ => true
  | .badLengthByte value => badLength value
  | .frameCheckMismatch _ => true
  | .frameByteTimeout => true
  | .linkOverrun _ _ => true
  | .unknownRequest _ kind => !requestKinds.contains kind
  | .fetchReports _ body => bodyFits body
  | .status _ body => bodyFits body
  | .identify _ body => bodyFits body
  | .setRoute _ body => bodyFits body
  | .configureLink _ body => bodyFits body
  | .reset _ body => bodyFits body
  | .sleep _ body => bodyFits body
  | .wake _ body => bodyFits body
  | .configurePower _ body => bodyFits body
  | .saveConfiguration _ body => bodyFits body
  | .saveEnd _ => true
  | .lockCalibration _ body => bodyFits body
  | .readConfiguration _ body => bodyFits body
  | .configureQuantity _ body => bodyFits body
  | .setQuantities _ body => bodyFits body
  | .readQuantities _ body => bodyFits body
  | .refreshExpiry _ => true
  | .switchSample _ => true
  | .configureScan _ body => bodyFits body
  | .scanStart _ body => bodyFits body
  | .scanStop _ body => bodyFits body
  | .scanOnce _ body => bodyFits body
  | .readScan _ body => bodyFits body
  | .scanIntervalExpiry => true
  | .conversionCompletion _ => true
  | .configureGauge _ body => bodyFits body
  | .homeGauge _ body => bodyFits body
  | .parkGauge _ body => bodyFits body
  | .releaseGauge _ body => bodyFits body
  | .positionGauge _ body => bodyFits body
  | .readGauge _ body => bodyFits body
  | .gaugeStep _ => true
  | .homingStep _ _ => true
  | .gaugeUpdate _ => true
  | .coilOpen _ _ => true
  | .configureShape _ body => bodyFits body
  | .configureCriterion _ body => bodyFits body
  | .configureEvaluation _ body => bodyFits body
  | .readStrength _ body => bodyFits body
  | .passStart => true
  | .criterionEvaluation => true
  | .raiseDelayExpiry _ => true
  | .reminderExpiry _ => true
  | .acknowledgeWarning _ body => bodyFits body
  | .clearWarning _ body => bodyFits body
  | .suppressWarning _ body => bodyFits body
  | .restoreWarning _ body => bodyFits body
  | .configureWarning _ body => bodyFits body
  | .readWarning _ body => bodyFits body
  | .configureLamp _ body => bodyFits body
  | .configureDimmer _ body => bodyFits body
  | .setLamps _ body => bodyFits body
  | .readLamps _ body => bodyFits body
  | .flashHalfChange => true
  | .lampSample _ => true
  | .configureDuty _ body => bodyFits body
  | .stageLimits _ body => bodyFits body
  | .dutyActivity _ body => bodyFits body
  | .cardIn _ body => bodyFits body
  | .cardOut _ body => bodyFits body
  | .readDuty _ body => bodyFits body
  | .minuteExpiry _ => true
  | .configureMessage _ body => bodyFits body
  | .configureLine _ body => bodyFits body
  | .configureDutyMessages _ body => bodyFits body
  | .setPriorityMap _ body => bodyFits body
  | .hold _ body => bodyFits body
  | .release _ body => bodyFits body
  | .acknowledgeShown _ body => bodyFits body
  | .announce _ body => bodyFits body
  | .withdraw _ body => bodyFits body
  | .setRestingPage _ body => bodyFits body
  | .chimeClick _ body => bodyFits body
  | .readLine _ body => bodyFits body
  | .dwellExpiry => true
  | .showTimeExpiry => true
  | .rotationExpiry => true
  | .lineRefresh => true
  | .transferCompletion => true
  | .oneShotEnd => true
  | .clickEnd => true
  | .repeatPeriod => true
  | .keySample _ => true
  | .proofTimerExpiry => true
  | .proofDone => true
  | .entryToSleep => true
  | .silenceExpiry => true
  | .byteArrival _ => true
  | .lossOfSupply => true

end Sys2Proof
end

