-- ==== Sys2Proof/Machine/Receiver.lean ====
section
/-! DEFINITION. The receiver of the Link Port (R173, R174): bytes, discarded frames, overruns, unknown kinds, and the good
frame handed to the request that its KIND names. -/
namespace Sys2Proof.Machine

/-- The 58 requests, in the order of R195. -/
def requests : List Request :=
  [fetchReportsRequest, statusRequest, identifyRequest, setRouteRequest, configureLinkRequest, resetRequest] ++
  [sleepRequest, wakeRequest, configurePowerRequest] ++
  [saveConfigurationRequest, lockCalibrationRequest, readConfigurationRequest] ++
  [configureQuantityRequest, setQuantitiesRequest, readQuantitiesRequest] ++
  [configureScanRequest, scanStartRequest, scanStopRequest, scanOnceRequest, readScanRequest] ++
  [configureGaugeRequest, homeGaugeRequest, parkGaugeRequest, releaseGaugeRequest, positionGaugeRequest,
    readGaugeRequest] ++
  [configureShapeRequest, configureCriterionRequest, configureEvaluationRequest, readStrengthRequest] ++
  [configureWarningRequest, acknowledgeWarningRequest, clearWarningRequest, suppressWarningRequest,
    restoreWarningRequest, readWarningRequest, configureLampRequest, configureDimmerRequest, setLampsRequest,
    readLampsRequest] ++
  [configureDutyRequest, stageLimitsRequest, dutyActivityRequest, cardInRequest, cardOutRequest, readDutyRequest] ++
  [configureMessageRequest, configureLineRequest, configureDutyMessagesRequest, setPriorityMapRequest, holdRequest,
    releaseRequest, acknowledgeShownRequest, announceRequest, withdrawRequest, setRestingPageRequest,
    chimeClickRequest, readLineRequest]

/-- A good frame judged at its last byte, by its KIND (R174, R175). -/
def takeFrame (tag kind : Byte) (body : List Byte) (s : State) : State :=
  match requests.find? fun r => decide (r.kind = kind) with
  | some r => r.take tag body s
  | none => takeUnknown tag kind s

/-- The receiver hunts again (R173). -/
def huntAgain (s : State) : State := s.setLp { s.lp with receiver := .hunting, byteDue := none }

/-- A frame discarded for its LENGTH or for stopping short: LINK FRAME ERROR with subject 0 and detail LENGTH (R173). -/
def discardShort (s : State) : State := hand .linkFrameError 0 0 (huntAgain s)

/-- A frame discarded for its check: LINK FRAME ERROR with subject the TAG received and detail CHECK (R173). -/
def discardMismatch (tag : Byte) (s : State) : State := hand .linkFrameError tag.toNat 1 (huntAgain s)

/-- The receiver in a phase, waiting 10 ms for the next byte (R173). -/
def awaitByte (phase : Receiver) (s : State) : State :=
  s.setLp { s.lp with receiver := phase, byteDue := some (s.now + Config.byteTimeout) }

/-- A frame complete with its CHECK bytes: good, or discarded (R173). The content is TAG, KIND and BODY. -/
def judgeFrame (len : Byte) (content check : List Byte) (s : State) : State :=
  let tag := content.getD 0 0#8
  if be16 (checkValue (len :: content)).toNat = check then takeFrame tag (content.getD 1 0#8) (content.drop 2) s
  else discardMismatch tag s

/-- One byte arriving in FRAME (R173). -/
def gatherByte (len : Byte) (gathered : List Byte) (b : Byte) (s : State) : State :=
  let all := gathered ++ [b]
  if all.length < len.toNat + 2 then awaitByte (.frame len all) s
  else judgeFrame len (all.take len.toNat) (all.drop len.toNat) s

/-- One byte arriving (R173). -/
def receiveByte (b : Byte) (s : State) : State :=
  match s.lp.receiver with
  | .hunting => if b = syncByte then awaitByte .length s else s
  | .length => if badLength b then discardShort s else awaitByte (.frame b []) s
  | .frame len gathered => gatherByte len gathered b s

/-- BYTE_ARRIVAL (R173). -/
def execByteArrival (b : Byte) (s : State) : Host.Outcome State Fault Refusal := event (receiveByte b) s

/-- BAD_LENGTH_BYTE (R173): the LENGTH byte of a frame lies outside 2-242. -/
def execBadLengthByte (value : Byte) (s : State) : Host.Outcome State Fault Refusal :=
  event (fun t => if badLength value then discardShort t else t) s

/-- FRAME_CHECK_MISMATCH (R173), with the TAG received. -/
def execFrameCheckMismatch (tag : Byte) (s : State) : Host.Outcome State Fault Refusal :=
  event (discardMismatch tag) s

/-- FRAME_BYTE_TIMEOUT (R173). -/
def execFrameByteTimeout (s : State) : Host.Outcome State Fault Refusal :=
  event (fun t => onTimer t.lp.byteDue discardShort t) s

/-- LINK_OVERRUN (R174): a good frame arrives while a reply is in progress. -/
def execLinkOverrun (tag kind : Byte) (s : State) : Host.Outcome State Fault Refusal :=
  event (fun t =>
    match t.lp.reply with
    | none => t
    | some _ => overrun tag kind (goodFrame t)) s

/-- UNKNOWN_REQUEST (R175): a good frame whose KIND names no request. -/
def execUnknownRequest (tag kind : Byte) (s : State) : Host.Outcome State Fault Refusal :=
  event (fun t => if requestKinds.contains kind then t else takeUnknown tag kind t) s

end Sys2Proof.Machine
end

