-- ==== Sys2Proof/Machine/Dispatch.lean ====
section
/-! DEFINITION. One arm for each command of the table, each one direct call of its meaning. -/
namespace Sys2Proof.Machine

/-- The effect of a command on everything but the queue. -/
def exec (i : Instr) (s : State) : Host.Outcome State Fault Refusal :=
  match i with
  | .powerOn keyOn => Sys2Proof.Machine.execPowerOn keyOn s
  | .replySent keyOn => Sys2Proof.Machine.execReplySent keyOn s
  | .badLengthByte value => Sys2Proof.Machine.execBadLengthByte value s
  | .frameCheckMismatch tag => Sys2Proof.Machine.execFrameCheckMismatch tag s
  | .frameByteTimeout => Sys2Proof.Machine.execFrameByteTimeout s
  | .linkOverrun tag kind => Sys2Proof.Machine.execLinkOverrun tag kind s
  | .unknownRequest tag kind => Sys2Proof.Machine.execUnknownRequest tag kind s
  | .fetchReports tag body => Sys2Proof.Machine.execFetchReports tag body s
  | .status tag body => Sys2Proof.Machine.execStatus tag body s
  | .identify tag body => Sys2Proof.Machine.execIdentify tag body s
  | .setRoute tag body => Sys2Proof.Machine.execSetRoute tag body s
  | .configureLink tag body => Sys2Proof.Machine.execConfigureLink tag body s
  | .reset tag body => Sys2Proof.Machine.execReset tag body s
  | .sleep tag body => Sys2Proof.Machine.execSleep tag body s
  | .wake tag body => Sys2Proof.Machine.execWake tag body s
  | .configurePower tag body => Sys2Proof.Machine.execConfigurePower tag body s
  | .saveConfiguration tag body => Sys2Proof.Machine.execSaveConfiguration tag body s
  | .saveEnd outcome => Sys2Proof.Machine.execSaveEnd outcome s
  | .lockCalibration tag body => Sys2Proof.Machine.execLockCalibration tag body s
  | .readConfiguration tag body => Sys2Proof.Machine.execReadConfiguration tag body s
  | .configureQuantity tag body => Sys2Proof.Machine.execConfigureQuantity tag body s
  | .setQuantities tag body => Sys2Proof.Machine.execSetQuantities tag body s
  | .readQuantities tag body => Sys2Proof.Machine.execReadQuantities tag body s
  | .refreshExpiry q => Sys2Proof.Machine.execRefreshExpiry q s
  | .switchSample levels => Sys2Proof.Machine.execSwitchSample levels s
  | .configureScan tag body => Sys2Proof.Machine.execConfigureScan tag body s
  | .scanStart tag body => Sys2Proof.Machine.execScanStart tag body s
  | .scanStop tag body => Sys2Proof.Machine.execScanStop tag body s
  | .scanOnce tag body => Sys2Proof.Machine.execScanOnce tag body s
  | .readScan tag body => Sys2Proof.Machine.execReadScan tag body s
  | .scanIntervalExpiry => Sys2Proof.Machine.execScanIntervalExpiry s
  | .conversionCompletion raw => Sys2Proof.Machine.execConversionCompletion raw s
  | .configureGauge tag body => Sys2Proof.Machine.execConfigureGauge tag body s
  | .homeGauge tag body => Sys2Proof.Machine.execHomeGauge tag body s
  | .parkGauge tag body => Sys2Proof.Machine.execParkGauge tag body s
  | .releaseGauge tag body => Sys2Proof.Machine.execReleaseGauge tag body s
  | .positionGauge tag body => Sys2Proof.Machine.execPositionGauge tag body s
  | .readGauge tag body => Sys2Proof.Machine.execReadGauge tag body s
  | .gaugeStep g => Sys2Proof.Machine.execGaugeStep g s
  | .homingStep g stall => Sys2Proof.Machine.execHomingStep g stall s
  | .gaugeUpdate g => Sys2Proof.Machine.execGaugeUpdate g s
  | .coilOpen g active => Sys2Proof.Machine.execCoilOpen g active s
  | .configureShape tag body => Sys2Proof.Machine.execConfigureShape tag body s
  | .configureCriterion tag body => Sys2Proof.Machine.execConfigureCriterion tag body s
  | .configureEvaluation tag body => Sys2Proof.Machine.execConfigureEvaluation tag body s
  | .readStrength tag body => Sys2Proof.Machine.execReadStrength tag body s
  | .passStart => Sys2Proof.Machine.execPassStart s
  | .criterionEvaluation => Sys2Proof.Machine.execCriterionEvaluation s
  | .raiseDelayExpiry w => Sys2Proof.Machine.execRaiseDelayExpiry w s
  | .reminderExpiry w => Sys2Proof.Machine.execReminderExpiry w s
  | .acknowledgeWarning tag body => Sys2Proof.Machine.execAcknowledgeWarning tag body s
  | .clearWarning tag body => Sys2Proof.Machine.execClearWarning tag body s
  | .suppressWarning tag body => Sys2Proof.Machine.execSuppressWarning tag body s
  | .restoreWarning tag body => Sys2Proof.Machine.execRestoreWarning tag body s
  | .configureWarning tag body => Sys2Proof.Machine.execConfigureWarning tag body s
  | .readWarning tag body => Sys2Proof.Machine.execReadWarning tag body s
  | .configureLamp tag body => Sys2Proof.Machine.execConfigureLamp tag body s
  | .configureDimmer tag body => Sys2Proof.Machine.execConfigureDimmer tag body s
  | .setLamps tag body => Sys2Proof.Machine.execSetLamps tag body s
  | .readLamps tag body => Sys2Proof.Machine.execReadLamps tag body s
  | .flashHalfChange => Sys2Proof.Machine.execFlashHalfChange s
  | .lampSample openLoads => Sys2Proof.Machine.execLampSample openLoads s
  | .configureDuty tag body => Sys2Proof.Machine.execConfigureDuty tag body s
  | .stageLimits tag body => Sys2Proof.Machine.execStageLimits tag body s
  | .dutyActivity tag body => Sys2Proof.Machine.execDutyActivity tag body s
  | .cardIn tag body => Sys2Proof.Machine.execCardIn tag body s
  | .cardOut tag body => Sys2Proof.Machine.execCardOut tag body s
  | .readDuty tag body => Sys2Proof.Machine.execReadDuty tag body s
  | .minuteExpiry slot2First => Sys2Proof.Machine.execMinuteExpiry slot2First s
  | .configureMessage tag body => Sys2Proof.Machine.execConfigureMessage tag body s
  | .configureLine tag body => Sys2Proof.Machine.execConfigureLine tag body s
  | .configureDutyMessages tag body => Sys2Proof.Machine.execConfigureDutyMessages tag body s
  | .setPriorityMap tag body => Sys2Proof.Machine.execSetPriorityMap tag body s
  | .hold tag body => Sys2Proof.Machine.execHold tag body s
  | .release tag body => Sys2Proof.Machine.execRelease tag body s
  | .acknowledgeShown tag body => Sys2Proof.Machine.execAcknowledgeShown tag body s
  | .announce tag body => Sys2Proof.Machine.execAnnounce tag body s
  | .withdraw tag body => Sys2Proof.Machine.execWithdraw tag body s
  | .setRestingPage tag body => Sys2Proof.Machine.execSetRestingPage tag body s
  | .chimeClick tag body => Sys2Proof.Machine.execChimeClick tag body s
  | .readLine tag body => Sys2Proof.Machine.execReadLine tag body s
  | .dwellExpiry => Sys2Proof.Machine.execDwellExpiry s
  | .showTimeExpiry => Sys2Proof.Machine.execShowTimeExpiry s
  | .rotationExpiry => Sys2Proof.Machine.execRotationExpiry s
  | .lineRefresh => Sys2Proof.Machine.execLineRefresh s
  | .transferCompletion => Sys2Proof.Machine.execTransferCompletion s
  | .oneShotEnd => Sys2Proof.Machine.execOneShotEnd s
  | .clickEnd => Sys2Proof.Machine.execClickEnd s
  | .repeatPeriod => Sys2Proof.Machine.execRepeatPeriod s
  | .keySample level => Sys2Proof.Machine.execKeySample level s
  | .proofTimerExpiry => Sys2Proof.Machine.execProofTimerExpiry s
  | .proofDone => Sys2Proof.Machine.execProofDone s
  | .entryToSleep => Sys2Proof.Machine.execEntryToSleep s
  | .silenceExpiry => Sys2Proof.Machine.execSilenceExpiry s
  | .byteArrival byte => Sys2Proof.Machine.execByteArrival byte s
  | .lossOfSupply => Sys2Proof.Machine.execLossOfSupply s

end Sys2Proof.Machine
end

