-- ==== Sys2Proof/Safety.lean ====
section
/-! DEFINITION. The terms that claims are made in: the parts of the state and what two states share, when the part takes a
request, the record that a report leaves, what a release of the gauges, a stop of the scan and a beginning of showing do, what
a reset loads, the frame that a request command stands for, and the properties that every step keeps. -/
namespace Sys2Proof.Machine

/-! ### Parts of the state -/

/-- The parts of the state, one for each field. -/
inductive Part where
  | pending | now | powered | coilOpen | cfg | lp | qt | ssu | gdu | weu | dtu | anu | psc | cs
  deriving DecidableEq, Repr

/-- Two states agree on a part. -/
def State.agreeOn (s t : State) : Part → Prop
  | .pending => t.pending = s.pending
  | .now => t.now = s.now
  | .powered => t.powered = s.powered
  | .coilOpen => t.coilOpen = s.coilOpen
  | .cfg => t.cfg = s.cfg
  | .lp => t.lp = s.lp
  | .qt => t.qt = s.qt
  | .ssu => t.ssu = s.ssu
  | .gdu => t.gdu = s.gdu
  | .weu => t.weu = s.weu
  | .dtu => t.dtu = s.dtu
  | .anu => t.anu = s.anu
  | .psc => t.psc = s.psc
  | .cs => t.cs = s.cs

/-- The second state has every part of the first but those listed. -/
def State.sameBut (s t : State) (changed : List Part) : Prop := ∀ p, p ∉ changed → s.agreeOn t p

/-! ### Requests -/

/-- The part is supplied and no reply is in progress, so that a good frame is taken (R174). -/
def State.listens (s : State) : Prop := s.powered = true ∧ s.lp.reply = none

/-- The part takes a good frame and the power state is not SLEEP. -/
def State.awake (s : State) : Prop := s.listens ∧ s.psc.state ≠ .sleep

/-- The part takes a good frame, is not in SLEEP, and no save is in progress (R191). -/
def State.configurable (s : State) : Prop := s.awake ∧ s.saving = false

/-- A status that refuses (R176). -/
def Status.refusal : Status → Bool
  | .ok | .coerced | .superseded | .suppressed => false
  | .busy | .asleep | .driving | .notStopped | .noHold | .noCard | .state => true
  | .range | .conflict | .locked | .unknown | .length => true

/-- The command is answered: it ends in a next state whose reply in progress is the one given and which has the property
given. -/
def Answers (c : Instr) (s : State) (tag kind : Byte) (status : Status) (body : List Byte) (after : State → Prop) : Prop :=
  ∃ t, exec c s = .next t ∧ t.lp.reply = some ⟨tag, kind, status, body⟩ ∧ after t

/-- The command is answered RANGE with an empty body, and nothing changes but the reply and step 1 of R175. -/
def AnswersRange (c : Instr) (s : State) (tag kind : Byte) : Prop :=
  exec c s = .next (beginReply tag kind .range [] (goodFrame s))

/-! ### Reports -/

/-- A change has handed on a report: with the kind's route URGENT or POST, and room in the queue, its record stands behind
those that were there, stamped with the duty clock (R179, R180). -/
def Reported (kind : ReportKind) (cls : WarnClass) (subject detail : Nat) (s t : State) : Prop :=
  ∀ urgent, s.cfg.routes.get (routeIndex kind cls) = (if urgent = true then .urgent else .post) →
    t.lp.queue.length < 32 → ∃ before after, s.lp.queue <+: before ∧ t.lp.queue = before ++
      ⟨kind, BitVec.ofNat 8 subject, BitVec.ofNat 16 detail, BitVec.ofNat 16 t.dtu.clock, urgent⟩ :: after

/-- A change has handed on a report before any other: with the kind's route URGENT or POST, and room in the queue, its
record, stamped with the duty clock, stands right behind those that were there (R179, R180). -/
def ReportedFirst (kind : ReportKind) (subject detail : Nat) (s t : State) : Prop :=
  ∀ urgent, s.cfg.routes.get (routeIndex kind .stop) = (if urgent = true then .urgent else .post) →
    s.lp.queue.length < 32 → s.lp.queue ++
      [⟨kind, BitVec.ofNat 8 subject, BitVec.ofNat 16 detail, BitVec.ofNat 16 s.dtu.clock, urgent⟩] <+: t.lp.queue

/-! ### The gauges at the return to RUN -/

/-- The gauges have been released: each PARKED and PARKING one tracks with its history empty, the park-pending mark of each
HOMING and SWEEPING one is cleared, and no other has changed (R56, R167). -/
def GaugesReleased (s t : State) : Prop :=
  ∀ g, ((s.gauge g).state ∈ [.parked, .parking] → t.gauge g = { s.gauge g with state := .tracking, history := [] }) ∧
    ((s.gauge g).state ∈ [.homing, .sweeping] → t.gauge g = { s.gauge g with parkPending := false }) ∧
    ((s.gauge g).state ∉ [.parked, .parking, .homing, .sweeping] → t.gauge g = s.gauge g)

/-! ### The stop of the scan -/

/-- The scan has stopped, with the entries as they stood before the stop: each VALID scan-sourced entry is STALE with its
QUANTITY STALE, detail SCAN STOPPED 1, the runs of every scan-sourced entry are 0, and no other entry has changed (R9,
R29). -/
def ScanHasStopped (before : Fin 48 → Quantity) (s t : State) : Prop :=
  (∀ q f, s.cfg.sources.get q = .scan f →
    t.entry q = { before q with
      status := if (before q).status = .valid then .stale else (before q).status, outRun := 0, inRun := 0 } ∧
    ((before q).status = .valid → Reported .quantityStale .stop q.val 1 s t)) ∧
  ∀ q, (∀ f, s.cfg.sources.get q ≠ .scan f) → t.entry q = before q

/-! ### The beginning of showing -/

/-- An entry has begun to be shown (R145): it is the shown entry, marked as shown before, with the timers of its class, of
a REMINDER and of the rotation; the record of a warning held for its first showing has left the held ones for the queue
(R142, R181); ANNOUNCEMENT SHOWN is handed on with the message, the level and the mark of a first showing (R160, R196); the
sounder has taken up the pattern, a one-shot at a first showing alone (R154); and the line shows the message (R152). -/
def BeganShowing (e : Entry) (s t : State) : Prop :=
  (∃ sh, t.anu.shown = some sh ∧ sh.entry = { e with shownBefore := true } ∧
    sh.dwellDue = (if s.cfg.line.dwells.get e.cls.index = 0 then none
      else some (t.now + s.cfg.line.dwells.get e.cls.index * 1000)) ∧
    sh.showDue = (if e.kind = .reminder then some (t.now + s.cfg.line.showTime * 1000000) else none) ∧
    sh.rotationDue = (if s.cfg.line.rotation = 0 then none else some (t.now + s.cfg.line.rotation * 1000000))) ∧
  (∀ w, e.source = .warning w → e.shownBefore = false →
    (∀ h ∈ t.lp.held, h.subject ≠ BitVec.ofNat 8 w.val) ∧
    ∀ r, s.lp.held.find? (fun h => decide (h.subject = BitVec.ofNat 8 w.val)) = some r → t.lp.queue.length < 32 →
      ∃ before after, s.lp.queue <+: before ∧ t.lp.queue = before ++ r :: after) ∧
  Reported .announcementShown .stop e.source.number
    (e.message.val + 256 * e.level + (if e.shownBefore = true then 0 else 2048)) s t ∧
  t.anu.sounder = (match e.chime with
    | .none => .silent
    | .single => if e.shownBefore = true then .silent else .oneShot .single (t.now + 200000)
    | .double => if e.shownBefore = true then .silent else .oneShot .double (t.now + 450000)
    | .slowRepeat => .repeating false (t.now + 2000000)
    | .fastRepeat => .repeating true (t.now + 600000)) ∧
  t.anu.content = t.lineContent

/-! ### Resets -/

/-- What a reset loads from the store: the stored image when no save was in progress and its check value matches, the
defaults with STORE INVALID otherwise, with the lock cell laid over either (R190, R191). -/
def State.resetLoads (s : State) (loaded : Settings) (invalid : Bool) : Prop :=
  (∀ c, s.cs.saving = none → s.cs.image = .held c c.check → invalid = false ∧
    loaded = (match s.cs.lock with
      | none => c
      | some k => k.over c)) ∧
  (s.cs.saving ≠ none ∨ s.cs.image = .absent ∨ (∃ c k, s.cs.image = .held c k ∧ k ≠ c.check) →
    invalid = true ∧
    loaded = (match s.cs.lock with
      | none => .builtIn
      | some k => k.over .builtIn))

/-- The Link Port's reset state, but for its report queue (R189). -/
def LinkPort.atReset (p : LinkPort) : Prop :=
  p.receiver = .hunting ∧ p.byteDue = none ∧ p.reply = none ∧ p.overflow = false ∧ p.held = [] ∧ p.lostSince = none ∧
  p.silenceDue = none

/-- The scan's reset state under a scan list (R22, R23, R27). -/
def Scan.atReset (list : List ScanEntry) (u : Scan) : Prop :=
  u.mode = .stopped ∧ u.flight = none ∧ u.remaining = [] ∧ u.intervalDue = none ∧ u.roundRobin = firstSlow list ∧
  u.filters = list.map fun _ => []

/-- A gauge's reset state with its configured profile (R41). -/
def Gauge.atReset (profile : Profile) (r : Gauge) : Prop :=
  r.state = .unhomed ∧ r.faultDetail = none ∧ r.position = none ∧ r.move = none ∧ r.following = none ∧
  r.profile = profile ∧ r.staged = none ∧ r.parkPending = false ∧ r.history = [] ∧ r.homing = none ∧ r.updateDue = none

/-- The reset state of the evaluation, the warnings and the lamps under the settings in force (R77, R79, R85, R99). -/
def Evaluation.atReset (c : Settings) (u : Evaluation) : Prop :=
  u.inForce = c.shapes ∧ (∀ w, (u.strengths.get w).evaluated = false) ∧ u.passCount = 0 ∧ u.evalDue = none ∧
  u.pass = none ∧ u.flash = none ∧ u.lampDue = none ∧ u.driveLevel = 100 ∧
  (∀ w, u.warnings.get w = ⟨if (c.warnings.get w).enabled then .off else .disabled, false, none, none, .none⟩) ∧
  ∀ l, u.lamps.get l = ⟨.off, .dark, false, 0⟩

/-- The reset state of the message line and the sounder: a transfer of sixteen spaces is in flight (R153, R158). -/
def Annunciation.atReset (now : Nat) (u : Annunciation) : Prop :=
  u.queue = [] ∧ u.shown = none ∧ u.arrivals = 0 ∧ u.hostHold = false ∧ u.proofHold = false ∧ u.refreshDue = none ∧
  u.content = blankLine ∧ u.lastSent = blankLine ∧ u.transfer = some ⟨blankLine, now + 2000⟩ ∧ u.owed = false ∧
  u.sounder = .silent

/-- The blocks stand in their reset states under the settings in force, but for the report queue, the duty records and
the quantities. -/
def State.blocksAtReset (s : State) : Prop :=
  s.lp.atReset ∧ s.ssu.atReset s.cfg.scan.list ∧ (∀ g, (s.gauge g).atReset (s.cfg.gauges.get g).profile) ∧
  s.weu.atReset s.cfg ∧ s.anu.atReset s.now

/-- The TAG, KIND and BODY of the frame whose last byte a request command stands for (R195); none for an event. -/
def frame : Instr → Option (Byte × Byte × List Byte)
  | .powerOn _ => none
  | .replySent _ => none
  | .badLengthByte _ => none
  | .frameCheckMismatch _ => none
  | .frameByteTimeout => none
  | .linkOverrun _ _ => none
  | .unknownRequest _ _ => none
  | .fetchReports tag body => some (tag, 0x01#8, body)
  | .status tag body => some (tag, 0x02#8, body)
  | .identify tag body => some (tag, 0x03#8, body)
  | .setRoute tag body => some (tag, 0x04#8, body)
  | .configureLink tag body => some (tag, 0x05#8, body)
  | .reset tag body => some (tag, 0x06#8, body)
  | .sleep tag body => some (tag, 0x08#8, body)
  | .wake tag body => some (tag, 0x09#8, body)
  | .configurePower tag body => some (tag, 0x0A#8, body)
  | .saveConfiguration tag body => some (tag, 0x0C#8, body)
  | .saveEnd _ => none
  | .lockCalibration tag body => some (tag, 0x0D#8, body)
  | .readConfiguration tag body => some (tag, 0x0E#8, body)
  | .configureQuantity tag body => some (tag, 0x10#8, body)
  | .setQuantities tag body => some (tag, 0x11#8, body)
  | .readQuantities tag body => some (tag, 0x12#8, body)
  | .refreshExpiry _ => none
  | .switchSample _ => none
  | .configureScan tag body => some (tag, 0x18#8, body)
  | .scanStart tag body => some (tag, 0x19#8, body)
  | .scanStop tag body => some (tag, 0x1A#8, body)
  | .scanOnce tag body => some (tag, 0x1B#8, body)
  | .readScan tag body => some (tag, 0x1C#8, body)
  | .scanIntervalExpiry => none
  | .conversionCompletion _ => none
  | .configureGauge tag body => some (tag, 0x20#8, body)
  | .homeGauge tag body => some (tag, 0x21#8, body)
  | .parkGauge tag body => some (tag, 0x22#8, body)
  | .releaseGauge tag body => some (tag, 0x23#8, body)
  | .positionGauge tag body => some (tag, 0x24#8, body)
  | .readGauge tag body => some (tag, 0x25#8, body)
  | .gaugeStep _ => none
  | .homingStep _ _ => none
  | .gaugeUpdate _ => none
  | .coilOpen _ _ => none
  | .configureShape tag body => some (tag, 0x28#8, body)
  | .configureCriterion tag body => some (tag, 0x29#8, body)
  | .configureEvaluation tag body => some (tag, 0x2A#8, body)
  | .readStrength tag body => some (tag, 0x2B#8, body)
  | .passStart => none
  | .criterionEvaluation => none
  | .raiseDelayExpiry _ => none
  | .reminderExpiry _ => none
  | .acknowledgeWarning tag body => some (tag, 0x31#8, body)
  | .clearWarning tag body => some (tag, 0x32#8, body)
  | .suppressWarning tag body => some (tag, 0x33#8, body)
  | .restoreWarning tag body => some (tag, 0x34#8, body)
  | .configureWarning tag body => some (tag, 0x30#8, body)
  | .readWarning tag body => some (tag, 0x35#8, body)
  | .configureLamp tag body => some (tag, 0x36#8, body)
  | .configureDimmer tag body => some (tag, 0x37#8, body)
  | .setLamps tag body => some (tag, 0x38#8, body)
  | .readLamps tag body => some (tag, 0x39#8, body)
  | .flashHalfChange => none
  | .lampSample _ => none
  | .configureDuty tag body => some (tag, 0x40#8, body)
  | .stageLimits tag body => some (tag, 0x41#8, body)
  | .dutyActivity tag body => some (tag, 0x42#8, body)
  | .cardIn tag body => some (tag, 0x43#8, body)
  | .cardOut tag body => some (tag, 0x44#8, body)
  | .readDuty tag body => some (tag, 0x45#8, body)
  | .minuteExpiry _ => none
  | .configureMessage tag body => some (tag, 0x48#8, body)
  | .configureLine tag body => some (tag, 0x49#8, body)
  | .configureDutyMessages tag body => some (tag, 0x4A#8, body)
  | .setPriorityMap tag body => some (tag, 0x4B#8, body)
  | .hold tag body => some (tag, 0x4C#8, body)
  | .release tag body => some (tag, 0x4D#8, body)
  | .acknowledgeShown tag body => some (tag, 0x4E#8, body)
  | .announce tag body => some (tag, 0x4F#8, body)
  | .withdraw tag body => some (tag, 0x50#8, body)
  | .setRestingPage tag body => some (tag, 0x51#8, body)
  | .chimeClick tag body => some (tag, 0x52#8, body)
  | .readLine tag body => some (tag, 0x53#8, body)
  | .dwellExpiry => none
  | .showTimeExpiry => none
  | .rotationExpiry => none
  | .lineRefresh => none
  | .transferCompletion => none
  | .oneShotEnd => none
  | .clickEnd => none
  | .repeatPeriod => none
  | .keySample _ => none
  | .proofTimerExpiry => none
  | .proofDone => none
  | .entryToSleep => none
  | .silenceExpiry => none
  | .byteArrival _ => none
  | .lossOfSupply => none

/-! ### Properties that every step keeps -/

/-- The report queue holds 0-32 records (R179) and the held list at most one record for each warning (R181). -/
def State.reportsKept (s : State) : Prop :=
  s.lp.queue.length ≤ 32 ∧ (s.lp.held.map Report.subject).Nodup ∧
    ∀ r ∈ s.lp.held, r.kind = .warningRaised ∧ r.subject.toNat < 48

/-- The announcement queue holds at most 16 entries, no two held entries have the same source, and the shown entry does
not wait (R138). -/
def State.announcementsKept (s : State) : Prop :=
  s.anu.queue.length ≤ 16 ∧ (s.anu.entries.map Entry.source).Nodup

/-- A slot whose driving counters stand in the order of R121, and in whose closed day nothing has been driven. -/
def Slot.ordered (x : Slot) : Prop :=
  x.continuous ≤ x.daily ∧ x.daily ≤ x.weekly ∧ (x.dayClosed = true → x.daily = 0)

/-- Every active limit set of a configuration is valid (R111). -/
def Settings.limitsValid (c : Settings) : Prop := ∀ i, (c.duty.limits.get i).valid = true

/-- Every configuration that the part holds has a property: the active one, the stored image and the image being
written. -/
def State.everySettings (s : State) (p : Settings → Prop) : Prop :=
  p s.cfg ∧ (∀ c check, s.cs.image = .held c check → p c) ∧ ∀ c, s.cs.saving = some c → p c

/-- The order of the driving counters in both slots (R121), with every limit set held valid (R111). -/
def State.dutyKept (s : State) : Prop :=
  (∀ i, (s.slot i).ordered) ∧ s.everySettings Settings.limitsValid ∧
    ∀ i l, (s.slot i).staged = some l → l.valid = true

/-- Q44-Q47 have the source DUTY, and no other quantity has it (R2). -/
def Settings.sourcesFixed (c : Settings) : Prop := ∀ q : Fin 48, c.sources.get q = .duty ↔ 44 ≤ q.val

/-- The statuses that a source can give its entry (R2). -/
def QSource.allows : QSource → QStatus → Int → Prop
  | .none, status, value => status = .absent ∧ value = 0
  | .switch _ _, status, _ | .duty, status, _ => status = .absent ∨ status = .valid
  | .scan _, _, _ | .link _, _, _ => True

/-- The sources and statuses of the Quantity Table (R2), with what the refresh timers, loads and saves need to keep them. -/
def State.quantitiesKept (s : State) : Prop :=
  (∀ q, (s.cfg.sources.get q).allows (s.entry q).status (s.entry q).value) ∧
    (∀ q, (s.entry q).refreshDue ≠ none → ∃ limit, s.cfg.sources.get q = .link limit) ∧
    s.everySettings Settings.sourcesFixed ∧ ∀ k, s.cs.lock = some k → ∀ x ∈ k.quantities, x.1.val < 44

/-- No change of power state is due: the proof waits for its timer or for a gauge, and a parking for a gauge (R61, R164,
R166). -/
def State.settled (s : State) : Prop :=
  (s.psc.state = .proving → s.psc.proof = .expired → s.gaugesReady = false) ∧
  (s.psc.state = .parking → s.gaugesParked = false)

/-- The proof timer and the proof hold belong to PROVING (R163, R164), the periodic timers of evaluation, flash clock,
lamp sample and line refresh run exactly outside SLEEP (R74, R100, R101, R152), no more values are held as read than the
criterion under evaluation has terms (R76), and no change of power state is due. -/
def State.timersKept (s : State) : Prop :=
  (s.psc.proof ≠ .stopped ↔ s.psc.state = .proving) ∧ (s.anu.proofHold = true ↔ s.psc.state = .proving) ∧
  (s.weu.evalDue.isSome = true ↔ s.psc.state ≠ .sleep) ∧ (s.weu.flash.isSome = true ↔ s.psc.state ≠ .sleep) ∧
  (s.weu.lampDue.isSome = true ↔ s.psc.state ≠ .sleep) ∧ (s.anu.refreshDue.isSome = true ↔ s.psc.state ≠ .sleep) ∧
  (∀ p, s.weu.pass = some p → p.replaced = false →
    p.read.length ≤ (s.cfg.criteria.get p.criterion).flatten.length) ∧
  s.settled

/-- Every lamp has the drive that its mode, the warnings that name it, its host level and the power state give it (R100,
R101). -/
def State.lampsKept (s : State) : Prop := ∀ l, (s.lamp l).drive = s.driveOf l

/-- One step keeps a property. -/
def StepKeeps (p : State → Prop) : Prop := ∀ s t, p s → step s = .next t → p t

end Sys2Proof.Machine
end

