-- ==== Sys2Proof/Certificates/Slice0/Obligations.lean ====
section
/-! DEFINITION. The statements for the provers. -/

open Sys2Proof Sys2Proof.Machine

/-! ### The queue of commands, supply and reset -/

/-- O1 (tier 1). A step takes the command at the front and carries it out on the state with the queue's rest. -/
def Obligations.StepCarriesOutTheFrontCommand : Prop :=
  ∀ (c : Instr) (rest : List Instr) (s : State), s.pending = c :: rest → step s = exec c (s.setPending rest)

/-- O2 (tier 2). Every command ends in a next state and leaves the commands that wait as they are. On an empty queue a
step lets one microsecond pass, in which some of the terms that come next in the criterion under evaluation are read, and
changes nothing else: that the block idles so, and how many terms are read, are the model's choices (log entries 1 and
14; R75, R76). -/
def Obligations.EveryCommandEndsAndTimePasses : Prop :=
  (∀ (c : Instr) (s : State), ∃ t, exec c s = .next t ∧ t.pending = s.pending) ∧
  ∀ s : State, s.pending = [] → ∃ t, step s = .next t ∧ t.now = s.now + 1 ∧ s.sameBut t [.now, .weu] ∧
    (s.weu.pass = none → t.weu = s.weu) ∧
    ∀ p, s.weu.pass = some p → ∃ n, t.weu = { s.weu with pass := some { p with
      read := p.read ++
        (((s.cfg.criteria.get p.criterion).flatten.drop p.read.length).take n).map s.termValue } }

/-- O3 (tier 1). The state after the first supply with the key off and no stored image: SLEEP chosen, the defaults in
force with STORE INVALID, every block in its reset state, and the POWER STATE record alone in the queue (R161, R190,
R172, R189, R22, R41, R99, R20, R85, R133, R158). The key level, the absent image and the clear lock are the model's
choice (log entry 6). -/
def Obligations.ResetStateIsThatOfTheBlocks : Prop :=
  State.reset.psc.state = .sleep ∧ State.reset.psc.proof = .stopped ∧ State.reset.cfg = .builtIn ∧
  State.reset.cs.invalid = true ∧ State.reset.saving = false ∧
  State.reset.lp.queue = [⟨.powerState, 0, 0x00FF, 0, true⟩] ∧ State.reset.lp.attention = true ∧
  State.reset.lp.held = [] ∧ State.reset.lp.receiver = .hunting ∧ State.reset.lp.reply = none ∧
  State.reset.ssu.mode = .stopped ∧ (∀ g, (State.reset.gauge g).state = .unhomed) ∧
  (∀ l, (State.reset.lamp l).drive = .dark) ∧ (∀ q, State.reset.entry q = .fresh 0) ∧
  (∀ w, (State.reset.warning w).state = .disabled) ∧ (∀ i, State.reset.slot i = .empty none) ∧
  State.reset.dtu.clock = 0 ∧ State.reset.anu.queue = [] ∧ State.reset.anu.shown = none ∧
  State.reset.anu.content = blankLine ∧ State.reset.pending = []

/-- O4 (tier 2). POWER_ON from any state: the settings of the stored image when its check value matches, the defaults
otherwise, with the lock cell laid over them; every block in its reset state, both slots EMPTY and every quantity ABSENT
(R20, R22, R41, R85, R99, R133, R158, R189); then the entry to PROVING when the key line is on, and SLEEP with its POWER
STATE record otherwise; the key level adopted at once (R161, R172, R190). A save in progress at the loss of supply leaves
an image whose check value does not match, and a loss of supply keeps the store alone (R191, R194). Without supply no
command but POWER_ON has an effect, and the wrong check value is a free value: the model's choices (log entries 21 and
40). -/
def Obligations.SupplyComesAndGoes : Prop :=
  (∀ (keyOn : Bool) (s : State), ∃ t, exec (.powerOn keyOn) s = .next t ∧ t.powered = true ∧ t.psc.key = keyOn ∧
    t.psc.state = (if keyOn then .proving else .sleep) ∧ t.cs.lock = s.cs.lock ∧ t.saving = false ∧
    t.dtu.clock = 0 ∧ (∀ i, (t.slot i).card = none) ∧ t.lp.lostSince = none ∧ t.lp.held = [] ∧ t.lp.reply = none ∧
    (∀ q, (t.entry q).status = .absent ∧ (t.entry q).value = 0 ∧ (t.entry q).refreshDue = none) ∧
    (∃ u, u.blocksAtReset ∧ u.lp.queue = [] ∧ u.cfg = t.cfg ∧ (∀ i, u.slot i = Slot.empty none) ∧
      t = (if keyOn = true then enterProving 255 .powerOn u else handPowerState 255 .powerOn u)) ∧
    (keyOn = false → t.blocksAtReset ∧ (∀ i, t.slot i = Slot.empty none) ∧
      ∀ urgent, t.cfg.routes.get 20 = (if urgent = true then .urgent else .post) →
        t.lp.queue = [⟨.powerState, 0, 0x00FF, 0, urgent⟩]) ∧
    s.resetLoads t.cfg t.cs.invalid) ∧
  (∀ s : State, s.powered = true → ∃ t, exec .lossOfSupply s = .next t ∧ t.powered = false ∧ t.cs.lock = s.cs.lock ∧
    t.saving = false ∧ (s.cs.saving = none → t.cs.image = s.cs.image) ∧
    ∀ x, s.cs.saving = some x → ∃ k, t.cs.image = .held x k ∧ k ≠ x.check) ∧
  ∀ (c : Instr) (s : State), s.powered = false → (∀ keyOn, c ≠ .powerOn keyOn) → exec c s = .next s

/-! ### The Link Port (chapter 9) -/

/-- O5 (tier 2). What a report handed to the Link Port becomes by its route (R179, R180, R181); and the notice that a
warning's entry is shown for the first time, or has ended unshown, posts its held record, and changes nothing where none
is held (R181). -/
def Obligations.ReportsFollowTheirRoutes : Prop :=
  (∀ (cls : WarnClass) (offered : Bool) (kind : ReportKind) (subject detail : Nat) (s t : State) (r : Report) (route : Route),
    t = handWith cls offered kind subject detail s →
    r = ⟨kind, BitVec.ofNat 8 subject, BitVec.ofNat 16 detail, BitVec.ofNat 16 s.dtu.clock, decide (route = .urgent)⟩ →
    route = s.cfg.routes.get (routeIndex kind cls) →
    s.sameBut t [.lp] ∧ (route = .off → t = s) ∧
    (route = .afterShown → offered = true →
      t.lp = { s.lp with held := s.lp.held.filter (fun h => decide (h.subject ≠ r.subject)) ++ [r] }) ∧
    (route = .post ∨ route = .urgent ∨ (route = .afterShown ∧ offered = false) →
      t.lp.attention = t.wantsAttention ∧ t.lp.held = s.lp.held ∧
      (s.lp.queue.length < 32 → t.lp.queue = s.lp.queue ++ [r] ∧ t.lp.overflow = s.lp.overflow) ∧
      (32 ≤ s.lp.queue.length → t.lp.queue = s.lp.queue ∧ t.lp.overflow = true))) ∧
  ∀ (w : Fin 48) (s : State),
    ((∀ r ∈ s.lp.held, r.subject ≠ BitVec.ofNat 8 w.val) → releaseHeld w s = s) ∧
    ∀ r, s.lp.held.find? (fun h => decide (h.subject = BitVec.ofNat 8 w.val)) = some r →
      (∀ h ∈ (releaseHeld w s).lp.held, h.subject ≠ BitVec.ofNat 8 w.val) ∧
      (s.lp.queue.length < 32 → (releaseHeld w s).lp.queue = s.lp.queue ++ [r])

/-- O6 (tier 2). A good frame ends LINK LOST with LINK RESTORED, restarts the silence timer where it may run, and
changes nothing outside the Link Port (step 1 of R175, R177, R178). -/
def Obligations.GoodFrameEndsLinkLost : Prop :=
  ∀ s : State,
    s.sameBut (goodFrame s) [.lp] ∧ (goodFrame s).lp.receiver = .hunting ∧ (goodFrame s).lp.byteDue = none ∧
    (goodFrame s).lp.lostSince = none ∧ (goodFrame s).lp.reply = s.lp.reply ∧ (goodFrame s).lp.held = s.lp.held ∧
    (goodFrame s).lp.silenceDue =
      (if s.cfg.link.silence ≠ 0 ∧ s.psc.state ≠ .sleep then some (s.now + s.cfg.link.silence * 1000)
      else s.lp.silenceDue) ∧
    (s.lp.lostSince = none → (goodFrame s).lp.queue = s.lp.queue) ∧
    ∀ since, s.lp.lostSince = some since →
      (goodFrame s).lp.queue = (hand .linkRestored 0 (min 65535 ((s.now - since) / 1000000)) s).lp.queue

/-- O7 (tier 1). Every request command is the good frame with its kind code (R195), the last byte of which it stands for
(log entry 4). -/
def Obligations.RequestCommandIsItsFrame : Prop :=
  ∀ (c : Instr) (tag kind : Byte) (body : List Byte) (s : State),
    frame c = some (tag, kind, body) → s.powered = true → exec c s = .next (takeFrame tag kind body s)

/-- O8 (tier 2). The bytes of a request frame, with its SYNC, LENGTH and CHECK (R194), received one after another by a
receiver that hunts, are that frame taken (R173). -/
def Obligations.FrameReceivedByteByByteIsTaken : Prop :=
  ∀ (tag kind : Byte) (body : List Byte) (s : State), body.length ≤ 240 → s.lp.receiver = .hunting →
    (requestFrame tag kind body).foldl (fun t b => receiveByte b t) s = takeFrame tag kind body s

/-- O9 (tier 2). BYTE_ARRIVAL in each phase of the receiver: HUNTING waits for SYNC, LENGTH keeps a value from 2 to 242
and discards the frame otherwise, FRAME gathers until the frame and its CHECK are complete and compares them (R173). -/
def Obligations.ByteArrivalByPhase : Prop :=
  ∀ (b : Byte) (s : State), s.powered = true → ∃ t, exec (.byteArrival b) s = .next t ∧
    (s.lp.receiver = .hunting → b = 0xC5#8 →
      t = s.setLp { s.lp with receiver := .length, byteDue := some (s.now + 10000) }) ∧
    (s.lp.receiver = .hunting → b ≠ 0xC5#8 → t = s) ∧
    (s.lp.receiver = .length → 2 ≤ b.toNat → b.toNat ≤ 242 →
      t = s.setLp { s.lp with receiver := .frame b [], byteDue := some (s.now + 10000) }) ∧
    (s.lp.receiver = .length → (b.toNat < 2 ∨ 242 < b.toNat) →
      t = hand .linkFrameError 0 0 (s.setLp { s.lp with receiver := .hunting, byteDue := none })) ∧
    ∀ len gathered, s.lp.receiver = .frame len gathered →
      (gathered.length + 1 < len.toNat + 2 →
        t = s.setLp { s.lp with receiver := .frame len (gathered ++ [b]), byteDue := some (s.now + 10000) }) ∧
      ∀ tag kind body hi lo, gathered ++ [b] = tag :: kind :: body ++ [hi, lo] → len.toNat = body.length + 2 →
        (checkValue (len :: tag :: kind :: body) = hi ++ lo → t = takeFrame tag kind body s) ∧
        (checkValue (len :: tag :: kind :: body) ≠ hi ++ lo →
          t = hand .linkFrameError tag.toNat 1 (s.setLp { s.lp with receiver := .hunting, byteDue := none }))

/-- O10 (tier 2). The three ways a frame is discarded, each with its LINK FRAME ERROR and a receiver that hunts again
(R173), the three commands in any phase and the time of a late timeout being the model's choices (log entries 4 and 2);
and a good frame that arrives while a
reply is in progress is discarded as an overrun, with LINK OVERRUN and the reply kept (R174). -/
def Obligations.DiscardedFramesAreReported : Prop :=
  (∀ s : State, s.powered = true →
    (∀ value : Byte, value.toNat < 2 ∨ 242 < value.toNat → exec (.badLengthByte value) s =
      .next (hand .linkFrameError 0 0 (s.setLp { s.lp with receiver := .hunting, byteDue := none }))) ∧
    (∀ tag : Byte, exec (.frameCheckMismatch tag) s =
      .next (hand .linkFrameError tag.toNat 1 (s.setLp { s.lp with receiver := .hunting, byteDue := none }))) ∧
    ∀ due, s.lp.byteDue = some due → exec .frameByteTimeout s =
      .next (hand .linkFrameError 0 0
        ((s.setNow (max s.now due)).setLp { s.lp with receiver := .hunting, byteDue := none }))) ∧
  ∀ (tag kind : Byte) (body : List Byte) (s : State) (r : Reply), s.powered = true → s.lp.reply = some r →
    exec (.linkOverrun tag kind) s = .next (hand .linkOverrun tag.toNat kind.toNat (goodFrame s)) ∧
    takeFrame tag kind body s = hand .linkOverrun tag.toNat kind.toNat (goodFrame s) ∧
    (takeFrame tag kind body s).lp.reply = some r ∧ s.sameBut (takeFrame tag kind body s) [.lp]

/-- O11 (tier 2). Steps 2 to 4 of R175: an unknown kind, a body of a length not allowed, and in SLEEP a request that is
not among the nine of R170 are answered with an empty body, and nothing changes but the reply and step 1. A request
answered with a refusal changes nothing (R176, R198). While a save is in progress the requests that R191 lists are
refused with BUSY. -/
def Obligations.RequestsAreJudgedInOrder : Prop :=
  ((∀ (tag : Byte) (s : State), s.listens →
    (∀ kind : Byte, kind ∉ requestKinds →
      exec (.unknownRequest tag kind) s = .next (beginReply tag kind .unknown [] (goodFrame s)) ∧
      ∀ body, takeFrame tag kind body s = beginReply tag kind .unknown [] (goodFrame s)) ∧
    ∀ r ∈ requests, ∀ body,
      (r.fits body = false → takeFrame tag r.kind body s = beginReply tag r.kind .length [] (goodFrame s)) ∧
      (r.fits body = true → s.psc.state = .sleep →
        r.kind ∉ [0x01#8, 0x02#8, 0x03#8, 0x06#8, 0x09#8, 0x42#8, 0x43#8, 0x44#8, 0x45#8] →
        takeFrame tag r.kind body s = beginReply tag r.kind .asleep [] (goodFrame s))) ∧
  ∀ r ∈ requests, ∀ (body : List Byte) (s : State), (r.judge body s).status.refusal = true →
    (r.judge body s).state = s ∧ (r.judge body s).body = []) ∧
  ∀ (tag : Byte) (s : State), s.awake → s.saving = true → ∀ r ∈ requests,
    r.kind ∈ [0x04#8, 0x05#8, 0x0A#8, 0x0C#8, 0x0D#8, 0x10#8, 0x18#8, 0x20#8, 0x28#8, 0x29#8, 0x2A#8, 0x30#8, 0x36#8,
      0x37#8, 0x40#8, 0x48#8, 0x49#8, 0x4A#8, 0x4B#8, 0x51#8] →
    ∀ body, r.fits body = true → takeFrame tag r.kind body s = beginReply tag r.kind .busy [] (goodFrame s)

/-- O12 (tier 2). SILENCE_EXPIRY: LINK LOST begins with its report, whose detail is the silence timeout in units of 10 ms,
the timer stops, every host level is off, every HOST lamp is dark, and no entry of the host waits or is shown (R177). The time of a late expiry, at which LINK LOST begins, and a proved
lamp that stays lit in PROVING are the model's choices (log entries 2 and 37). -/
def Obligations.SilenceBeginsLinkLost : Prop :=
  ∀ (s : State) (due : Nat), s.powered = true → s.lp.silenceDue = some due → s.announcementsKept →
    ∃ t, exec .silenceExpiry s = .next t ∧ t.now = max s.now due ∧ t.lp.lostSince = some (max s.now due) ∧
      t.lp.silenceDue = none ∧ (∀ l, (t.lamp l).hostLevel = .off) ∧
      (∀ l, (s.cfg.lamps.get l).mode = .host → s.psc.state ≠ .proving → (t.lamp l).drive = .dark) ∧
      (∀ e ∈ t.anu.entries, ∀ h, e.source ≠ .host h) ∧ s.sameBut t [.now, .lp, .weu, .dtu, .anu] ∧
      Reported .linkLost .stop 0 (s.cfg.link.silence / 10) s t

/-- O13 (tier 2). REPLY_SENT ends the reply in progress, and after a RESET answered OK it makes the LINK RESET: the stored
image is loaded when its check value matches, and the defaults otherwise with STORE INVALID, with the lock cell laid over
them and the active limit sets kept (R190, R20, R21, R112, R158); the duty clock, the slot records but for the announcement
marks, and the mismatch count and DUTY MISMATCH are kept, the derived quantities of each PRESENT slot are written and VALID
as the reset completes (R131), the save in progress is abandoned, and the state is chosen by the key line and the DRIVING
question (R174, R188, R133, R161, R191). Every other block takes its reset state (R20, R22, R41, R85, R99, R158, R189), and then PROVING is
entered, or SLEEP with its POWER STATE record (R172). That the clock stays while the reply is sent, and that the minute
timer is kept, are the model's choices (log entries 25 and 33), and the wrong check value of an abandoned image is a free
value (log entry 40). -/
def Obligations.ReplySentMakesTheLinkReset : Prop :=
  ∀ (keyOn : Bool) (s : State) (r : Reply), s.powered = true → s.lp.reply = some r →
    ((r.kind ≠ 0x06#8 ∨ r.status ≠ .ok) → exec (.replySent keyOn) s = .next (s.setLp { s.lp with reply := none })) ∧
    (r.kind = 0x06#8 → r.status = .ok → ∃ t, exec (.replySent keyOn) s = .next t ∧ t.lp.reply = none ∧
      t.lp.held = [] ∧ t.lp.lostSince = none ∧ t.dtu.clock = s.dtu.clock ∧ t.dtu.minuteDue = s.dtu.minuteDue ∧
      t.now = s.now ∧ (∀ i, t.slot i = { s.slot i with tracks := (t.slot i).tracks }) ∧
      (∀ i k, (t.track i k).stage = (s.track i k).stage ∧ (t.track i k).acknowledged = (s.track i k).acknowledged) ∧
      t.dtu.mismatchCount = s.dtu.mismatchCount ∧ t.dtu.mismatch = s.dtu.mismatch ∧
      (∃ loaded, s.resetLoads loaded t.cs.invalid ∧
        t.cfg = { loaded with duty := { loaded.duty with limits := s.cfg.duty.limits } }) ∧
      t.cs.lock = s.cs.lock ∧ t.saving = false ∧
      (∀ x, s.cs.saving = some x → t.cs.invalid = true ∧ ∃ k, t.cs.image = .held x k ∧ k ≠ x.check) ∧
      t.psc.key = keyOn ∧ t.psc.state = (if keyOn = true ∨ s.anyDriving = true then .proving else .sleep) ∧
      (∀ q : Fin 48, (∀ i : Fin 2, q.val = 44 + 2 * i.val ∨ q.val = 45 + 2 * i.val → (s.slot i).card = none) →
        (t.entry q).status = .absent ∧ (t.entry q).value = 0 ∧ (t.entry q).refreshDue = none) ∧
      (∀ i, (s.slot i).card.isSome = true → ∀ q : Fin 48,
        (q.val = 44 + 2 * i.val → (t.entry q).status = .valid ∧ (t.entry q).restarted = s.now ∧
          (t.entry q).value = max (-32768) (((s.limits i).continuous : Int) - ((s.slot i).continuous : Int))) ∧
        (q.val = 45 + 2 * i.val → (t.entry q).status = .valid ∧ (t.entry q).restarted = s.now ∧
          (t.entry q).value = max (-32768) (((s.limits i).daily : Int) - ((s.slot i).daily : Int)))) ∧
      (∃ u, u.blocksAtReset ∧ u.lp.queue = [] ∧ u.cfg = t.cfg ∧
        (∀ i k, u.track i k = { s.track i k with offered := false }) ∧
        t = (if keyOn = true ∨ s.anyDriving = true then enterProving 255 .linkReset u
          else handPowerState 255 .linkReset u)) ∧
      (keyOn = false → s.anyDriving = false → t.blocksAtReset ∧
        (∀ i k, t.track i k = { s.track i k with offered := false }) ∧
        ∀ urgent, t.cfg.routes.get 20 = (if urgent = true then .urgent else .post) →
          t.lp.queue = [⟨.powerState, 0, 0x01FF, BitVec.ofNat 16 s.dtu.clock, urgent⟩]))

/-- O14 (tier 2). FETCH REPORTS returns the oldest records with the number left and the overflow mark, removes them,
clears the mark and judges the attention line, with RANGE outside 1-32 (R183); STATUS and IDENTIFY answer with the
fields of R184 and R185 and change nothing; RESET answers OK and changes nothing until its reply has been sent (R188).
-/
def Obligations.LinkRequestsAnswer : Prop :=
  (∀ (tag n : Byte) (s : State), s.listens →
    (1 ≤ n.toNat → n.toNat ≤ 32 → ∃ t, exec (.fetchReports tag [n]) s = .next t ∧
      t.lp.queue = (goodFrame s).lp.queue.drop n.toNat ∧ t.lp.overflow = false ∧ t.lp.attention = t.wantsAttention ∧
      s.sameBut t [.lp] ∧ t.lp.held = s.lp.held ∧
      t.lp.reply = some ⟨tag, 0x01#8, .ok, sentBody
        (be8 ((goodFrame s).lp.queue.length - n.toNat) ++ flagByte (goodFrame s).lp.overflow ++
          ((goodFrame s).lp.queue.take n.toNat).flatMap Report.bytes)⟩) ∧
    (n.toNat = 0 ∨ 32 < n.toNat → exec (.fetchReports tag [n]) s = .next (beginReply tag 0x01#8 .range [] (goodFrame s)))) ∧
  ∀ (tag : Byte) (s : State), s.listens →
    exec (.status tag []) s = .next (beginReply tag 0x02#8 .ok
      (enumByte PowerState.list s.psc.state ++ flagByte s.psc.key ++ be16 (bitsOf (goodFrame s).conditions) ++
        be8 (goodFrame s).lp.queue.length ++ be8 ((goodFrame s).lp.queue.filter Report.urgent).length ++
        be8 s.lp.held.length ++ flagByte (goodFrame s).lp.attention) (goodFrame s)) ∧
    exec (.identify tag []) s = .next (beginReply tag 0x03#8 .ok
      ([0x0A#8, 0x3C#8, 0x00#8, 0x46#8, Config.siliconRevision] ++ flagByte s.cs.lock.isSome ++
        be8 ((if s.cs.invalid then 1 else 0) + (if s.saving then 2 else 0))) (goodFrame s)) ∧
    exec (.reset tag []) s = .next (beginReply tag 0x06#8 .ok [] (goodFrame s))

/-- O15 (tier 2). The requests that only replace a setting answer OK and change that setting alone: SET ROUTE, CONFIGURE
POWER, CONFIGURE SHAPE, CONFIGURE DIMMER and CONFIGURE DUTY MESSAGES (R186, R171, R79, R106, R137). CONFIGURE LINK also
starts the silence timer afresh or stops it, and judges the attention line against the new threshold (R187). Each is
answered RANGE, with nothing changed, when a field lies outside the values that its rule allows. That the silence timeout
counts steps of 10 ms from 0 is the model's choice (log entry 29). -/
def Obligations.SettingsAreReplaced : Prop :=
  (∀ (tag : Byte) (body : List Byte) (s : State), s.configurable →
    (∀ i r, body.length = 3 → readRouteChange body = some (i, r) →
      exec (.setRoute tag body) s = .next (beginReply tag 0x04#8 .ok []
        ((goodFrame s).setCfg { s.cfg with routes := s.cfg.routes.set i r }))) ∧
    (∀ c, body.length = 2 → readPowerSettings body = some c →
      exec (.configurePower tag body) s = .next (beginReply tag 0x0A#8 .ok []
        ((goodFrame s).setCfg { s.cfg with power := c }))) ∧
    (∀ f c, body.length = 12 → readShape body = some (f, c) →
      exec (.configureShape tag body) s = .next (beginReply tag 0x28#8 .ok []
        ((goodFrame s).setCfg { s.cfg with shapes := s.cfg.shapes.set f c }))) ∧
    (∀ b q, body = [b] → readOptIndex 48 b.toNat = some q →
      exec (.configureDimmer tag body) s = .next (beginReply tag 0x37#8 .ok []
        ((goodFrame s).setCfg { s.cfg with dimmer := q }))) ∧
    (∀ c, body.length = 32 → readDutyMessages body = some c →
      exec (.configureDutyMessages tag body) s = .next (beginReply tag 0x4A#8 .ok []
        ((goodFrame s).setCfg { s.cfg with dutyMessages := c }))) ∧
    (∀ k c r : Byte, body = [k, c, r] →
      k.toNat = 0 ∨ 25 < k.toNat ∨ 4 ≤ r.toNat ∨ (k.toNat = 7 ∧ 3 ≤ c.toNat) ∨ (k.toNat ≠ 7 ∧ r.toNat = 3) →
      AnswersRange (.setRoute tag body) s tag 0x04#8) ∧
    (∀ p m : Byte, body = [p, m] → p.toNat = 0 ∨ 5 < p.toNat ∨ (64 ≤ m.toNat ∧ m.toNat ≤ 254) →
      AnswersRange (.configurePower tag body) s tag 0x0A#8) ∧
    (body.length = 12 → 32 ≤ byteAt body 0 ∨ (48 ≤ byteAt body 1 ∧ byteAt body 1 ≤ 254) ∨ 4 ≤ byteAt body 10 ∨
        intAt body 4 < intAt body 2 ∨ intAt body 6 < intAt body 4 ∨ intAt body 8 < intAt body 6 →
      AnswersRange (.configureShape tag body) s tag 0x28#8) ∧
    (∀ b : Byte, body = [b] → 48 ≤ b.toNat → b.toNat ≤ 254 → AnswersRange (.configureDimmer tag body) s tag 0x37#8) ∧
    (body.length = 32 → (∃ i, i < 16 ∧ ((64 ≤ byteAt body (2 * i) ∧ byteAt body (2 * i) ≤ 254) ∨
        5 ≤ byteAt body (2 * i + 1))) →
      AnswersRange (.configureDutyMessages tag body) s tag 0x4A#8) ∧
    ∀ silence threshold : Byte, body = [silence, threshold] →
      (1 ≤ silence.toNat ∧ silence.toNat < 10) ∨ 200 < silence.toNat ∨ threshold.toNat = 0 ∨ 32 < threshold.toNat →
      AnswersRange (.configureLink tag body) s tag 0x05#8) ∧
  ∀ (tag silence threshold : Byte) (s : State), s.configurable →
    (silence.toNat = 0 ∨ (10 ≤ silence.toNat ∧ silence.toNat ≤ 200)) → 1 ≤ threshold.toNat → threshold.toNat ≤ 32 →
    ∃ t, exec (.configureLink tag [silence, threshold]) s = .next t ∧
      t.lp.reply = some ⟨tag, 0x05#8, .ok, []⟩ ∧
      t.cfg = { s.cfg with link := ⟨silence.toNat * 10, threshold.toNat⟩ } ∧
      t.lp.silenceDue = (if silence.toNat = 0 then none else some (s.now + silence.toNat * 10000)) ∧
      t.lp.attention = t.wantsAttention ∧ t.lp.lostSince = none ∧ s.sameBut t [.cfg, .lp]

/-! ### Power states (chapter 8) and the store (chapter 10) -/

/-- O16 (tier 2). SLEEP by the power state that takes it (R165): refused in SLEEP, PROVING and while a slot is DRIVING,
taken with no effect in PARKING, and in RUN the entry to PARKING with every gauge ordered to park, which goes on to
SLEEP at once when GAUGES PARKED holds (R166); with the POWER STATE record of the entry to PARKING, cause SLEEP REQUEST, and
behind it that of the entry to SLEEP, cause GAUGES PARKED, where the part goes on (R172). That a change's POWER STATE record
comes before every other that the change makes is the model's choice (log entry 12). -/
def Obligations.SleepRequestByPowerState : Prop :=
  ∀ (tag : Byte) (s : State), s.listens →
    (s.psc.state = .sleep → exec (.sleep tag []) s = .next (beginReply tag 0x08#8 .asleep [] (goodFrame s))) ∧
    (s.psc.state = .proving → exec (.sleep tag []) s = .next (beginReply tag 0x08#8 .busy [] (goodFrame s))) ∧
    (s.psc.state = .run → s.anyDriving = true →
      exec (.sleep tag []) s = .next (beginReply tag 0x08#8 .driving [] (goodFrame s))) ∧
    (s.psc.state = .parking → exec (.sleep tag []) s = .next (beginReply tag 0x08#8 .ok [] (goodFrame s))) ∧
    (s.psc.state = .run → s.anyDriving = false → Answers (.sleep tag []) s tag 0x08#8 .ok [] fun t =>
      t.psc.state = (if t.gaugesParked = true then .sleep else .parking) ∧ t.psc.proof = .stopped ∧
      (∀ g, (s.gauge g).state ∈ [.parked, .parking, .unhomed, .fault] → (t.gauge g).state = (s.gauge g).state) ∧
      (∀ g, (s.gauge g).state ∈ [.homing, .sweeping] →
        (t.gauge g).state = (s.gauge g).state ∧ (t.gauge g).parkPending = true) ∧
      (∀ g, (s.gauge g).state ∈ [.tracking, .held, .resting, .test] → (t.gauge g).state ∈ [.parking, .parked]) ∧
      ReportedFirst .powerState 3 0x0502 (goodFrame s) t ∧
      (t.gaugesParked = true → ∀ urgent, s.cfg.routes.get 20 = (if urgent = true then .urgent else .post) →
        t.lp.queue.length < 32 → ∃ between after, t.lp.queue =
          (goodFrame s).lp.queue ++ ⟨.powerState, 3, 0x0502, BitVec.ofNat 16 s.dtu.clock, urgent⟩ :: between ++
            ⟨.powerState, 0, 0x0703, BitVec.ofNat 16 s.dtu.clock, urgent⟩ :: after) ∧
      s.sameBut t (if t.gaugesParked = true then [.lp, .qt, .ssu, .gdu, .weu, .dtu, .anu, .psc] else [.lp, .gdu, .psc]))

/-- O17 (tier 2). WAKE by the power state that takes it (R169): the entry to PROVING from SLEEP, which is that of O18 with
the old state SLEEP and the cause WAKE (R163), RUN from PARKING with the gauges released (R167), no effect in PROVING and
RUN; whatever the key line and whether or not a save is in progress; each change with its POWER STATE record (R172), before every other that the
change makes, which is the model's choice (log entry 12). -/
def Obligations.WakeRequestByPowerState : Prop :=
  ∀ (tag : Byte) (s : State), s.listens →
    (s.psc.state = .proving ∨ s.psc.state = .run →
      exec (.wake tag []) s = .next (beginReply tag 0x09#8 .ok [] (goodFrame s))) ∧
    (s.psc.state = .sleep →
      exec (.wake tag []) s = .next (beginReply tag 0x09#8 .ok [] (enterProving 0 .wake (goodFrame s))) ∧
      Answers (.wake tag []) s tag 0x09#8 .ok [] fun t =>
        t.psc.state = .proving ∧ t.psc.key = s.psc.key ∧ t.cfg = s.cfg ∧ t.cs = s.cs ∧
        ReportedFirst .powerState 1 0x0300 (goodFrame s) t) ∧
    (s.psc.state = .parking → Answers (.wake tag []) s tag 0x09#8 .ok [] fun t =>
      t.psc = { s.psc with state := .run, proof := .stopped } ∧ s.sameBut t [.lp, .gdu, .psc] ∧
      GaugesReleased s t ∧ ReportedFirst .powerState 2 0x0303 (goodFrame s) t)

/-- O18 (tier 2). The entry to PROVING, as every cause makes it: the proof timer, the proof hold with its tone, the line
refresh, the autostart of the scan, the update timers, the order to each gauge by its state and its rehome and sweep
flags, the evaluation timer, the flash clock, the lamp sample timer, the proved lamps, the offers of the LATCHED warnings
and of the tracks that stand above NORMAL, the silence timer and the attention line (R163, with R36, R60, R62, R74, R97,
R101, R129, R156, R177, R182). That the POWER STATE record (R172) comes before every other, that the coils are watched
before the orders are given and again as a homing begins, and the order of the offers are the model's choices (log entries
12, 19, 26 and 36). -/
def Obligations.EntryToProvingOrdersEveryBlock : Prop :=
  ∀ (old : Nat) (cause : PowerCause) (s t : State), t = enterProving old cause s →
    t.psc = { s.psc with state := .proving, proof := .running (s.now + s.cfg.power.proofTime * 1000000) } ∧
    t.anu.proofHold = true ∧ t.anu.refreshDue = some (s.now + 1000000) ∧
    (s.anu.shown = none → t.anu.shown = none ∧ t.anu.sounder = .oneShot .proofTone (s.now + 200000)) ∧
    (s.cfg.scan.autostart = true → s.cfg.scan.list ≠ [] → s.ssu.mode = .stopped → t.ssu.mode = .continuous) ∧
    (s.cfg.scan.autostart = false ∨ s.cfg.scan.list = [] ∨ s.ssu.mode ≠ .stopped → t.ssu = s.ssu) ∧
    (∀ g, (t.gauge g).updateDue = some (s.now + 20000)) ∧
    t.weu.evalDue = some (s.now + s.cfg.evalInterval * 1000) ∧ t.weu.flash = some ⟨true, s.now + 500000⟩ ∧
    t.weu.lampDue = some (s.now + 200000) ∧
    (∀ l, (s.cfg.lamps.get l).proved = true → (t.lamp l).drive = .steady) ∧
    s.sameBut t [.lp, .ssu, .gdu, .weu, .dtu, .anu, .psc] ∧
    (handPowerState old cause (s.setPower .proving (.running (s.now + s.cfg.power.proofTime * 1000000)))).lp.queue <+:
      t.lp.queue ∧
    (∀ (g : Fin 6) (r : Gauge) (c : GaugeSettings), s.powered = true → c = s.gaugeConfig g →
      r = { s.gauge g with updateDue := some (s.now + 20000) } →
      (r.state = .fault → c.rehome = false → t.gauge g = r) ∧
      (s.coilOpen.get g = false →
        (r.state = .unhomed ∨ (r.state ∈ [.parked, .fault] ∧ c.rehome = true) → t.gauge g = { r with
          state := .homing, faultDetail := none, position := none, move := none, following := none
          homing := some ⟨c.homingMode, c.homeTravel, c.homingSpeed, 0, false⟩ }) ∧
        (r.state = .parked → c.rehome = false →
          (c.sweepAtProof = false → t.gauge g = { r with state := .tracking, history := [] }) ∧
          (c.sweepAtProof = true →
            (r.position = some c.calibration.maxPos → t.gauge g = Gauge.takeTarget c.calibration.minPos
              { r with state := .sweeping, sweepBack := true }) ∧
            (r.position ≠ some c.calibration.maxPos → t.gauge g = Gauge.takeTarget c.calibration.maxPos
              { r with state := .sweeping, sweepBack := false })))) ∧
      (s.coilOpen.get g = true → r.state ∈ [.unhomed, .parked] ∨ (r.state = .fault ∧ c.rehome = true) →
        (t.gauge g).state = .fault ∧ (t.gauge g).faultDetail = some .coilOpen ∧ (t.gauge g).position = none ∧
        (t.gauge g).move = none ∧ (t.gauge g).homing = none)) ∧
    (∃ u, u.cfg = s.cfg ∧ u.psc = t.psc ∧ u.weu.warnings = s.weu.warnings ∧ u.dtu = s.dtu ∧
      u.anu.queue = s.anu.queue ∧ u.anu.shown = s.anu.shown ∧ u.anu.proofHold = true ∧
      t = judgeAttention (restartSilence (forEach reofferSlot (forEach reofferWarning u)))) ∧
    (∀ (w : Fin 48) (v : State),
      (∀ m, (v.warning w).state = .latched → (v.warning w).acknowledged = false →
        (v.cfg.warnings.get w).message = some m → reofferWarning w v =
          offer ⟨.warning w, (v.cfg.warnings.get w).cls.announced, m, (v.cfg.warnings.get w).chime, .normal⟩
            (v.setWarning w { v.warning w with mark := .normal })) ∧
      ((v.warning w).state ≠ .latched ∨ (v.warning w).acknowledged = true ∨ (v.cfg.warnings.get w).message = none →
        reofferWarning w v = v)) ∧
    (∀ (i : Fin 2) (v : State),
      reofferSlot i v = reofferTrack i .weekly (reofferTrack i .daily (reofferTrack i .continuous v)) ∧
      ∀ k, v.psc.state = .proving →
        (∀ o, (v.slot i).card.isSome = true → (v.track i k).stage ≠ .normal → (v.track i k).acknowledged = false →
          (v.track i k).offered = false → v.dutyOffer i k (v.track i k).stage = some o →
          reofferTrack i k v = offer o (v.setTrack i k { v.track i k with offered := true })) ∧
        ((v.slot i).card = none ∨ (v.track i k).stage = .normal ∨ (v.track i k).acknowledged = true ∨
            (v.track i k).offered = true ∨ v.dutyOffer i k (v.track i k).stage = none →
          reofferTrack i k v = v)) ∧
    t.lp.silenceDue = (if s.cfg.link.silence ≠ 0 ∧ s.lp.lostSince = none then some (s.now + s.cfg.link.silence * 1000)
      else s.lp.silenceDue) ∧
    t.lp.attention = t.wantsAttention

/-- O19 (tier 2). KEY_SAMPLE: three samples in a row adopt a level; a key-on edge brings SLEEP to PROVING, by
the entry of O18 with the old state SLEEP and the cause KEY ON (R163), and PARKING to RUN with the gauges released (R167),
each with its POWER STATE record (R172), and changes no other power state, and a key-off changes none (R162). That the record
comes before every other that the change makes, and the time of a late sample, are the model's choices (log entries 12 and
2). -/
def Obligations.KeySampleIsDebounced : Prop :=
  ∀ (level : Bool) (s : State), s.powered = true → ∃ t, exec (.keySample level) s = .next t ∧
    t.now = max s.now s.psc.keyDue ∧ t.psc.keyDue = s.psc.keyDue + 10000 ∧ t.psc.keyCandidate = level ∧
    t.psc.keyRun = (if s.psc.keyCandidate = level then min 3 (s.psc.keyRun + 1) else 1) ∧
    t.psc.key = (if t.psc.keyRun = 3 then level else s.psc.key) ∧
    (t.psc.key = true → s.psc.key = false →
      (s.psc.state = .sleep → t.psc.state = .proving ∧
        t = enterProving 0 .keyOn ((s.setNow t.now).setPsc { s.psc with
          key := true, keyCandidate := true, keyRun := 3, keyDue := t.psc.keyDue }) ∧
        ReportedFirst .powerState 1 0x0200 s t) ∧
      (s.psc.state = .parking →
        t.psc = ⟨.run, .stopped, true, true, 3, t.psc.keyDue⟩ ∧ s.sameBut t [.now, .lp, .gdu, .psc] ∧
        GaugesReleased s t ∧ ReportedFirst .powerState 2 0x0203 s t) ∧
      (s.psc.state = .proving ∨ s.psc.state = .run → s.sameBut t [.now, .psc] ∧ t.psc.state = s.psc.state)) ∧
    (t.psc.key = false ∨ s.psc.key = true → s.sameBut t [.now, .psc] ∧ t.psc.state = s.psc.state)

/-- O20 (tier 2). The proof completes when its timer has expired and GAUGES READY holds, whichever comes first (R164),
and the entry to SLEEP from PARKING while GAUGES PARKED holds makes each block's part of it (R168 with R29, R62, R78,
R97, R101, R129, R157, R177), each with its POWER STATE record, causes PROOF DONE and GAUGES PARKED (R172). At the entry to
SLEEP a scan that runs stops, its VALID quantities STALE with their reports, and where it stood STOPPED no quantity changes
(R9, R29). Without its condition neither has an effect, and with it they act on a change that is due, which the judgement made at
once leaves none of in a run: the model's choices (log entry 11), as are the time of a late expiry (log entry 2) and that POWER
STATE comes before every other record of its change (log entry 12). -/
def Obligations.ProofAndParkingEnd : Prop :=
  (∀ s : State, s.powered = true → s.psc.state = .proving →
    (∀ due, s.psc.proof = .running due → s.gaugesReady = false → ∃ t, exec .proofTimerExpiry s = .next t ∧
      t.now = max s.now due ∧ t.psc = { s.psc with proof := .expired } ∧ s.sameBut t [.now, .psc]) ∧
    (∀ due, s.psc.proof = .running due → s.gaugesReady = true → ∃ t, exec .proofTimerExpiry s = .next t ∧
      t.now = max s.now due ∧ t.psc = { s.psc with state := .run, proof := .stopped } ∧ t.anu.proofHold = false ∧
      (∀ l, (t.lamp l).drive = t.driveOf l) ∧ ReportedFirst .powerState 2 0x0401 s t ∧
      s.sameBut t [.now, .lp, .weu, .dtu, .anu, .psc]) ∧
    (s.psc.proof = .expired → s.gaugesReady = true → ∃ t, exec .proofDone s = .next t ∧
      t.psc = { s.psc with state := .run, proof := .stopped } ∧ t.anu.proofHold = false ∧
      (∀ l, (t.lamp l).drive = t.driveOf l) ∧ ReportedFirst .powerState 2 0x0401 s t ∧
      s.sameBut t [.lp, .weu, .dtu, .anu, .psc]) ∧
    (s.psc.proof ≠ .expired ∨ s.gaugesReady = false → exec .proofDone s = .next s)) ∧
  ∀ s : State, s.powered = true → s.psc.state = .parking →
    (s.gaugesParked = false → exec .entryToSleep s = .next s) ∧
    (s.gaugesParked = true → ∃ t, exec .entryToSleep s = .next t ∧
      t.psc = { s.psc with state := .sleep, proof := .stopped } ∧ ReportedFirst .powerState 0 0x0703 s t ∧
      (s.ssu.mode ≠ .stopped → ScanHasStopped s.entry s t) ∧ (s.ssu.mode = .stopped → t.qt = s.qt) ∧
      t.ssu.mode = .stopped ∧ t.ssu.flight = none ∧ t.ssu.remaining = [] ∧ t.ssu.intervalDue = none ∧ t.ssu.filters = s.cfg.scan.list.map (fun _ => []) ∧ t.ssu.roundRobin = s.ssu.roundRobin ∧
      (∀ g, t.gauge g = { s.gauge g with updateDue := none, move := none, following := none }) ∧
      t.weu.evalDue = none ∧ t.weu.pass = none ∧ t.weu.flash = none ∧ t.weu.lampDue = none ∧
      t.weu.strengths = s.weu.strengths ∧
      (∀ w, (t.warning w).mark = .none ∧
        ((s.warning w).state ∈ [.rising, .activeNew, .activeSeen] → (t.warning w).state = .off) ∧
        ((s.warning w).state ∈ [.off, .disabled, .latched, .suppressed] → (t.warning w).state = (s.warning w).state)) ∧
      (∀ l, (t.lamp l).drive = .dark ∧ (t.lamp l).hostLevel = .off) ∧
      t.anu.queue = [] ∧ t.anu.shown = none ∧ t.anu.sounder = .silent ∧ t.anu.refreshDue = none ∧
      t.anu.content = blankLine ∧
      (∀ i k, t.track i k = { s.track i k with offered := false }) ∧ (∀ i, (t.slot i).card = (s.slot i).card) ∧
      t.lp.silenceDue = none ∧ s.sameBut t [.lp, .qt, .ssu, .gdu, .weu, .dtu, .anu, .psc])

/-- O21 (tier 2). SAVE CONFIGURATION takes the active configuration as it stands, the calibration part from the lock
cell, and SAVE_END ends the save with the image and its report (R191). What a failed save leaves is the command's operand,
the former image, the written one, or one whose check value does not match, which is a free value: the model's choices
(log entries 8 and 40). LOCK CALIBRATION: CONFLICT while STORE INVALID holds, no change once the lock is set, and otherwise
the cell written with the calibration of every gauge and of every SCAN quantity; no command changes a lock cell that is
set (R192). -/
def Obligations.SavesAndTheCalibrationLock : Prop :=
  (∀ (tag : Byte) (s : State),
    (s.configurable → exec (.saveConfiguration tag []) s = .next (beginReply tag 0x0C#8 .ok []
      ((goodFrame s).setCs { s.cs with saving := some (match s.cs.lock with
        | none => s.cfg
        | some k => k.over s.cfg) }))) ∧
    ∀ x, s.powered = true → s.cs.saving = some x →
      exec (.saveEnd .completed) s =
        .next (hand .saveDone 0 0 (s.setCs { s.cs with image := .held x x.check, invalid := false, saving := none })) ∧
      ∀ left, ∃ image, (left = .previous → image = s.cs.image) ∧ (left = .written → image = .held x x.check) ∧
        (left = .broken → ∃ k, image = .held x k ∧ k ≠ x.check) ∧ exec (.saveEnd (.failed left)) s =
        .next (hand .saveFailed 0 0 (s.setCs { s.cs with image := image, invalid := true, saving := none }))) ∧
  (∀ (tag : Byte) (s : State), s.configurable →
    (s.cs.invalid = true → exec (.lockCalibration tag []) s = .next (beginReply tag 0x0D#8 .conflict [] (goodFrame s))) ∧
    (s.cs.invalid = false → s.cs.lock.isSome = true →
      exec (.lockCalibration tag []) s = .next (beginReply tag 0x0D#8 .ok [] (goodFrame s))) ∧
    (s.cs.invalid = false → s.cs.lock = none → ∃ k, exec (.lockCalibration tag []) s =
        .next (beginReply tag 0x0D#8 .ok [] ((goodFrame s).setCs { s.cs with lock := some k })) ∧
      (∀ g, k.gauges.get g = (s.cfg.gauges.get g).calibration) ∧
      ∀ q input gain offset, (q, input, gain, offset) ∈ k.quantities ↔
        ∃ f : ScanFields, s.cfg.sources.get q = .scan f ∧ f.input = input ∧ f.gain = gain ∧ f.offset = offset)) ∧
  ∀ (c : Instr) (s t : State) (k : LockCell), s.cs.lock = some k → exec c s = .next t → t.cs.lock = some k

/-- O22 (tier 2). The requests that read answer OK with their readout and change nothing but the reply and step 1 of
R175: READ CONFIGURATION, READ QUANTITIES, READ SCAN, READ GAUGE, READ STRENGTH, READ WARNING, READ LAMPS, READ DUTY and
READ LINE (R193, R19, R37, R65, R82, R98, R107, R132, R159), in the layouts of R198; RANGE for what is not there. Where
R198 leaves a layout open the readouts follow the model's choices (log entries 16, 17, 32 and 42). READ DUTY is taken in
SLEEP as well (R170). -/
def Obligations.ReadRequestsChangeNothing : Prop :=
  (∀ (tag b : Byte) (s : State), s.listens →
    (∀ i : Fin 2, b.toNat = i.val + 1 →
      exec (.readDuty tag [b]) s = .next (beginReply tag 0x45#8 .ok (s.dutyReadout i) (goodFrame s))) ∧
    (b.toNat = 0 ∨ 2 < b.toNat →
      exec (.readDuty tag [b]) s = .next (beginReply tag 0x45#8 .range [] (goodFrame s)))) ∧
  ∀ (tag : Byte) (s : State), s.awake →
    (∀ item index, exec (.readConfiguration tag [item, index]) s = .next
      (match s.configurationItem item.toNat index.toNat with
        | none => beginReply tag 0x0E#8 .range [] (goodFrame s)
        | some bytes => beginReply tag 0x0E#8 .ok bytes (goodFrame s))) ∧
    (∀ qs : List (Fin 48), 1 ≤ qs.length → qs.length ≤ 16 →
      exec (.readQuantities tag (qs.map fun q => BitVec.ofNat 8 q.val)) s =
        .next (beginReply tag 0x12#8 .ok (be8 qs.length ++ qs.flatMap s.quantityRecord) (goodFrame s))) ∧
    (∀ body : List Byte, 1 ≤ body.length → body.length ≤ 16 → (∃ b ∈ body, 48 ≤ b.toNat) →
      exec (.readQuantities tag body) s = .next (beginReply tag 0x12#8 .range [] (goodFrame s))) ∧
    exec (.readScan tag []) s = .next (beginReply tag 0x1C#8 .ok s.scanReadout (goodFrame s)) ∧
    (∀ b : Byte, (∀ g : Fin 6, b.toNat = g.val → exec (.readGauge tag [b]) s =
        .next (beginReply tag 0x25#8 .ok ((s.gauge g).readout (s.gaugeConfig g)) (goodFrame s))) ∧
      (∀ w : Fin 48, b.toNat = w.val →
        exec (.readStrength tag [b]) s = .next (beginReply tag 0x2B#8 .ok (s.strengthReadout w) (goodFrame s)) ∧
        exec (.readWarning tag [b]) s = .next (beginReply tag 0x35#8 .ok (s.warningReadout w) (goodFrame s))) ∧
      (6 ≤ b.toNat → exec (.readGauge tag [b]) s = .next (beginReply tag 0x25#8 .range [] (goodFrame s))) ∧
      (48 ≤ b.toNat →
        exec (.readStrength tag [b]) s = .next (beginReply tag 0x2B#8 .range [] (goodFrame s)) ∧
        exec (.readWarning tag [b]) s = .next (beginReply tag 0x35#8 .range [] (goodFrame s)))) ∧
    exec (.readLamps tag []) s = .next (beginReply tag 0x39#8 .ok s.lampsReadout (goodFrame s)) ∧
    exec (.readLine tag []) s = .next (beginReply tag 0x53#8 .ok s.lineReadout (goodFrame s))

/-! ### The Quantity Table (chapter 1) -/

/-- O23 (tier 2). A delivery that writes a value computes it from the filtered value in four steps: times the gain,
divided by 1024 toward zero, plus the offset, held within -32768 and 32767 (R7). -/
def Obligations.ScannedValueIsComputedInFourSteps : Prop :=
  ∀ (q : Fin 48) (f : ScanFields) (raw filtered : Nat) (s : State), s.cfg.sources.get q = .scan f →
    f.rawLow ≤ raw → raw ≤ f.rawHigh →
    ((s.entry q).status ≠ .fault ∨ f.confirm ≤ (s.entry q).inRun + 1) →
    ∃ quotient : Int,
      (0 ≤ (filtered : Int) * f.gain →
        1024 * quotient ≤ (filtered : Int) * f.gain ∧ (filtered : Int) * f.gain < 1024 * (quotient + 1)) ∧
      ((filtered : Int) * f.gain ≤ 0 →
        (filtered : Int) * f.gain ≤ 1024 * quotient ∧ 1024 * (quotient - 1) < (filtered : Int) * f.gain) ∧
      ((deliver f.input raw filtered q s).entry q).value =
        (if quotient + f.offset < -32768 then -32768
        else if 32767 < quotient + f.offset then 32767
        else quotient + f.offset)

/-- O24 (tier 2). A delivery judges the raw sample and acts by the entry's status, with its report; an entry that is not
bound to the input is left as it is (R6, R8). -/
def Obligations.DeliveryActsByStatusAndLimits : Prop :=
  ∀ (q : Fin 48) (f : ScanFields) (raw filtered : Nat) (s : State), s.cfg.sources.get q = .scan f →
    (∀ input, input ≠ f.input → deliver input raw filtered q s = s) ∧
    (f.rawLow ≤ raw → raw ≤ f.rawHigh →
      ((s.entry q).status = .absent ∨ (s.entry q).status = .valid → deliver f.input raw filtered q s =
        writeEntry q { s.entry q with
          value := f.scaled filtered, status := .valid, restarted := s.now, outRun := 0 } s) ∧
      ((s.entry q).status = .stale → deliver f.input raw filtered q s = hand .quantityRecovered q.val 0
        (writeEntry q { s.entry q with
          value := f.scaled filtered, status := .valid, restarted := s.now, outRun := 0 } s)) ∧
      ((s.entry q).status = .fault →
        ((s.entry q).inRun + 1 < f.confirm →
          deliver f.input raw filtered q s = s.setEntry q { s.entry q with inRun := (s.entry q).inRun + 1 }) ∧
        (f.confirm ≤ (s.entry q).inRun + 1 → deliver f.input raw filtered q s = hand .quantityRecovered q.val 1
          (writeEntry q { s.entry q with
            value := f.scaled filtered, status := .valid, restarted := s.now, outRun := 0, inRun := 0 } s)))) ∧
    ∀ detail, (raw < f.rawLow ∧ detail = 1 ∨ f.rawLow ≤ raw ∧ f.rawHigh < raw ∧ detail = 2) →
      ((s.entry q).status = .fault → deliver f.input raw filtered q s = s.setEntry q { s.entry q with inRun := 0 }) ∧
      ((s.entry q).status ≠ .fault → (s.entry q).outRun + 1 < f.confirm →
        deliver f.input raw filtered q s = s.setEntry q { s.entry q with outRun := (s.entry q).outRun + 1 }) ∧
      ((s.entry q).status ≠ .fault → f.confirm ≤ (s.entry q).outRun + 1 →
        deliver f.input raw filtered q s = hand .quantityFault q.val detail (s.setEntry q { s.entry q with
          value := if (s.entry q).status = .absent then 0 else (s.entry q).value
          status := .fault, outRun := (s.entry q).outRun + 1, inRun := 0 }))

/-- O25 (tier 2). CONFIGURE QUANTITY: RANGE for fields that cannot be read, LOCKED where the calibration lock forbids
it, and otherwise the new source, an entry in its starting state when the source or its binding is new, and the kept
entry adjusted by the fields that changed (R15, R16, R17). How the fields are read, those that the source does not have and
the times in steps of 10 ms, is the model's choice (log entries 15 and 29). -/
def Obligations.ConfigureQuantityStartsOrKeepsTheEntry : Prop :=
  ∀ (tag : Byte) (body : List Byte) (s : State), s.configurable → body.length = 15 →
    (readQuantityConfig body = none →
      exec (.configureQuantity tag body) s = .next (beginReply tag 0x10#8 .range [] (goodFrame s))) ∧
    ∀ q c, readQuantityConfig body = some (q, c) →
      (s.sourceLocked q c = true →
        exec (.configureQuantity tag body) s = .next (beginReply tag 0x10#8 .locked [] (goodFrame s))) ∧
      (s.sourceLocked q c = false → Answers (.configureQuantity tag body) s tag 0x10#8 .ok [] fun t =>
        t.cfg = { s.cfg with sources := s.cfg.sources.set q c } ∧ s.sameBut t [.cfg, .lp, .qt] ∧
        t.qt.sampleDue = s.qt.sampleDue ∧ (∀ p, p ≠ q → t.entry p = s.entry p) ∧
        ((s.cfg.sources.get q).same c = false → t.entry q = ⟨0, .absent, s.now, none, 0, 0, none, 0⟩) ∧
        ((s.cfg.sources.get q).same c = true →
          (t.entry q).value = (s.entry q).value ∧ (t.entry q).restarted = (s.entry q).restarted) ∧
        (s.cfg.sources.get q = c → t.entry q = s.entry q) ∧
        (∀ old new, s.cfg.sources.get q = .link old → c = .link new → old ≠ new →
          (new = 0 → t.entry q = { s.entry q with refreshDue := none }) ∧
          (new ≠ 0 → (s.entry q).status = .valid → s.now < (s.entry q).restarted + new * 1000 →
            t.entry q = { s.entry q with refreshDue := some ((s.entry q).restarted + new * 1000) }) ∧
          (new ≠ 0 → (s.entry q).status = .valid → (s.entry q).restarted + new * 1000 ≤ s.now →
            t.entry q = { s.entry q with status := .stale, refreshDue := none }) ∧
          (new ≠ 0 → (s.entry q).status ≠ .valid → t.entry q = { s.entry q with refreshDue := none })) ∧
        (∀ f f', s.cfg.sources.get q = .scan f → c = .scan f' → f.input = f'.input →
          ((f.rawLow, f.rawHigh, f.confirm) ≠ (f'.rawLow, f'.rawHigh, f'.confirm) →
            t.entry q = { s.entry q with outRun := 0, inRun := 0 }) ∧
          ((f.rawLow, f.rawHigh, f.confirm) = (f'.rawLow, f'.rawHigh, f'.confirm) → t.entry q = s.entry q)) ∧
        ∀ i d d', s.cfg.sources.get q = .switch i d → c = .switch i d' → t.entry q = s.entry q)

/-- O26 (tier 2). SET QUANTITIES is answered OK with one result for each pair, the pairs carried out one after another;
a pair is refused with RANGE or CONFLICT for its own reason, a value makes a link-sourced entry VALID with its timer
started afresh, and a fault marker makes it FAULT with its value kept and its timer stopped, with their reports (R4,
R18). The reply body has one status code (R194) for each pair and no count, which is the model's choice (log entry 16).
-/
def Obligations.SetQuantitiesAppliesEachPair : Prop :=
  (∀ (tag : Byte) (body : List Byte) (s : State), s.awake → body.length % 3 = 0 → 3 ≤ body.length → body.length ≤ 48 →
    exec (.setQuantities tag body) s =
      .next (beginReply tag 0x11#8 .ok (applyPairs body (goodFrame s)).2 (applyPairs body (goodFrame s)).1) ∧
    (applyPairs body (goodFrame s)).2.length = body.length / 3) ∧
  (∀ (first hi lo : Byte) (rest : List Byte) (s : State), ∃ t status, applyPair first (intAt [hi, lo] 0) s = (t, status) ∧
    applyPairs (first :: hi :: lo :: rest) s = ((applyPairs rest t).1, status.code :: (applyPairs rest t).2)) ∧
  ∀ (first : Byte) (v : Int) (s : State),
    (48 ≤ first.toNat % 128 → applyPair first v s = (s, .range)) ∧
    ∀ q : Fin 48, first.toNat % 128 = q.val →
      ((∀ limit, s.cfg.sources.get q ≠ .link limit) → applyPair first v s = (s, .conflict)) ∧
      ∀ limit, s.cfg.sources.get q = .link limit →
        (first.toNat < 128 → ∃ t, applyPair first v s = (t, .ok) ∧
          t.entry q = { s.entry q with
            value := v, status := .valid, restarted := s.now
            refreshDue := if limit = 0 then none else some (s.now + limit * 1000) } ∧
          (∀ p, p ≠ q → t.entry p = s.entry p) ∧
          ((s.entry q).status = .stale → ∃ u, t = hand .quantityRecovered q.val 0 u) ∧
          ((s.entry q).status = .fault → ∃ u, t = hand .quantityRecovered q.val 1 u) ∧
          ((s.entry q).status = .absent ∨ (s.entry q).status = .valid → s.cfg.line.acknowledge ≠ some q → t.lp = s.lp) ∧
          s.sameBut t [.lp, .qt, .weu, .dtu, .anu]) ∧
        (128 ≤ first.toNat → ∃ u, u = s.setEntry q { s.entry q with
            status := .fault, restarted := s.now, refreshDue := none } ∧
          ((s.entry q).status = .fault → applyPair first v s = (u, .ok)) ∧
          ((s.entry q).status ≠ .fault → applyPair first v s = (hand .quantityFault q.val 0 u, .ok)))

/-- O27 (tier 2). REFRESH_EXPIRY: a VALID entry becomes STALE with its value held and QUANTITY STALE, an entry of
another status stays, and the timer is stopped (R5). SWITCH_SAMPLE: every switch-sourced entry takes the level of its
input, its candidate and run move, and the level is adopted at the required count while the entry is ABSENT or holds the
other value (R10, R11). The time of a late event is the model's choice (log entry 2). -/
def Obligations.RefreshExpiryAndSwitchSample : Prop :=
  (∀ (q : Fin 48) (s : State) (due : Nat), s.powered = true → (s.entry q).refreshDue = some due →
    ((s.entry q).status = .valid → exec (.refreshExpiry q) s = .next (hand .quantityStale q.val 0
      ((s.setNow (max s.now due)).setEntry q { s.entry q with status := .stale, refreshDue := none }))) ∧
    ((s.entry q).status ≠ .valid → exec (.refreshExpiry q) s = .next
      ((s.setNow (max s.now due)).setEntry q { s.entry q with refreshDue := none }))) ∧
  ∀ (levels : BitVec 8) (s : State), s.powered = true → ∃ t, exec (.switchSample levels) s = .next t ∧
    t.now = max s.now s.qt.sampleDue ∧ t.qt.sampleDue = s.qt.sampleDue + 10000 ∧
    s.sameBut t [.now, .lp, .qt, .weu, .dtu, .anu] ∧
    (∀ q, (∀ i d, s.cfg.sources.get q ≠ .switch i d) → t.entry q = s.entry q) ∧
    ∀ q i d, s.cfg.sources.get q = .switch i d → ∃ level required run,
      level = levels.getLsbD i.val ∧ required = (if d = 0 then 1 else d / 10) ∧
      run = min required (if (s.entry q).candidate = some level then (s.entry q).candidateRun + 1 else 1) ∧
      ((run = required ∧ ((s.entry q).status = .absent ∨ (s.entry q).value ≠ (if level then 1 else 0))) →
        t.entry q = { s.entry q with
          value := if level then 1 else 0, status := .valid, restarted := t.now
          candidate := some level, candidateRun := run }) ∧
      (¬(run = required ∧ ((s.entry q).status = .absent ∨ (s.entry q).value ≠ (if level then 1 else 0))) →
        t.entry q = { s.entry q with candidate := some level, candidateRun := run })

/-! ### The Sensor Scan Unit (chapter 2) -/

/-- O28 (tier 2). The scan requests: CONFIGURE SCAN replaces the configuration in STOPPED alone, with the depths stored
as R32 says and, where one was coerced, a body that names the coerced list positions in list order, and is answered RANGE,
with nothing changed, when it cannot be read; SCAN START, SCAN STOP and SCAN ONCE by the scan state, the stop with its
STALE quantities and their reports (R31 to R35, R9, R25, R29, R30). That the body of a COERCED answer is a count byte followed by the positions, one byte each, is the model's reading of
R198 (log entry 16). -/
def Obligations.ScanRequestsByScanState : Prop :=
  ∀ (tag : Byte) (s : State), s.awake →
    (∀ body, s.saving = false → scanBodyFits body = true →
      (s.ssu.mode ≠ .stopped →
        exec (.configureScan tag body) s = .next (beginReply tag 0x18#8 .notStopped [] (goodFrame s))) ∧
      (s.ssu.mode = .stopped → readScanSettings body = none ∨ 16 < byteAt body 0 →
        AnswersRange (.configureScan tag body) s tag 0x18#8) ∧
      ∀ c, s.ssu.mode = .stopped → readScanSettings body = some c → ∃ coerced : List Nat,
        coerced.Pairwise (· < ·) ∧
        (∀ n, n ∈ coerced ↔ 1 ≤ n ∧ ∃ e, c.list[n - 1]? = some e ∧ e.depth ∉ [1, 2, 4, 8, 16]) ∧
        Answers (.configureScan tag body) s tag 0x18#8 (if coerced = [] then .ok else .coerced)
          (if coerced = [] then [] else BitVec.ofNat 8 coerced.length :: coerced.map (BitVec.ofNat 8)) fun t =>
            t.cfg = { s.cfg with scan := ⟨c.list.map fun e =>
              { e with depth := if e.depth ∈ [1, 2, 4, 8, 16] then e.depth else 1 }, c.interval, c.autostart⟩ } ∧
            t.ssu = { s.ssu with filters := c.list.map fun _ => [], roundRobin := firstSlow c.list } ∧
            s.sameBut t [.cfg, .lp, .ssu]) ∧
    (∀ first last, s.ssu.mode = .once first last →
      exec (.scanStart tag []) s = .next (beginReply tag 0x19#8 .busy [] (goodFrame s))) ∧
    (s.ssu.mode = .continuous → exec (.scanStart tag []) s = .next (beginReply tag 0x19#8 .ok [] (goodFrame s))) ∧
    (s.ssu.mode = .stopped → s.cfg.scan.list = [] →
      exec (.scanStart tag []) s = .next (beginReply tag 0x19#8 .conflict [] (goodFrame s))) ∧
    (s.ssu.mode = .stopped → s.cfg.scan.list ≠ [] → Answers (.scanStart tag []) s tag 0x19#8 .ok [] fun t =>
      t.ssu = { s.ssu with
        mode := .continuous, intervalDue := some (s.now + s.cfg.scan.interval * 1000)
        flight := s.passPositions.head?.map fun p => ⟨p, s.now + 50⟩, remaining := s.passPositions.tail } ∧
      s.sameBut t [.lp, .ssu]) ∧
    (s.ssu.mode = .stopped → exec (.scanStop tag []) s = .next (beginReply tag 0x1A#8 .ok [] (goodFrame s))) ∧
    (s.ssu.mode ≠ .stopped → Answers (.scanStop tag []) s tag 0x1A#8 .ok [] fun t =>
      t.ssu = { s.ssu with mode := .stopped, flight := none, remaining := [], intervalDue := none } ∧
      s.sameBut t [.lp, .ssu, .qt] ∧ ScanHasStopped s.entry s t) ∧
    ∀ first last : Byte,
      (s.ssu.mode ≠ .stopped →
        exec (.scanOnce tag [first, last]) s = .next (beginReply tag 0x1B#8 .busy [] (goodFrame s))) ∧
      (s.ssu.mode = .stopped →
        (first.toNat = 0 ∨ s.cfg.scan.list.length < last.toNat ∨ last.toNat < first.toNat →
          exec (.scanOnce tag [first, last]) s = .next (beginReply tag 0x1B#8 .range [] (goodFrame s))) ∧
        (1 ≤ first.toNat → last.toNat ≤ s.cfg.scan.list.length → first.toNat ≤ last.toNat →
          Answers (.scanOnce tag [first, last]) s tag 0x1B#8 .ok [] fun t =>
            t.ssu = { s.ssu with
              mode := .once first.toNat last.toNat, flight := some ⟨first.toNat, s.now + 50⟩
              remaining := (List.range last.toNat).drop first.toNat |>.map (· + 1) } ∧
            s.sameBut t [.lp, .ssu]))

/-- O29 (tier 2). SCAN_INTERVAL_EXPIRY starts a pass over the FAST entries and the entry at the round-robin position,
and CONVERSION_COMPLETION joins the result to the filter, delivers it, moves the round-robin position and starts the
next conversion or ends the pass; the end of a SCAN ONCE stops the scan, with its STALE
quantities and their reports (R9, R23 to R30). The time of a late event is the
model's choice (log entry 2). -/
def Obligations.PassesConvertAndDeliver : Prop :=
  ∀ s : State, s.powered = true →
    (∀ due, s.ssu.intervalDue = some due → s.ssu.flight = none → ∃ t, exec .scanIntervalExpiry s = .next t ∧
      t.now = max s.now due ∧ s.sameBut t [.now, .ssu] ∧
      t.ssu = { s.ssu with
        intervalDue := some (due + s.cfg.scan.interval * 1000)
        flight := s.passPositions.head?.map fun p => ⟨p, t.now + 50⟩, remaining := s.passPositions.tail }) ∧
    ∀ (raw : BitVec 10) (f : Flight) (e : ScanEntry), s.ssu.flight = some f → entryAt s.cfg.scan.list f.position = some e →
      ∃ t, exec (.conversionCompletion raw) s = .next t ∧ t.now = max s.now f.due ∧
        s.sameBut t [.now, .lp, .qt, .ssu, .weu, .dtu, .anu] ∧
        ∃ held, held = (s.ssu.filters.getD (f.position - 1) [] ++ [raw.toNat]).drop
            ((s.ssu.filters.getD (f.position - 1) [] ++ [raw.toNat]).length - e.depth) ∧
          t.ssu.filters = s.ssu.filters.set (f.position - 1) held ∧
          t.ssu.roundRobin = (if s.ssu.mode = .continuous ∧ e.group = .slow
            then nextSlow s.cfg.scan.list f.position else s.ssu.roundRobin) ∧
          (∀ p rest, s.ssu.remaining = p :: rest →
            t.ssu.flight = some ⟨p, t.now + 50⟩ ∧ t.ssu.remaining = rest ∧ t.ssu.mode = s.ssu.mode ∧
            ∀ q, t.entry q = (deliver e.input raw.toNat (held.sum / held.length) q (s.setNow t.now)).entry q) ∧
          (s.ssu.remaining = [] → t.ssu.flight = none) ∧
          (s.ssu.remaining = [] → s.ssu.mode = .continuous → t.ssu.mode = .continuous ∧
            ∀ q, t.entry q = (deliver e.input raw.toNat (held.sum / held.length) q (s.setNow t.now)).entry q) ∧
          ∀ first last, s.ssu.remaining = [] → s.ssu.mode = .once first last →
            t.ssu.mode = .stopped ∧ t.ssu.intervalDue = none ∧
              ScanHasStopped (fun q => (deliver e.input raw.toNat (held.sum / held.length) q (s.setNow t.now)).entry q) s t

/-! ### The Gauge Drive Unit (chapter 3) -/

/-- O30 (tier 2). A value mapped through the breakpoints: the first position at or below the first value, the last at or
above the last, a straight line between neighbours with the quotient rounded toward zero, held within the range (R39).
-/
def Obligations.MappedPositionFollowsTheBreakpoints : Prop :=
  ∀ (c : Calibration) (v : Int), 2 ≤ c.breakpoints.length → strictlyIncreasing (c.breakpoints.map Prod.fst) = true →
    c.minPos < c.maxPos →
    c.minPos ≤ c.map v ∧ c.map v ≤ c.maxPos ∧
    (∀ p, c.breakpoints.head? = some p → v ≤ p.1 → c.map v = max c.minPos (min c.maxPos p.2)) ∧
    (∀ p, c.breakpoints.getLast? = some p → p.1 ≤ v → c.map v = max c.minPos (min c.maxPos p.2)) ∧
    ∀ i lo hi, c.breakpoints[i]? = some lo → c.breakpoints[i + 1]? = some hi → lo.1 ≤ v → v ≤ hi.1 →
      (c.map v : Int) = max (c.minPos : Int) (min (c.maxPos : Int)
        ((lo.2 : Int) + Int.tdiv (((hi.2 : Int) - (lo.2 : Int)) * (v - lo.1)) (hi.1 - lo.1)))

/-- O31 (tier 2). A gauge of known position takes a new target: nothing at rest on it, a move from rest toward another,
the move continued to a target far enough ahead, and otherwise a halt at the stop point with the target to follow (R44);
the stopping distance is the least that R43 allows. -/
def Obligations.NewTargetStartsContinuesOrReverses : Prop :=
  (∀ (r : Gauge) (p t : Nat), r.position = some p →
    (r.move = none → t = p → r.takeTarget t = r) ∧
    (r.move = none → t ≠ p → r.takeTarget t = { r with move := some ⟨t, 2500⟩ }) ∧
    ∀ m n, r.move = some m → m.target ≠ p → n = stoppingDistance r.profile.accel m.speedSq →
      ((p < m.target ∧ p + n ≤ t) ∨ (m.target < p ∧ t + n ≤ p) →
        r.takeTarget t = { r with move := some ⟨t, m.speedSq⟩, following := none }) ∧
      (¬((p < m.target ∧ p + n ≤ t) ∨ (m.target < p ∧ t + n ≤ p)) →
        r.takeTarget t = { r with
          move := some ⟨if p < m.target then p + n else p - n, m.speedSq⟩, following := some t })) ∧
  ∀ accel speedSq : Nat, 0 < accel →
    1 ≤ stoppingDistance accel speedSq ∧ speedSq ≤ 2500 + 2 * accel * (stoppingDistance accel speedSq - 1) ∧
    ∀ n, 1 ≤ n → speedSq ≤ 2500 + 2 * accel * (n - 1) → stoppingDistance accel speedSq ≤ n

/-- O32 (tier 2). CONFIGURE GAUGE: LOCKED and STATE where R63 forbids it, and otherwise the configuration replaced with
the damping depth stored as R63 says, the profile in force at once or staged (R45), the damping history emptied by the
fields that R64 names, and nothing else of the gauge changed; RANGE, with nothing changed, when it cannot be read. A
coerced depth is named in the reply body as it is stored (R176), the form of which is the model's choice (log entry 41).
-/
def Obligations.ConfigureGaugeTakesEffectByField : Prop :=
  (∀ (tag : Byte) (body : List Byte) (s : State), s.configurable → gaugeBodyFits body = true →
    readGaugeSettings body = none ∨ 6 ≤ byteAt body 0 → AnswersRange (.configureGauge tag body) s tag 0x20#8) ∧
  ∀ (tag : Byte) (body : List Byte) (s : State) (g : Fin 6) (c : GaugeSettings), s.configurable →
    gaugeBodyFits body = true → readGaugeSettings body = some (g, c) →
    (s.cs.lock.isSome = true → c.calibration ≠ (s.cfg.gauges.get g).calibration →
      exec (.configureGauge tag body) s = .next (beginReply tag 0x20#8 .locked [] (goodFrame s))) ∧
    (s.calibrationLocked g c = false → s.rangeForbidden g c = true →
      exec (.configureGauge tag body) s = .next (beginReply tag 0x20#8 .state [] (goodFrame s))) ∧
    (s.calibrationLocked g c = false → s.rangeForbidden g c = false → ∃ status reply new,
      status = (if c.damping ∈ [1, 2, 4, 8] then .ok else .coerced) ∧
      reply = (if c.damping ∈ [1, 2, 4, 8] then [] else [1#8]) ∧
      new = { c with damping := if c.damping ∈ [1, 2, 4, 8] then c.damping else 1 } ∧
      Answers (.configureGauge tag body) s tag 0x20#8 status reply fun t =>
        t.cfg = { s.cfg with gauges := s.cfg.gauges.set g new } ∧ s.sameBut t [.cfg, .lp, .gdu] ∧
        (∀ x, x ≠ g → t.gauge x = s.gauge x) ∧
        ∃ profile staged history, t.gauge g = { s.gauge g with profile := profile, staged := staged, history := history } ∧
          (new.profile = (s.gauge g).profile → profile = (s.gauge g).profile ∧ staged = none) ∧
          (new.profile ≠ (s.gauge g).profile →
            (((s.gauge g).move = none ∧ (s.gauge g).homing = none) ∨ (s.gauge g).state ∈ [.unhomed, .fault] →
              profile = new.profile ∧ staged = none) ∧
            (¬(((s.gauge g).move = none ∧ (s.gauge g).homing = none) ∨ (s.gauge g).state ∈ [.unhomed, .fault]) →
              profile = (s.gauge g).profile ∧ staged = some new.profile)) ∧
          history = (if (s.cfg.gauges.get g).source = new.source ∧ (s.cfg.gauges.get g).calibration = new.calibration ∧
            (s.cfg.gauges.get g).damping = new.damping then (s.gauge g).history else []))

/-- O33 (tier 2). HOME GAUGE, PARK GAUGE, RELEASE GAUGE and POSITION GAUGE by the gauge's state (R49, R54, R56, R57), and
RANGE, with nothing changed, for an index outside 0-5. A park takes the configured rest position as it stands then, which
the model holds beside the configuration (R64, log entry 34). In PARKING a PARK GAUGE is accepted
and changes nothing further, whatever the gauge's state (R166); that this goes before the table of R54 there is the model's
reading, and so the model's choice (log entry 43). That an open coil faults the gauge as its homing begins rests on R58 with the input kept as a level, which is the model's
choice (log entry 26). -/
def Obligations.GaugeRequestsByGaugeState : Prop :=
  (∀ (tag b : Byte) (s : State), s.awake → 6 ≤ b.toNat →
    AnswersRange (.homeGauge tag [b]) s tag 0x21#8 ∧ AnswersRange (.parkGauge tag [b]) s tag 0x22#8 ∧
    (s.psc.state ≠ .parking → AnswersRange (.releaseGauge tag [b]) s tag 0x23#8) ∧
    ∀ hi lo, AnswersRange (.positionGauge tag [b, hi, lo]) s tag 0x24#8) ∧
  ∀ (tag b : Byte) (s : State) (g : Fin 6), s.awake → s.settled → b.toNat = g.val →
    (s.coilOpen.get g = false → Answers (.homeGauge tag [b]) s tag 0x21#8 .ok [] fun t =>
      s.sameBut t [.lp, .gdu] ∧ (∀ x, x ≠ g → t.gauge x = s.gauge x) ∧
      t.gauge g = { s.gauge g with
        state := .homing, faultDetail := none, position := none, move := none, following := none, parkPending := false
        homing := some ⟨(s.gaugeConfig g).homingMode, (s.gaugeConfig g).homeTravel, (s.gaugeConfig g).homingSpeed, 0,
          false⟩ }) ∧
    (s.coilOpen.get g = true → Answers (.homeGauge tag [b]) s tag 0x21#8 .ok [] fun t =>
      (t.gauge g).state = .fault ∧ (t.gauge g).faultDetail = some .coilOpen ∧ (t.gauge g).position = none ∧
      (t.gauge g).homing = none) ∧
    ((s.gauge g).state ∈ [.unhomed, .fault] →
      exec (.releaseGauge tag [b]) s = .next (beginReply tag 0x23#8 .state [] (goodFrame s))) ∧
    (s.psc.state = .parking → exec (.parkGauge tag [b]) s = .next (beginReply tag 0x22#8 .ok [] (goodFrame s))) ∧
    (s.psc.state ≠ .parking →
      ((s.gauge g).state ∈ [.unhomed, .fault] →
        exec (.parkGauge tag [b]) s = .next (beginReply tag 0x22#8 .state [] (goodFrame s))) ∧
      ((s.gauge g).state ∈ [.parking, .parked] →
        exec (.parkGauge tag [b]) s = .next (beginReply tag 0x22#8 .ok [] (goodFrame s))) ∧
      ((s.gauge g).state ∈ [.homing, .sweeping] → exec (.parkGauge tag [b]) s = .next (beginReply tag 0x22#8 .ok []
        ((goodFrame s).setGauge g { s.gauge g with parkPending := true }))) ∧
      ((s.gauge g).state ∈ [.tracking, .held, .resting, .test] →
        ((s.gauge g).position = some (s.gaugeConfig g).rest → (s.gauge g).move = none →
          Answers (.parkGauge tag [b]) s tag 0x22#8 .ok [] fun t =>
            t.gauge g = { s.gauge g with
              state := .parked, following := none, restTaken := (s.gaugeConfig g).rest } ∧
            (∀ x, x ≠ g → t.gauge x = s.gauge x) ∧ s.sameBut t [.lp, .gdu] ∧
            Reported .gaugeParked .stop g.val (s.gaugeConfig g).rest s t) ∧
        ((s.gauge g).position ≠ some (s.gaugeConfig g).rest ∨ (s.gauge g).move ≠ none →
          exec (.parkGauge tag [b]) s = .next (beginReply tag 0x22#8 .ok [] ((goodFrame s).setGauge g
            (Gauge.takeTarget (s.gaugeConfig g).rest { s.gauge g with
              state := .parking, following := none, restTaken := (s.gaugeConfig g).rest })))))) ∧
    (s.psc.state = .parking → exec (.releaseGauge tag [b]) s = .next (beginReply tag 0x23#8 .state [] (goodFrame s))) ∧
    (s.psc.state ≠ .parking →
      ((s.gauge g).state ∈ [.parked, .parking, .test] → exec (.releaseGauge tag [b]) s = .next (beginReply tag 0x23#8 .ok []
        ((goodFrame s).setGauge g { s.gauge g with state := .tracking, history := [] }))) ∧
      ((s.gauge g).state ∈ [.homing, .sweeping] → exec (.releaseGauge tag [b]) s = .next (beginReply tag 0x23#8 .ok []
        ((goodFrame s).setGauge g { s.gauge g with parkPending := false }))) ∧
      ((s.gauge g).state ∈ [.tracking, .held, .resting] →
        exec (.releaseGauge tag [b]) s = .next (beginReply tag 0x23#8 .ok []
          ((goodFrame s).setGauge g (s.gauge g))))) ∧
    ∀ hi lo : Byte,
      (hi.toNat * 256 + lo.toNat < (s.gaugeConfig g).calibration.minPos ∨
          (s.gaugeConfig g).calibration.maxPos < hi.toNat * 256 + lo.toNat →
        exec (.positionGauge tag [b, hi, lo]) s = .next (beginReply tag 0x24#8 .range [] (goodFrame s))) ∧
      ((s.gaugeConfig g).calibration.minPos ≤ hi.toNat * 256 + lo.toNat →
        hi.toNat * 256 + lo.toNat ≤ (s.gaugeConfig g).calibration.maxPos →
        ((s.gauge g).state ∈ [.unhomed, .homing, .fault] ∨ s.psc.state = .parking →
          exec (.positionGauge tag [b, hi, lo]) s = .next (beginReply tag 0x24#8 .state [] (goodFrame s))) ∧
        ((s.gauge g).state ∉ [.unhomed, .homing, .fault] → s.psc.state ≠ .parking →
          Answers (.positionGauge tag [b, hi, lo]) s tag 0x24#8 .ok [] fun t =>
            t.gauge g = Gauge.takeTarget (hi.toNat * 256 + lo.toNat)
              { s.gauge g with state := .test, parkPending := false } ∧
            (∀ x, x ≠ g → t.gauge x = s.gauge x) ∧ s.sameBut t [.lp, .gdu, .weu, .dtu, .anu, .psc]))

/-- O34 (tier 2). GAUGE_STEP: one microstep toward the move target, with the next speed the least of three, or the end
of the move with the staged profile, the move-end actions of the state and the following target (R42, R43, R45, R50,
R55), with the change of power state that this makes due and its POWER STATE record (R61, R164, R166, R172). A PARKING gauge is PARKED at the rest position
that its park took, and not at one configured since (R64), which the model holds beside the configuration (log entry 34).
That the change is made at once, that its POWER STATE comes before every other record of it, that the clock stays, and that a
gauge PARKED at the end of its move takes a following target that is held, are the model's choices (log entries 11, 12, 24 and
28). -/
def Obligations.MoveStepsAndEnds : Prop :=
  ∀ (g : Fin 6) (s : State) (p q : Nat) (m : Move) (r : Gauge), s.powered = true → s.settled → r = s.gauge g →
    r.position = some p → r.move = some m → m.target ≠ p → q = (if p < m.target then p + 1 else p - 1) →
    (q ≠ m.target → exec (.gaugeStep g) s = .next (s.setGauge g { r with
      position := some q
      move := some ⟨m.target, min (r.profile.maxSpeed * r.profile.maxSpeed) (min (m.speedSq + 2 * r.profile.accel)
        (2500 + 2 * r.profile.accel * ((if q < m.target then m.target - q else q - m.target) - 1)))⟩ })) ∧
    (q = m.target → r.state ∈ [.tracking, .held, .resting, .test] ∨ (r.state = .parking ∧ q ≠ r.restTaken) →
      exec (.gaugeStep g) s = .next (s.setGauge g { r with
        position := some q, profile := r.staged.getD r.profile, staged := none, following := none
        move := match r.following with
          | none => none
          | some f => if f = q then none else some ⟨f, 2500⟩ })) ∧
    (q = m.target → r.state = .parking → r.following = none → q = r.restTaken →
      ∃ t, exec (.gaugeStep g) s = .next t ∧ (t.gauge g).state = .parked ∧ (t.gauge g).position = some q ∧
        (t.gauge g).move = none ∧
        t.psc.state = (if s.psc.state = .parking ∧ t.gaugesParked = true then .sleep else s.psc.state) ∧
        (s.psc.state = .parking → t.gaugesParked = true → Reported .powerState .stop 0 0x0703 s t) ∧
        (s.cfg.routes.get 4 = .post → s.lp.queue.length < 32 →
          (⟨.gaugeParked, BitVec.ofNat 8 g.val, BitVec.ofNat 16 q, BitVec.ofNat 16 s.dtu.clock, false⟩ : Report) ∈
            t.lp.queue)) ∧
    (∀ f, q = m.target → r.state = .parking → r.following = some f → f ≠ q → q = r.restTaken →
      ∃ t, exec (.gaugeStep g) s = .next t ∧ (t.gauge g).state = .parked ∧ (t.gauge g).position = some q ∧
        (t.gauge g).following = none ∧ (s.psc.state ≠ .parking → (t.gauge g).move = some ⟨f, 2500⟩) ∧
        (t.psc.state = .sleep → s.psc.state = .parking → (t.gauge g).move = none)) ∧
    (q = m.target → r.state = .sweeping → r.sweepBack = false → r.following = none →
      q ≠ (s.gaugeConfig g).calibration.minPos → exec (.gaugeStep g) s = .next (s.setGauge g { r with
        position := some q, profile := r.staged.getD r.profile, staged := none, sweepBack := true
        move := some ⟨(s.gaugeConfig g).calibration.minPos, 2500⟩ })) ∧
    (q = m.target → r.state = .sweeping → r.sweepBack = true → r.following = none →
      ∃ t, exec (.gaugeStep g) s = .next t ∧
        (r.parkPending = false → s.psc.state ≠ .parking →
          t.gauge g = { r with
            state := .tracking, position := some q, move := none, profile := r.staged.getD r.profile, staged := none
            history := [] } ∧
          t.psc.state = (if s.psc.state = .proving ∧ s.psc.proof = .expired ∧ t.gaugesReady = true then .run
            else s.psc.state) ∧
          (s.psc.state = .proving → s.psc.proof = .expired → t.gaugesReady = true →
            ReportedFirst .powerState 2 0x0401 s t)) ∧
        (r.parkPending = true ∨ s.psc.state = .parking →
          (t.gauge g).state ∈ [.parking, .parked] ∧ (t.gauge g).parkPending = false))

/-- O35 (tier 2). HOMING_STEP: the search phase counts its travel and ends at the stall, at the end of the travel in
BLIND mode, or in FAULT; the final phase runs to the minimum position, where the homing completes with its report and
the state that R48 chooses (R46, R47, R48). The stall level as an operand and the clock that stays at a step are the
model's choices (log entries 10 and 24). -/
def Obligations.HomingSearchesAndCompletes : Prop :=
  ∀ (g : Fin 6) (stall : Bool) (s : State) (h : Homing) (r : Gauge) (least : Nat), s.powered = true → s.settled →
    r = s.gauge g → r.homing = some h → least = (s.gaugeConfig g).calibration.minPos →
    (h.final = false → h.used + 1 < h.travel → h.mode = .blind ∨ stall = false → exec (.homingStep g stall) s =
      .next (s.setGauge g { r with homing := some { h with used := h.used + 1 } })) ∧
    (h.final = false → h.mode = .stall → stall = false → h.travel ≤ h.used + 1 →
      ∃ t, exec (.homingStep g stall) s = .next t ∧ (t.gauge g).state = .fault ∧
        (t.gauge g).faultDetail = some .noStop ∧ (t.gauge g).position = none ∧ (t.gauge g).move = none ∧
        (t.gauge g).homing = none ∧ (t.gauge g).parkPending = false ∧
        (t.gauge g).profile = r.staged.getD r.profile ∧ (t.gauge g).staged = none) ∧
    (h.final = false → (h.mode = .stall ∧ stall = true) ∨ (h.mode = .blind ∧ h.travel ≤ h.used + 1) → least ≠ 0 →
      exec (.homingStep g stall) s = .next (s.setGauge g { r with
        position := some 0, homing := some { h with used := h.used + 1, final := true }
        profile := r.staged.getD r.profile, staged := none })) ∧
    (∀ p, h.final = true → r.position = some p → p + 1 < least → exec (.homingStep g stall) s =
      .next (s.setGauge g { r with position := some (p + 1) })) ∧
    ∀ p used, (h.final = true ∧ r.position = some p ∧ least = p + 1 ∧ used = h.used) ∨
        (h.final = false ∧ ((h.mode = .stall ∧ stall = true) ∨ (h.mode = .blind ∧ h.travel ≤ h.used + 1)) ∧ least = 0 ∧
          used = h.used + 1) →
      ∃ t, exec (.homingStep g stall) s = .next t ∧ (t.gauge g).homing = none ∧ (t.gauge g).position = some least ∧
        (r.parkPending = true ∨ s.psc.state = .parking →
          (t.gauge g).state ∈ [.parking, .parked] ∧ (t.gauge g).parkPending = false) ∧
        (r.parkPending = false → s.psc.state = .proving → (s.gaugeConfig g).sweepAtProof = true →
          (t.gauge g).state = .sweeping) ∧
        (r.parkPending = false → s.psc.state ≠ .parking →
          s.psc.state ≠ .proving ∨ (s.gaugeConfig g).sweepAtProof = false →
          (t.gauge g).state = .tracking ∧ (t.gauge g).history = []) ∧
        (s.cfg.routes.get 3 = .post → s.lp.queue.length < 32 →
          (⟨.gaugeHomed, BitVec.ofNat 8 g.val,
            BitVec.ofNat 16 (used % 8192 + (if h.mode = .blind then 32768 else 0)), BitVec.ofNat 16 s.dtu.clock, false⟩ :
            Report) ∈ t.lp.queue)

/-- O36 (tier 2). GAUGE_UPDATE acts by the gauge's state and whether its source is VALID (R51, R52, R53), in PARKING and
PARKED with the rest position as it is configured then (R55, R64, log entry 34), and COIL_OPEN sends a gauge whose coils
are driven to FAULT (R58). The time of a late update and the input kept as a level are the
model's choices (log entries 2 and 26). -/
def Obligations.UpdateActsByStateAndCoilOpenFaults : Prop :=
  ∀ (g : Fin 6) (s : State) (r : Gauge) (c : GaugeSettings), s.powered = true → s.settled → c = s.gaugeConfig g →
    (∀ (due : Nat) (value : Option Int), (s.gauge g).updateDue = some due → value = s.validValue c.source →
      r = { s.gauge g with updateDue := some (due + 20000) } →
      ∃ t, exec (.gaugeUpdate g) s = .next t ∧ t.now = max s.now due ∧ (∀ x, x ≠ g → t.gauge x =
          if t.psc.state = .sleep ∧ s.psc.state ≠ .sleep then
            { s.gauge x with updateDue := none, move := none, following := none }
          else s.gauge x) ∧
        (r.state ∉ [.parking, .parked] → s.sameBut t [.now, .gdu]) ∧
        (r.state ∈ [.unhomed, .homing, .sweeping, .test, .fault] → t.gauge g = r) ∧
        (∀ v, value = some v → r.state ∈ [.tracking, .held, .resting] → ∃ history damped,
          history = (if r.state = .tracking then
              (r.history ++ [c.calibration.map v]).drop ((r.history ++ [c.calibration.map v]).length - c.damping)
            else [c.calibration.map v].drop (1 - c.damping)) ∧
          damped = history.sum / history.length ∧
          (∀ p, r.state = .tracking → r.position = some p → r.move = none →
            (p ≤ damped + c.deadband ∧ damped ≤ p + c.deadband) → t.gauge g = { r with history := history }) ∧
          (r.state ≠ .tracking ∨ r.move ≠ none ∨ (∀ p, r.position = some p →
              ¬(p ≤ damped + c.deadband ∧ damped ≤ p + c.deadband)) →
            t.gauge g = Gauge.takeTarget damped { r with state := .tracking, history := history })) ∧
        (value = none → c.invalid = .park → r.state ∈ [.tracking, .held] →
          t.gauge g = Gauge.takeTarget c.rest { r with state := .resting }) ∧
        (value = none → c.invalid = .hold → r.state ∈ [.tracking, .resting] →
          (r.move = none → t.gauge g = { r with state := .held, following := none }) ∧
          ∀ p m, r.position = some p → r.move = some m → t.gauge g = { r with
            state := .held, following := none
            move := some ⟨if p < m.target then p + stoppingDistance r.profile.accel m.speedSq
              else p - stoppingDistance r.profile.accel m.speedSq, m.speedSq⟩ }) ∧
        (value = none → c.invalid = .hold → r.state = .held → t.gauge g = r) ∧
        (value = none → c.invalid = .park → r.state = .resting →
          t.gauge g = if r.move.map Move.target = some c.rest then r else Gauge.takeTarget c.rest r) ∧
        (r.state = .parked → r.position = some c.rest → t.gauge g = r) ∧
        (∀ p, r.state = .parked → r.position = some p → p ≠ c.rest → r.move = none →
          t.gauge g = { r with
            state := .parking, following := none, move := some ⟨c.rest, 2500⟩, restTaken := c.rest }) ∧
        (∀ p, r.state = .parking → r.position = some p → p ≠ c.rest ∨ r.move ≠ none →
          t.gauge g = if r.move.map Move.target = some c.rest then { r with restTaken := c.rest }
            else Gauge.takeTarget c.rest { r with restTaken := c.rest }) ∧
        (r.state = .parking → r.position = some c.rest → r.move = none →
          (t.gauge g).state = .parked ∧ (t.gauge g).position = some c.rest ∧
          Reported .gaugeParked .stop g.val c.rest s t)) ∧
    (s.psc.state ≠ .sleep → (s.gauge g).state ∉ [.unhomed, .fault] →
      ∃ t, exec (.coilOpen g true) s = .next t ∧ t.coilOpen = s.coilOpen.set g true ∧ (t.gauge g).state = .fault ∧
        (t.gauge g).faultDetail = some .coilOpen ∧ (t.gauge g).position = none ∧ (t.gauge g).move = none ∧
        (t.gauge g).following = none ∧ (t.gauge g).homing = none ∧ (t.gauge g).parkPending = false ∧
        (t.gauge g).staged = none ∧ (t.gauge g).profile = (s.gauge g).staged.getD (s.gauge g).profile ∧
        ∀ urgent, s.cfg.routes.get 5 = (if urgent = true then .urgent else .post) → s.lp.queue.length < 32 →
          (⟨.gaugeFault, BitVec.ofNat 8 g.val, 1, BitVec.ofNat 16 s.dtu.clock, urgent⟩ : Report) ∈ t.lp.queue) ∧
    (s.psc.state = .sleep ∨ (s.gauge g).state ∈ [.unhomed, .fault] → ∀ active,
      exec (.coilOpen g active) s = .next (s.setCoilOpen (s.coilOpen.set g active))) ∧
    exec (.coilOpen g false) s = .next (s.setCoilOpen (s.coilOpen.set g false))

/-! ### The Warning Evaluation Unit (chapters 4 and 5) -/

/-- O37 (tier 2). The grade of a VALID value by the seven cases of R67 in their order; a STATUS term reads 255 when the
quantity's status is in its set and 0 otherwise, whatever the value (R71); a shape whose quantity is NONE or not VALID
gives its invalid grade, whatever the value (R68). -/
def Obligations.GradesAndStatusTerms : Prop :=
  (∀ (s : State) (k : Fin 32) (q : Fin 48) (f : Shape) (v : Int), f = s.weu.inForce.get k → f.quantity = some q →
    (s.entry q).status = .valid → v = (s.entry q).value → f.a ≤ f.b → f.b ≤ f.c → f.c ≤ f.d →
    (f.b ≤ v ∧ v ≤ f.c → s.gradeOf k = 255) ∧
    (v < f.b → f.openLow = true → s.gradeOf k = 255) ∧
    (f.c < v → f.openHigh = true → s.gradeOf k = 255) ∧
    (v < f.b → f.openLow = false → v ≤ f.a → s.gradeOf k = 0) ∧
    (f.c < v → f.openHigh = false → f.d ≤ v → s.gradeOf k = 0) ∧
    (f.a < v → v < f.b → f.openLow = false → (s.gradeOf k : Int) = 255 * (v - f.a) / (f.b - f.a)) ∧
    (f.c < v → v < f.d → f.openHigh = false → (s.gradeOf k : Int) = 255 * (f.d - v) / (f.d - f.c))) ∧
  ∀ (s : State),
    (∀ (q : Fin 48) (among : List QStatus),
      ((s.entry q).status ∈ among → s.termValue ⟨.status q among, false⟩ = 255 ∧
        s.termValue ⟨.status q among, true⟩ = 0) ∧
      ((s.entry q).status ∉ among → s.termValue ⟨.status q among, false⟩ = 0 ∧
        s.termValue ⟨.status q among, true⟩ = 255)) ∧
    ∀ f : Fin 32, (∀ q, (s.weu.inForce.get f).quantity = some q → (s.entry q).status ≠ .valid) →
      s.gradeOf f = (s.weu.inForce.get f).invalid

/-- O38 (tier 2). The evaluation: CONFIGURE CRITERION, with RANGE for a body that cannot be read, and CONFIGURE
EVALUATION, the start of a pass with the shapes put in force, and the end of a criterion's evaluation, which reads the
terms that have not been read and stores the strength record (R69, R74, R75, R76, R77, R79, R80, R81). The moments of the
term reads, the time of a late event, the coding of the interval in steps of 10 ms and the RANGE for a term whose kind byte
has one of its bits 3-6 set are the model's choices (log entries 14, 2, 29 and 35). -/
def Obligations.PassesEvaluateTheCriteria : Prop :=
  (∀ (tag : Byte) (body : List Byte) (s : State), s.configurable → criterionBodyFits body = true →
    readCriterion body = none ∨ 48 ≤ byteAt body 0 → AnswersRange (.configureCriterion tag body) s tag 0x29#8) ∧
  (∀ (tag : Byte) (body : List Byte) (s : State) (w : Fin 48) (c : Criterion), s.configurable →
    criterionBodyFits body = true → readCriterion body = some (w, c) →
    Answers (.configureCriterion tag body) s tag 0x29#8 .ok [] fun t =>
      t.cfg = { s.cfg with criteria := s.cfg.criteria.set w c } ∧
      t.weu.strengths = s.weu.strengths.set w ⟨false, 0, [], [], 0⟩ ∧
      t.weu.pass = s.weu.pass.map (fun p => if p.criterion = w then { p with replaced := true } else p) ∧
      ((s.warning w).state ∈ [.off, .disabled] → t.weu.warnings = s.weu.warnings ∧ s.sameBut t [.cfg, .lp, .weu]) ∧
      ((s.warning w).state ∉ [.off, .disabled] → (t.warning w).state = .off ∧ (t.warning w).mark = .none ∧
        Reported .warningEnded .stop w.val 3 s t)) ∧
  (∀ (tag b : Byte) (s : State), s.configurable →
    (2 ≤ b.toNat → b.toNat ≤ 50 → exec (.configureEvaluation tag [b]) s = .next (beginReply tag 0x2A#8 .ok []
      (((goodFrame s).setCfg { s.cfg with evalInterval := b.toNat * 10 }).setWeu
        { s.weu with evalDue := some (s.now + b.toNat * 10000) }))) ∧
    (b.toNat < 2 ∨ 50 < b.toNat →
      exec (.configureEvaluation tag [b]) s = .next (beginReply tag 0x2A#8 .range [] (goodFrame s)))) ∧
  ∀ s : State, s.powered = true →
    (∀ due, s.weu.evalDue = some due → s.weu.pass = none → exec .passStart s = .next
      ((s.setNow (max s.now due)).setWeu { s.weu with
        evalDue := some (due + s.cfg.evalInterval * 1000), inForce := s.cfg.shapes, passCount := s.weu.passCount + 1
        pass := some ⟨0, max s.now due + 20, false, []⟩ })) ∧
    ∀ (p : Pass) (next : Option Pass), s.weu.pass = some p →
      (p.criterion.val = 47 → next = none) →
      (∀ h : p.criterion.val + 1 < 48, next = some ⟨⟨p.criterion.val + 1, h⟩, max s.now p.due + 20, false, []⟩) →
      (p.replaced = true → exec .criterionEvaluation s = .next
        ((s.setNow (max s.now p.due)).setWeu { s.weu with pass := next })) ∧
      (p.replaced = false → p.read.length ≤ (s.cfg.criteria.get p.criterion).flatten.length →
        ∃ t terms clauses strength, exec .criterionEvaluation s = .next t ∧
        t.now = max s.now p.due ∧ t.weu.pass = next ∧
        terms.map List.length = (s.cfg.criteria.get p.criterion).map List.length ∧
        terms.flatten = p.read ++ ((s.cfg.criteria.get p.criterion).flatten.drop p.read.length).map s.termValue ∧
        (p.read = [] → terms = (s.cfg.criteria.get p.criterion).map (fun clause => clause.map s.termValue)) ∧
        clauses = terms.map (fun values => values.foldl min 255) ∧ strength = clauses.foldl max 0 ∧
        t.weu.strengths = s.weu.strengths.set p.criterion ⟨true, strength, clauses, terms, s.weu.passCount⟩ ∧
        t = actOnStrength p.criterion strength
          ((s.setNow (max s.now p.due)).setWeu { s.weu with
            pass := next
            strengths := s.weu.strengths.set p.criterion ⟨true, strength, clauses, terms, s.weu.passCount⟩ }))

/-- O39 (tier 2). What a warning does with the strength handed to it, by its state, with WARNING ENDED, detail STRENGTH, at
an end that does not latch and no report at one that does (R86, R89). What the entry to ACTIVE_NEW does is O41's. -/
def Obligations.WarningActsOnItsStrength : Prop :=
  ∀ (w : Fin 48) (strength : Nat) (s t : State) (c : WarnSettings) (r : Warning), t = actOnStrength w strength s →
    c = s.cfg.warnings.get w → r = s.warning w → c.clearLevel < c.raiseLevel →
    (r.state ∈ [.disabled, .suppressed] → t = s) ∧
    (r.state = .off → strength < c.raiseLevel → t = s) ∧
    (r.state = .off → c.raiseLevel ≤ strength → c.raiseDelay ≠ 0 →
      t.warning w = { r with state := .rising, raiseDue := some (s.now + c.raiseDelay * 1000) }) ∧
    (r.state = .off → c.raiseLevel ≤ strength → c.raiseDelay = 0 → t = enterActiveNew w false s) ∧
    (r.state = .rising → c.raiseLevel ≤ strength → t = s) ∧
    (r.state = .rising → strength < c.raiseLevel → t.lp = s.lp ∧ t.anu = s.anu ∧
      t.warning w = { r with state := .off, acknowledged := false, raiseDue := none, reminderDue := none }) ∧
    (r.state ∈ [.activeNew, .activeSeen] → c.clearLevel < strength → t = s) ∧
    (r.state ∈ [.activeNew, .activeSeen] → strength ≤ c.clearLevel → c.latching = true →
      (t.warning w).state = .latched ∧ (t.warning w).acknowledged = r.acknowledged ∧ (t.warning w).reminderDue = none ∧
      (r.mark = .reminder → (t.warning w).mark = .none) ∧
      (r.mark ≠ .reminder → (t.warning w).mark = r.mark ∧ t.lp = s.lp ∧ t.anu = s.anu)) ∧
    (r.state ∈ [.activeNew, .activeSeen] → strength ≤ c.clearLevel → c.latching = false →
      t.warning w = ⟨.off, false, none, none, .none⟩ ∧ Reported .warningEnded .stop w.val 0 s t) ∧
    (r.state = .latched → strength < c.raiseLevel → t = s) ∧
    (r.state = .latched → c.raiseLevel ≤ strength → r.acknowledged = true → t.lp = s.lp ∧ t.anu = s.anu ∧
      (t.warning w).state = .activeSeen ∧ (t.warning w).acknowledged = true) ∧
    (r.state = .latched → c.raiseLevel ≤ strength → r.acknowledged = false → t = enterActiveNew w true s)

/-- O40 (tier 2). The requests on one warning by its state: ACKNOWLEDGE WARNING, CLEAR WARNING, SUPPRESS WARNING,
RESTORE WARNING and CONFIGURE WARNING (R92 to R96), with WARNING ENDED and its detail CLEARED, SUPPRESSED or RECONFIGURED
where the rule posts it and no report where it does not; RANGE, with nothing changed, for an index outside 0-47 and for a
configuration that cannot be read. -/
def Obligations.WarningRequestsByState : Prop :=
  (∀ (tag b : Byte) (s : State), s.awake → 48 ≤ b.toNat →
    AnswersRange (.acknowledgeWarning tag [b]) s tag 0x31#8 ∧ AnswersRange (.clearWarning tag [b]) s tag 0x32#8 ∧
    AnswersRange (.suppressWarning tag [b]) s tag 0x33#8 ∧ AnswersRange (.restoreWarning tag [b]) s tag 0x34#8) ∧
  (∀ (tag : Byte) (body : List Byte) (s : State), s.configurable → body.length = 11 →
    readWarnSettings body = none ∨ 48 ≤ byteAt body 0 → AnswersRange (.configureWarning tag body) s tag 0x30#8) ∧
  ∀ (tag b : Byte) (s : State) (w : Fin 48) (r : Warning), s.awake → b.toNat = w.val → r = s.warning w →
    (r.state ∈ [.off, .rising, .disabled, .suppressed] →
      exec (.acknowledgeWarning tag [b]) s = .next (beginReply tag 0x31#8 .conflict [] (goodFrame s))) ∧
    (r.state = .activeNew → Answers (.acknowledgeWarning tag [b]) s tag 0x31#8 .ok [] fun t =>
      t.warning w = { r with state := .activeSeen, acknowledged := true, mark := .none, reminderDue := s.reminderStart w } ∧
      s.sameBut t [.lp, .weu, .dtu, .anu]) ∧
    (r.state = .activeSeen → Answers (.acknowledgeWarning tag [b]) s tag 0x31#8 .ok [] fun t =>
      t.warning w = { r with mark := .none } ∧ s.sameBut t [.lp, .weu, .dtu, .anu]) ∧
    (r.state = .latched → Answers (.acknowledgeWarning tag [b]) s tag 0x31#8 .ok [] fun t =>
      t.warning w = (if r.acknowledged = true then r else { r with acknowledged := true, mark := .none }) ∧
      s.sameBut t [.lp, .weu, .dtu, .anu]) ∧
    (r.state = .latched → Answers (.clearWarning tag [b]) s tag 0x32#8 .ok [] fun t =>
      t.warning w = ⟨.off, false, none, none, .none⟩ ∧ Reported .warningEnded .stop w.val 1 s t ∧
      s.sameBut t [.lp, .weu, .dtu, .anu]) ∧
    (r.state ∈ [.off, .disabled, .suppressed] →
      exec (.clearWarning tag [b]) s = .next (beginReply tag 0x32#8 .ok [] (goodFrame s))) ∧
    (r.state ∈ [.rising, .activeNew, .activeSeen] →
      exec (.clearWarning tag [b]) s = .next (beginReply tag 0x32#8 .conflict [] (goodFrame s))) ∧
    (r.state = .disabled →
      exec (.suppressWarning tag [b]) s = .next (beginReply tag 0x33#8 .conflict [] (goodFrame s))) ∧
    (r.state = .suppressed → exec (.suppressWarning tag [b]) s = .next (beginReply tag 0x33#8 .ok [] (goodFrame s))) ∧
    (r.state ∉ [.disabled, .suppressed] → Answers (.suppressWarning tag [b]) s tag 0x33#8 .ok [] fun t =>
      t.warning w = ⟨.suppressed, false, none, none, .none⟩ ∧ s.sameBut t [.lp, .weu, .dtu, .anu] ∧
      (r.state ∈ [.activeNew, .activeSeen, .latched] → Reported .warningEnded .stop w.val 2 s t) ∧
      (r.state ∈ [.off, .rising] → r.mark = .none →
        t.lp.queue = (goodFrame s).lp.queue ∧ t.lp.held = s.lp.held ∧ s.sameBut t [.lp, .weu])) ∧
    (r.state = .suppressed → Answers (.restoreWarning tag [b]) s tag 0x34#8 .ok [] fun t =>
      t.warning w = { r with state := .off, acknowledged := false } ∧ t.lp.queue = (goodFrame s).lp.queue ∧
      t.lp.held = s.lp.held ∧ s.sameBut t [.lp, .weu]) ∧
    (r.state ≠ .suppressed →
      exec (.restoreWarning tag [b]) s = .next (beginReply tag 0x34#8 .conflict [] (goodFrame s))) ∧
    ∀ body c, s.saving = false → body.length = 11 → readWarnSettings body = some (w, c) →
      Answers (.configureWarning tag body) s tag 0x30#8 .ok [] fun t =>
        t.cfg = { s.cfg with warnings := s.cfg.warnings.set w c } ∧
        (t.warning w).state = (if c.enabled = true then .off else .disabled) ∧ (t.warning w).acknowledged = false ∧
        (t.warning w).raiseDue = none ∧ (t.warning w).reminderDue = none ∧ s.sameBut t [.cfg, .lp, .weu, .dtu, .anu] ∧
        (r.state ∉ [.off, .disabled] → Reported .warningEnded .stop w.val 3 s t) ∧
        (r.state ∈ [.off, .disabled] →
          t.lp.queue = (goodFrame s).lp.queue ∧ t.lp.held = s.lp.held ∧ s.sameBut t [.cfg, .lp, .weu])

/-- O41 (tier 2). The entry to ACTIVE_NEW hands on WARNING RAISED with the class, the origin and whether an announcement is
offered, offers the announcement where the warning has a message and its mark is not NORMAL, and re-judges the lamp (R88).
RAISE_DELAY_EXPIRY is that entry (R87), and REMINDER_EXPIRY offers a REMINDER and starts its timer again (R91). The time
of a late expiry is the model's choice (log entry 2). -/
def Obligations.RaiseDelayAndReminderExpire : Prop :=
  (∀ (w : Fin 48) (fromLatched offered : Bool) (s u : State) (c : WarnSettings), c = s.cfg.warnings.get w →
    (offered = true ↔ c.message ≠ none ∧ (s.warning w).mark ≠ .normal) →
    u = handWith c.cls offered .warningRaised w.val
      (code WarnClass.list c.cls + (if fromLatched = true then 4 else 0) + (if offered = true then 8 else 0))
      (s.setWarning w
        { s.warning w with state := .activeNew, acknowledged := false, raiseDue := none, reminderDue := none }) →
    (offered = false → enterActiveNew w fromLatched s = judgeLampOf w u) ∧
    ∀ m, offered = true → c.message = some m → enterActiveNew w fromLatched s = judgeLampOf w
      (offer ⟨.warning w, c.cls.announced, m, c.chime, .normal⟩ (u.setWarning w { u.warning w with mark := .normal }))) ∧
  ∀ (w : Fin 48) (s : State) (c : WarnSettings), s.powered = true → c = s.cfg.warnings.get w →
    (∀ due, (s.warning w).raiseDue = some due → ∃ t, exec (.raiseDelayExpiry w) s = .next t ∧ t.now = max s.now due ∧
      (t.warning w).state = .activeNew ∧ (t.warning w).acknowledged = false ∧ (t.warning w).raiseDue = none ∧
      (t.warning w).reminderDue = none ∧ s.sameBut t [.now, .lp, .weu, .dtu, .anu] ∧
      Reported .warningRaised c.cls w.val (code WarnClass.list c.cls +
        (if c.message ≠ none ∧ (s.warning w).mark ≠ .normal then 8 else 0)) s t ∧
      (c.message = none ∨ (s.warning w).mark = .normal → t.anu = s.anu ∧ (t.warning w).mark = (s.warning w).mark) ∧
      (∀ m, c.message = some m → (s.warning w).mark ≠ .normal → s.anu.queue = [] → s.anu.shown = none →
        (t.warning w).mark = .normal ∧ ∃ e ∈ t.anu.entries, e.source = .warning w ∧ e.message = m ∧
          e.cls = c.cls.announced ∧ e.chime = c.chime ∧ e.kind = .normal)) ∧
    ∀ due m, (s.warning w).reminderDue = some due → c.message = some m → ∃ t, exec (.reminderExpiry w) s = .next t ∧
      t.now = max s.now due ∧ (t.warning w).state = (s.warning w).state ∧
      (t.warning w).reminderDue = some (t.now + c.reminder * 60000000) ∧ s.sameBut t [.now, .lp, .weu, .dtu, .anu] ∧
      (s.anu.queue = [] → s.anu.shown = none → (t.warning w).mark = .reminder ∧
        ∃ e ∈ t.anu.entries, e.source = .warning w ∧ e.message = m ∧ e.kind = .reminder)

/-- O42 (tier 2). The drive level re-read at a lamp sample: the dimmer quantity's value held within 0 and 100, and 100
while the quantity is NONE or not VALID (R102). -/
def Obligations.DriveLevelFollowsTheDimmer : Prop :=
  ∀ (openLoads : BitVec 32) (s : State) (due : Nat), s.powered = true → s.weu.lampDue = some due →
    ∃ t, exec (.lampSample openLoads) s = .next t ∧
      (∀ q, s.cfg.dimmer = some q → (s.entry q).status = .valid →
        (t.weu.driveLevel : Int) = max 0 (min 100 (s.entry q).value)) ∧
      (∀ q, s.cfg.dimmer = some q → (s.entry q).status ≠ .valid → t.weu.driveLevel = 100) ∧
      (s.cfg.dimmer = none → t.weu.driveLevel = 100) ∧
      (t.weu.driveLevel = 0 → t.weu.lamps = s.weu.lamps ∧ ∀ l, t.energised l = false)

/-- O43 (tier 2). The lamps: the drive table of R100 line by line, CONFIGURE LAMP, with RANGE for a field that its rule
does not allow, and SET LAMPS, its pairs carried out one after another with one result each (R103, R106), the flash clock (R100) and the open-load samples of the energised lamps, with
LAMP OPEN and LAMP RECOVERED that carry the lamp's mode (R104, R105). The pairs of SET LAMPS without a count, the time of
a late event and the order of the records of one sample expiry are the model's choices (log entries 16, 2 and 36). -/
def Obligations.LampsAreDrivenFlashedAndSampled : Prop :=
  (∀ (s : State) (l : Fin 32), (s.psc.state = .sleep → s.driveOf l = .dark) ∧
    (s.psc.state = .proving → (s.cfg.lamps.get l).proved = true → s.driveOf l = .steady) ∧
    (s.psc.state ≠ .sleep → s.psc.state ≠ .proving ∨ (s.cfg.lamps.get l).proved = false →
      ((s.cfg.lamps.get l).mode = .off → s.driveOf l = .dark) ∧
      ((s.cfg.lamps.get l).mode = .host →
        ((s.lamp l).hostLevel = .off → s.driveOf l = .dark) ∧ ((s.lamp l).hostLevel = .on → s.driveOf l = .steady) ∧
        ((s.lamp l).hostLevel = .flashing → s.driveOf l = .flashing)) ∧
      ((s.cfg.lamps.get l).mode = .rule →
        (s.driveOf l = .flashing ↔ ∃ w, (s.cfg.warnings.get w).lamp = some l ∧ (s.cfg.warnings.get w).cls = .stop ∧
          ((s.warning w).state = .activeNew ∨
            ((s.warning w).state = .latched ∧ (s.warning w).acknowledged = false))) ∧
        (s.driveOf l = .dark ↔ ∀ w, (s.cfg.warnings.get w).lamp = some l →
          (s.warning w).state ∉ [.activeNew, .activeSeen, .latched])))) ∧
  (∀ (tag index mode proved : Byte) (s : State), s.configurable →
    32 ≤ index.toNat ∨ 3 ≤ mode.toNat ∨ 2 ≤ proved.toNat →
    AnswersRange (.configureLamp tag [index, mode, proved]) s tag 0x36#8) ∧
  (∀ (tag : Byte) (body : List Byte) (s : State) (l : Fin 32) (c : LampSettings), s.configurable → body.length = 3 →
    readLampSettings body = some (l, c) → Answers (.configureLamp tag body) s tag 0x36#8 .ok [] fun t =>
      t.cfg = { s.cfg with lamps := s.cfg.lamps.set l c } ∧ s.sameBut t [.cfg, .lp, .weu] ∧
      (t.lamp l).hostLevel = (if (s.cfg.lamps.get l).mode = c.mode then (s.lamp l).hostLevel else .off) ∧
      (t.lamp l).drive = t.driveOf l ∧ (t.lamp l).isOpen = (s.lamp l).isOpen ∧
      (t.lamp l).openRun = (if t.driveOf l = .dark then 0 else (s.lamp l).openRun) ∧ ∀ x, x ≠ l → t.lamp x = s.lamp x) ∧
  (∀ (tag : Byte) (body : List Byte) (s : State), s.awake → body.length % 2 = 0 → 2 ≤ body.length → body.length ≤ 64 →
    exec (.setLamps tag body) s =
      .next (beginReply tag 0x38#8 .ok (applyLampPairs body (goodFrame s)).2 (applyLampPairs body (goodFrame s)).1) ∧
    (applyLampPairs body (goodFrame s)).2.length = body.length / 2) ∧
  (∀ (index level : Byte) (rest : List Byte) (s : State), ∃ t status, applyLampPair index level s = (t, status) ∧
    applyLampPairs (index :: level :: rest) s = ((applyLampPairs rest t).1, status.code :: (applyLampPairs rest t).2)) ∧
  (∀ (index level : Byte) (s : State), (32 ≤ index.toNat ∨ 3 ≤ level.toNat → applyLampPair index level s = (s, .range)) ∧
    ∀ (l : Fin 32) (h : HostLevel), index.toNat = l.val → readEnum HostLevel.list level.toNat = some h →
      ((s.cfg.lamps.get l).mode ≠ .host → applyLampPair index level s = (s, .conflict)) ∧
      ((s.cfg.lamps.get l).mode = .host → ∃ t, applyLampPair index level s = (t, .ok) ∧ (t.lamp l).hostLevel = h ∧
        (t.lamp l).drive = t.driveOf l ∧ (∀ x, x ≠ l → t.lamp x = s.lamp x) ∧ s.sameBut t [.weu])) ∧
  ∀ s : State, s.powered = true →
    (∀ f, s.weu.flash = some f → exec .flashHalfChange s = .next ((s.setNow (max s.now f.due)).setWeu
      { s.weu with flash := some ⟨!f.onHalf, f.due + 500000⟩ })) ∧
    ∀ (openLoads : BitVec 32) (due : Nat), s.weu.lampDue = some due → ∃ t, exec (.lampSample openLoads) s = .next t ∧
      t.now = max s.now due ∧ t.weu.lampDue = some (due + 200000) ∧ s.sameBut t [.now, .lp, .weu] ∧
      t.weu.flash = s.weu.flash ∧ t.weu.warnings = s.weu.warnings ∧
      ∀ l, (t.energised l = false → t.lamp l = s.lamp l) ∧
        (t.energised l = true →
          ((s.lamp l).isOpen = false → openLoads.getLsbD l.val = false → t.lamp l = { s.lamp l with openRun := 0 }) ∧
          ((s.lamp l).isOpen = false → openLoads.getLsbD l.val = true → (s.lamp l).openRun = 0 →
            t.lamp l = { s.lamp l with openRun := 1 }) ∧
          ((s.lamp l).isOpen = false → openLoads.getLsbD l.val = true → 1 ≤ (s.lamp l).openRun →
            t.lamp l = { s.lamp l with openRun := 2, isOpen := true } ∧
            Reported .lampOpen .stop l.val (code LampMode.list (s.cfg.lamps.get l).mode) s t) ∧
          ((s.lamp l).isOpen = true → openLoads.getLsbD l.val = true → t.lamp l = s.lamp l) ∧
          ((s.lamp l).isOpen = true → openLoads.getLsbD l.val = false →
            t.lamp l = { s.lamp l with openRun := 0, isOpen := false } ∧
            Reported .lampRecovered .stop l.val (code LampMode.list (s.cfg.lamps.get l).mode) s t))

/-! ### The Duty Time Unit (chapter 6) -/

/-- O44 (tier 2). Steps 1 to 4 of a slot's accounting: the pending activity becomes current and its day total gains 1,
the driving counters and the runs advance, and the pause run earns break credit (R120, R121, R122). Steps 5 and 6: the
day start with the loading of a staged limit set, and the week start, each made once in a rest run that reaches its
length (R123, R124). That a day total stops at its limit is the model's choice (log entry 31). -/
def Obligations.AccountingAdvancesTheSlot : Prop :=
  (∀ (l : LimitSet) (x t : Slot) (a : Activity), t = x.minute l → a = x.pending.getD x.activity →
    t.activity = a ∧ t.pending = none ∧ t.superseded = false ∧ t.card = x.card ∧ t.staged = x.staged ∧
    t.tracks = x.tracks ∧ t.dayBase = x.dayBase ∧ t.dayStart = x.dayStart ∧
    t.totals.driving = (if a = .driving then min 4294967295 (x.totals.driving + 1) else x.totals.driving) ∧
    t.totals.work = (if a = .work then min 4294967295 (x.totals.work + 1) else x.totals.work) ∧
    t.totals.available = (if a = .available then min 4294967295 (x.totals.available + 1) else x.totals.available) ∧
    t.totals.rest = (if a = .rest then min 4294967295 (x.totals.rest + 1) else x.totals.rest) ∧
    t.totals.unknown = (if a = .unknown then min 4294967295 (x.totals.unknown + 1) else x.totals.unknown) ∧
    t.daily = (if a = .driving then min 65535 (x.daily + 1) else x.daily) ∧
    t.weekly = (if a = .driving then min 65535 (x.weekly + 1) else x.weekly) ∧
    t.pauseRun = (if a = .available ∨ a = .rest then min 65535 (x.pauseRun + 1) else 0) ∧
    t.restRun = (if a = .rest then min 65535 (x.restRun + 1) else 0) ∧
    t.dayClosed = (if a = .rest then x.dayClosed else false) ∧ t.weekClosed = (if a = .rest then x.weekClosed else false) ∧
    (a ≠ .available → a ≠ .rest → t.segmentMark = false ∧ t.credit = x.credit ∧
      t.continuous = (if a = .driving then min 65535 (x.continuous + 1) else x.continuous)) ∧
    (a = .available ∨ a = .rest → x.segmentMark = false → t.pauseRun < l.breakSegment →
      t.segmentMark = false ∧ t.credit = x.credit ∧ t.continuous = x.continuous) ∧
    ∀ earned, (a = .available ∨ a = .rest) →
      (x.segmentMark = true ∧ earned = 1) ∨
        (x.segmentMark = false ∧ l.breakSegment ≤ t.pauseRun ∧ earned = l.breakSegment) →
      t.segmentMark = true ∧
      (x.credit + earned < l.breakLength → t.credit = x.credit + earned ∧ t.continuous = x.continuous) ∧
      (l.breakLength ≤ x.credit + earned → t.credit = 0 ∧ t.continuous = 0)) ∧
  ∀ (i : Fin 2) (s : State) (x : Slot), x = s.slot i →
    (x.restRun < (s.limits i).dailyRest ∨ x.dayClosed = true → dayStart i s = s) ∧
    ((s.limits i).dailyRest ≤ x.restRun → x.dayClosed = false → ∃ u,
      u = hand .dutyDayStart (i.val + 1) x.daily (s.setSlot i { x with
        daily := 0, continuous := 0, credit := 0, totals := ⟨0, 0, 0, 0, 0⟩, dayBase := 0, dayStart := s.dtu.clock
        dayClosed := true }) ∧
      (x.staged = none → dayStart i s = u) ∧
      ∀ l, x.staged = some l → dayStart i s = hand .dutyLimitsLoaded (i.val + 1) 0
        ((u.setCfg { s.cfg with duty := { s.cfg.duty with limits := s.cfg.duty.limits.set i l } }).setSlot i
          { u.slot i with staged := none })) ∧
    (x.restRun < (s.limits i).weeklyRest ∨ x.weekClosed = true → weekStart i s = s) ∧
    ((s.limits i).weeklyRest ≤ x.restRun → x.weekClosed = false →
      weekStart i s = hand .dutyWeekStart (i.val + 1) x.weekly (s.setSlot i { x with weekly := 0, weekClosed := true }))

/-- O45 (tier 2). The stage of a counter, and what a recomputation does to a track whose stage is the same, has risen or
has fallen: its acknowledged mark, its announcement mark and entry, and DUTY STAGE (R125, R126, R127). -/
def Obligations.StagesRiseAndFall : Prop :=
  (∀ limit margin counter : Nat,
    (counter + margin < limit → stageOf limit margin counter = .normal) ∧
    (limit ≤ counter + margin → counter < limit → stageOf limit margin counter = .prewarn) ∧
    (counter = limit → stageOf limit margin counter = .limit) ∧
    (limit < counter → stageOf limit margin counter = .exceeded)) ∧
  ∀ (i : Fin 2) (k : Track) (s t : State) (old new : Stage), t = recomputeTrack i k s → old = (s.track i k).stage →
    new = stageOf ((s.limits i).limit k) ((s.limits i).margin k) ((s.slot i).counter k) →
    (new = old → t = s) ∧
    (new ≠ old → (t.track i k).stage = new ∧ s.sameBut t [.lp, .weu, .dtu, .anu] ∧
      (∀ j, t.slot j = { s.slot j with tracks := (t.slot j).tracks }) ∧
      ∃ u, t = hand .dutyStage (i.val + 1) (code Track.list k + 16 * old.rank + 256 * new.rank) u) ∧
    (new.rank < old.rank → (t.track i k).offered = false ∧ (t.track i k).acknowledged = decide (new ≠ .normal)) ∧
    (old.rank < new.rank → (t.track i k).acknowledged = false ∧
      (s.psc.state = .sleep ∨ s.dutyOffer i k new = none → (t.track i k).offered = false) ∧
      ∀ o, s.psc.state ≠ .sleep → s.dutyOffer i k new = some o → s.anu.queue.length < 16 →
        (t.track i k).offered = true ∧
        ∃ e ∈ t.anu.entries, e.source = .duty i k ∧ e.message = o.message ∧ e.chime = o.chime)

/-- O46 (tier 2). MINUTE_EXPIRY: the duty clock gains 1, an EMPTY slot is left alone, a PRESENT slot is accounted
whichever slot comes first, with the day start, the staged limit set and the week start that its rest run makes due and
their reports (R123, R124), its derived quantities are written VALID, and slot 1's minute is judged against the speed
quantity, any of Q0-Q47, as it stands when slot 1 is accounted, with DUTY MISMATCH where the condition begins (R108, R109,
R130, R131). The order of the two slots is the command's operand and the time of a late expiry is the model's choice (log
entries 9 and 2). -/
def Obligations.MinuteExpiryAccountsThePresentSlots : Prop :=
  ∀ (slot2First : Bool) (s : State), s.powered = true → ∃ t, exec (.minuteExpiry slot2First) s = .next t ∧
    t.now = max s.now s.dtu.minuteDue ∧ t.dtu.minuteDue = s.dtu.minuteDue + 60000000 ∧
    t.dtu.clock = min 4294967295 (s.dtu.clock + 1) ∧ s.sameBut t [.now, .cfg, .lp, .qt, .weu, .dtu, .anu] ∧
    (∀ q : Fin 48, q.val < 44 → t.entry q = s.entry q) ∧
    (∀ i, (s.slot i).card = none → t.slot i = { s.slot i with tracks := (t.slot i).tracks } ∧
      t.limits i = s.limits i) ∧
    (∀ (i : Fin 2) (x y : Slot) (l : LimitSet), (s.slot i).card.isSome = true → x = (s.slot i).minute (s.limits i) →
      (x.restRun < (s.limits i).dailyRest ∨ x.dayClosed = true → y = x ∧ l = s.limits i) →
      ((s.limits i).dailyRest ≤ x.restRun → x.dayClosed = false → l = x.staged.getD (s.limits i) ∧
        y = { x with
          daily := 0, continuous := 0, credit := 0, totals := ⟨0, 0, 0, 0, 0⟩, dayBase := 0, dayStart := t.dtu.clock
          dayClosed := true, staged := none }) →
      t.limits i = l ∧
      (x.restRun < l.weeklyRest ∨ x.weekClosed = true → t.slot i = { y with tracks := (t.slot i).tracks }) ∧
      (l.weeklyRest ≤ x.restRun → x.weekClosed = false →
        t.slot i = { y with weekly := 0, weekClosed := true, tracks := (t.slot i).tracks } ∧
        Reported .dutyWeekStart .stop (i.val + 1) x.weekly s t) ∧
      ((s.limits i).dailyRest ≤ x.restRun → x.dayClosed = false →
        (1 ≤ (s.limits i).dailyRest → Reported .dutyDayStart .stop (i.val + 1) (s.slot i).daily s t) ∧
        (x.staged ≠ none → Reported .dutyLimitsLoaded .stop (i.val + 1) 0 s t))) ∧
    (∀ i, (s.slot i).card.isSome = true →
      (∀ k, (t.track i k).stage = stageOf ((t.limits i).limit k) ((t.limits i).margin k) ((t.slot i).counter k)) ∧
      ∀ q : Fin 48, ((q.val = 44 + 2 * i.val → (t.entry q).status = .valid ∧ (t.entry q).restarted = t.now ∧
          (t.entry q).value = max (-32768) (((t.limits i).continuous : Int) - ((t.slot i).continuous : Int))) ∧
        (q.val = 45 + 2 * i.val → (t.entry q).status = .valid ∧ (t.entry q).restarted = t.now ∧
          (t.entry q).value = max (-32768) (((t.limits i).daily : Int) - ((t.slot i).daily : Int))))) ∧
    ((s.slot 0).card = none → t.dtu.mismatchCount = s.dtu.mismatchCount ∧ t.dtu.mismatch = s.dtu.mismatch) ∧
    ∀ e : Quantity, (s.slot 0).card.isSome = true →
      e = (if slot2First = true ∧ 46 ≤ s.cfg.duty.speed.val then t.entry s.cfg.duty.speed
        else s.entry s.cfg.duty.speed) →
      ((t.slot 0).activity ≠ .driving → e.status = .valid → (s.cfg.duty.threshold : Int) < e.value →
        t.dtu.mismatchCount = min s.cfg.duty.mismatchMinutes (s.dtu.mismatchCount + 1) ∧
        (t.dtu.mismatch = true ↔ s.dtu.mismatch = true ∨ s.cfg.duty.mismatchMinutes ≤ s.dtu.mismatchCount + 1) ∧
        (s.dtu.mismatch = false → t.dtu.mismatch = true →
          Reported .dutyMismatch .stop 1 (code Activity.list (t.slot 0).activity) s t)) ∧
      ((t.slot 0).activity = .driving ∨ e.status ≠ .valid ∨ e.value ≤ (s.cfg.duty.threshold : Int) →
        t.dtu.mismatchCount = 0 ∧ t.dtu.mismatch = false)

/-- O47 (tier 2). CONFIGURE DUTY, STAGE LIMITS and DUTY ACTIVITY: the settings put in force at once with the break, the
stages and the derived quantities of each PRESENT slot, the staged set kept for the next day start, and the activity
stored as pending, SUPERSEDED with its report when one was held, with the return to RUN, the gauges released, and its POWER STATE record when
DRIVING is given in PARKING (R113 to R116, R167, R172). -/
def Obligations.DutySettingsAndActivityRequests : Prop :=
  (∀ (tag : Byte) (body : List Byte) (s : State), s.configurable → body.length = 40 →
    (readDutySettings body = none →
      exec (.configureDuty tag body) s = .next (beginReply tag 0x40#8 .range [] (goodFrame s))) ∧
    ∀ c, readDutySettings body = some c → Answers (.configureDuty tag body) s tag 0x40#8 .ok [] fun t =>
      t.cfg = { s.cfg with duty := c } ∧ s.sameBut t [.cfg, .lp, .qt, .weu, .dtu, .anu] ∧
      (∀ i, (s.slot i).card = none → t.slot i = { s.slot i with tracks := (t.slot i).tracks }) ∧
      ∀ i, (s.slot i).card.isSome = true →
        ((s.slot i).credit < (c.limits.get i).breakLength → t.slot i = { s.slot i with tracks := (t.slot i).tracks }) ∧
        ((c.limits.get i).breakLength ≤ (s.slot i).credit → t.slot i =
          { s.slot i with continuous := 0, credit := 0, tracks := (t.slot i).tracks }) ∧
        (∀ k, (t.track i k).stage =
          stageOf ((c.limits.get i).limit k) ((c.limits.get i).margin k) ((t.slot i).counter k)) ∧
        ∀ q : Fin 48, (q.val = 44 + 2 * i.val ∨ q.val = 45 + 2 * i.val → (t.entry q).status = .valid)) ∧
  (∀ (tag : Byte) (body : List Byte) (s : State), s.awake → body.length = 19 →
    (readStagedLimits body = none →
      exec (.stageLimits tag body) s = .next (beginReply tag 0x41#8 .range [] (goodFrame s))) ∧
    ∀ i l, readStagedLimits body = some (i, l) → exec (.stageLimits tag body) s =
      .next (beginReply tag 0x41#8 .ok [] ((goodFrame s).setSlot i { s.slot i with staged := some l }))) ∧
  ∀ (tag : Byte) (body : List Byte) (s : State), s.listens → body.length = 2 →
    (readActivity body = none →
      exec (.dutyActivity tag body) s = .next (beginReply tag 0x42#8 .range [] (goodFrame s))) ∧
    ∀ i a, readActivity body = some (i, a) →
      ((s.slot i).card = none →
        exec (.dutyActivity tag body) s = .next (beginReply tag 0x42#8 .noCard [] (goodFrame s))) ∧
      ((s.slot i).card.isSome = true → a = .driving → s.psc.state = .sleep →
        exec (.dutyActivity tag body) s = .next (beginReply tag 0x42#8 .asleep [] (goodFrame s))) ∧
      ((s.slot i).card.isSome = true → (a ≠ .driving ∨ s.psc.state ≠ .sleep) →
        ((s.slot i).pending = none → Answers (.dutyActivity tag body) s tag 0x42#8 .ok [] fun t =>
          t.slot i = { s.slot i with pending := some a } ∧ (∀ j, j ≠ i → t.slot j = s.slot j) ∧
          (a ≠ .driving ∨ s.psc.state ≠ .parking → s.sameBut t [.lp, .dtu]) ∧
          (a = .driving → s.psc.state = .parking → t.psc = { s.psc with state := .run, proof := .stopped } ∧
            GaugesReleased s t ∧ ReportedFirst .powerState 2 0x0603 (goodFrame s) t ∧
            s.sameBut t [.lp, .gdu, .dtu, .psc])) ∧
        ∀ old, (s.slot i).pending = some old →
          Answers (.dutyActivity tag body) s tag 0x42#8 .superseded [BitVec.ofNat 8 (code Activity.list old)] fun t =>
            t.slot i = { s.slot i with pending := some a, superseded := true } ∧ (∀ j, j ≠ i → t.slot j = s.slot j) ∧
            Reported .dutySuperseded .stop (i.val + 1) (code Activity.list old) s t ∧
            (a ≠ .driving ∨ s.psc.state ≠ .parking → s.sameBut t [.lp, .dtu]) ∧
            (a = .driving → s.psc.state = .parking → t.psc = { s.psc with state := .run, proof := .stopped } ∧
              GaugesReleased s t ∧ Reported .powerState .stop 2 0x0603 s t ∧
              s.sameBut t [.lp, .gdu, .dtu, .psc]))

/-- O48 (tier 2). CARD IN in the order of its checks, with the record it makes, the stages and the derived quantities,
and with the return to RUN, the gauges released, and its POWER STATE record when DRIVING is given in PARKING (R167, R172);
CARD OUT with the withdrawal of the slot's entries and the EMPTY record (R117, R118, R119). A slot other than 1 and 2 and an
activity that is none are answered RANGE, and a presence byte with bit 6 or 7 set is found so at the first check (R197),
which is the model's reading (log entry 20). -/
def Obligations.CardsComeAndGo : Prop :=
  (∀ (tag : Byte) (body : List Byte) (s : State), s.listens → cardInBodyFits body = true →
    byteAt body 0 = 0 ∨ 2 < byteAt body 0 ∨ 64 ≤ byteAt body 5 ∨ (byteAt body 5 % 2 = 1 ∧ 5 ≤ byteAt body 6) →
    AnswersRange (.cardIn tag body) s tag 0x43#8) ∧
  (∀ (tag b : Byte) (s : State), s.listens → b.toNat = 0 ∨ 2 < b.toNat → AnswersRange (.cardOut tag [b]) s tag 0x44#8) ∧
  (∀ (tag : Byte) (body : List Byte) (s : State) (i : Fin 2) (a : Activity) (c : Summary), s.listens →
    cardInBodyFits body = true → readCardIn body = some (i, a) → c = readSummary body →
    ((s.slot i).card.isSome = true ∨ (∃ j, (s.slot j).card = some (readToken body)) →
      exec (.cardIn tag body) s = .next (beginReply tag 0x43#8 .conflict [] (goodFrame s))) ∧
    ((s.slot i).card = none → (∀ j, (s.slot j).card ≠ some (readToken body)) →
      ((s.limits i).breakLength ≤ c.credit ∨ c.daily < c.continuous ∨ c.weekly < c.daily →
        exec (.cardIn tag body) s = .next (beginReply tag 0x43#8 .range [] (goodFrame s))) ∧
      (c.credit < (s.limits i).breakLength → c.continuous ≤ c.daily → c.daily ≤ c.weekly →
        (s.psc.state = .sleep → a = .driving →
          exec (.cardIn tag body) s = .next (beginReply tag 0x43#8 .asleep [] (goodFrame s))) ∧
        (s.psc.state ≠ .sleep ∨ a ≠ .driving → Answers (.cardIn tag body) s tag 0x43#8 .ok [] fun t =>
          t.slot i = { Slot.empty (s.slot i).staged with
            card := some (readToken body), activity := a, continuous := c.continuous, daily := c.daily
            weekly := c.weekly, credit := c.credit, dayBase := c.elapsed, dayStart := s.dtu.clock
            tracks := (t.slot i).tracks } ∧
          (∀ k, (t.track i k).stage =
            stageOf ((s.limits i).limit k) ((s.limits i).margin k) ((t.slot i).counter k)) ∧
          (∀ k, (t.track i k).stage = .prewarn → (t.track i k).acknowledged = true ∧ (t.track i k).offered = false) ∧
          (∀ q : Fin 48, (q.val = 44 + 2 * i.val ∨ q.val = 45 + 2 * i.val → (t.entry q).status = .valid)) ∧
          (i = 0 → t.dtu.mismatchCount = 0 ∧ t.dtu.mismatch = false) ∧
          t.psc.state = (if a = .driving ∧ s.psc.state = .parking then .run else s.psc.state) ∧
          (a = .driving → s.psc.state = .parking → GaugesReleased s t ∧ Reported .powerState .stop 2 0x0603 s t) ∧
          (a ≠ .driving ∨ s.psc.state ≠ .parking → t.gdu = s.gdu ∧ t.psc = s.psc) ∧
          s.sameBut t [.lp, .qt, .gdu, .weu, .dtu, .anu, .psc])))) ∧
  ∀ (tag b : Byte) (s : State) (i : Fin 2), s.listens → s.announcementsKept → b.toNat = i.val + 1 →
    ((s.slot i).card = none → exec (.cardOut tag [b]) s = .next (beginReply tag 0x44#8 .noCard [] (goodFrame s))) ∧
    ((s.slot i).card.isSome = true → Answers (.cardOut tag [b]) s tag 0x44#8 .ok [] fun t =>
      t.slot i = Slot.empty (s.slot i).staged ∧ (∀ j, j ≠ i → t.slot j = s.slot j) ∧
      (∀ e ∈ t.anu.entries, ∀ k, e.source ≠ .duty i k) ∧
      (∀ q : Fin 48, (q.val = 44 + 2 * i.val ∨ q.val = 45 + 2 * i.val →
        (t.entry q).status = .absent ∧ (t.entry q).value = 0)) ∧
      (i = 0 → t.dtu.mismatchCount = 0 ∧ t.dtu.mismatch = false) ∧ s.sameBut t [.lp, .qt, .dtu, .anu])

/-! ### The Annunciation Unit (chapter 7) -/

/-- O49 (tier 2). CONFIGURE MESSAGE, CONFIGURE LINE, SET RESTING PAGE and SET PRIORITY MAP: the setting replaced, the
line re-rendered when the message or the resting page is on it, the rotation timer of the shown entry, and the levels
recomputed with the queue re-sorted under the host hold (R134, R136, R151, R143); RANGE, with nothing changed, for an
index out of range and for fields that the rule does not allow. That the show time and the rotation interval are coded in
steps counted from 0, on which the bounds of bytes 6 and 7 of CONFIGURE LINE rest, is the model's reading (log entry 29). -/
def Obligations.LineSettingsTakeEffect : Prop :=
  ∀ (tag : Byte) (body : List Byte) (s : State), s.configurable →
    (∀ m c, messageBodyFits body = true → readMessage body = some (m, c) →
      Answers (.configureMessage tag body) s tag 0x48#8 .ok [] fun t =>
        t.cfg = { s.cfg with messages := s.cfg.messages.set m c } ∧
        (s.onLine ≠ some m → s.sameBut t [.cfg, .lp]) ∧
        (s.onLine = some m → s.sameBut t [.cfg, .lp, .anu] ∧ t.anu.content = t.lineContent ∧
          t.anu.shown = s.anu.shown ∧ t.anu.queue = s.anu.queue ∧ t.anu.sounder = s.anu.sounder)) ∧
    (∀ c, body.length = 9 → readLineSettings body = some c →
      Answers (.configureLine tag body) s tag 0x49#8 .ok [] fun t =>
        t.cfg = { s.cfg with line := c } ∧ s.sameBut t [.cfg, .lp, .anu] ∧
        t.anu = { s.anu with shown := s.anu.shown.map fun sh => { sh with
          rotationDue := if c.rotation = 0 then none else some (s.now + c.rotation * 1000000) } }) ∧
    (∀ b page, body = [b] → readOptIndex 64 b.toNat = some page →
      Answers (.setRestingPage tag body) s tag 0x51#8 .ok [] fun t =>
        t.cfg = { s.cfg with restingPage := page } ∧ s.sameBut t [.cfg, .lp, .anu] ∧
        t.anu.shown = s.anu.shown ∧ t.anu.queue = s.anu.queue ∧
        (s.anu.shown = none → s.anu.proofHold = false → t.anu.content = t.lineContent) ∧
        (s.anu.shown ≠ none ∨ s.anu.proofHold = true → t.anu = s.anu)) ∧
    (messageBodyFits body = true → readMessage body = none ∨ 64 ≤ byteAt body 0 →
      AnswersRange (.configureMessage tag body) s tag 0x48#8) ∧
    (body.length = 9 → (∃ i, i < 6 ∧ 100 < byteAt body i) ∨ byteAt body 6 = 0 ∨ 25 < byteAt body 6 ∨
        byteAt body 7 = 1 ∨ 60 < byteAt body 7 ∨ (48 ≤ byteAt body 8 ∧ byteAt body 8 ≤ 254) →
      AnswersRange (.configureLine tag body) s tag 0x49#8) ∧
    (∀ b : Byte, body = [b] → 64 ≤ b.toNat → b.toNat ≤ 254 → AnswersRange (.setRestingPage tag body) s tag 0x51#8) ∧
    (body.length = 6 → (∃ i, i < 6 ∧ 6 ≤ byteAt body i) ∨ (∃ i j, i < j ∧ j < 6 ∧ byteAt body i = byteAt body j) →
      AnswersRange (.setPriorityMap tag body) s tag 0x4B#8) ∧
    ∀ m, body.length = 6 → readPriorityMap body = some m →
      (s.anu.hostHold = false →
        exec (.setPriorityMap tag body) s = .next (beginReply tag 0x4B#8 .noHold [] (goodFrame s))) ∧
      (s.anu.hostHold = true → Answers (.setPriorityMap tag body) s tag 0x4B#8 .ok [] fun t =>
        t.cfg = { s.cfg with priorityMap := m } ∧ s.sameBut t [.cfg, .lp, .anu] ∧
        ∃ relevel : Entry → Entry, (∀ e n, m.get n = e.cls → relevel e = { e with level := n.val + 1 }) ∧
          t.anu.queue.Perm (s.anu.queue.map relevel) ∧
          t.anu.queue.Pairwise (fun a b => a.level < b.level ∨ (a.level = b.level ∧ a.arrival ≤ b.arrival)) ∧
          t.anu = { s.anu with
            queue := t.anu.queue, shown := s.anu.shown.map fun sh => { sh with entry := relevel sh.entry } })

/-- O50 (tier 2). What an offer does, by where an entry of its source stands and by the room in the queue: an update in
place, a new entry with the next arrival number, or the judgement against the lowest waiting entry (R139, R140); and with nothing shown, nothing waiting and no
hold set, the new entry begins to be shown, with its timers, its sound and its report (R145, R154, R160). Where the
arrival counter stands at 65535 the entries held, waiting and shown, are first renumbered 1, 2, 3 and so on in the order of
their arrival numbers (R138); that the counter then starts from 0 with no entry held is the model's choice (log entry 39).
-/
def Obligations.OfferIsTakenByTheQueue : Prop :=
  ∀ (o : Offer) (s t : State), t = offer o s →
    s.sameBut t [.lp, .weu, .dtu, .anu] ∧
    (∀ sh, s.anu.shown = some sh → sh.entry.source = o.source →
      t.anu.shown = some { sh with entry := { sh.entry with message := o.message, chime := o.chime } } ∧
      t.anu.queue = s.anu.queue ∧ t.anu.content = t.lineContent ∧ s.sameBut t [.anu]) ∧
    ((∀ sh, s.anu.shown = some sh → sh.entry.source ≠ o.source) → (∃ e ∈ s.anu.queue, e.source = o.source) →
      t = s.setAnu { s.anu with queue := s.anu.queue.map fun e =>
        if e.source = o.source then { e with message := o.message, chime := o.chime } else e }) ∧
    ((∀ e ∈ s.anu.entries, e.source ≠ o.source) → s.anu.arrivals < 65535 → ∀ level : Fin 6,
      s.cfg.priorityMap.get level = o.cls → (∀ n, s.cfg.priorityMap.get n = o.cls → n = level) →
      t.anu.arrivals = s.anu.arrivals + 1 ∧
      (s.anu.queue.length < 16 →
        ∃ e ∈ t.anu.entries, e = ⟨o.source, o.cls, level.val + 1, o.message, o.chime, o.kind, s.anu.arrivals + 1,
          e.shownBefore⟩) ∧
      (s.anu.queue.length < 16 → s.anu.hostHold = true ∨ s.anu.proofHold = true → t.anu.shown = s.anu.shown ∧
        s.sameBut t [.anu] ∧ t.anu.queue.Perm
          (⟨o.source, o.cls, level.val + 1, o.message, o.chime, o.kind, s.anu.arrivals + 1, false⟩ :: s.anu.queue)) ∧
      (s.anu.queue.length < 16 → s.anu.hostHold = false → s.anu.proofHold = false → s.anu.shown = none →
        s.anu.queue = [] → ∃ sh, t.anu.shown = some sh ∧ sh.entry.source = o.source ∧ sh.entry.shownBefore = true ∧
          t.anu.queue = [] ∧ BeganShowing
            ⟨o.source, o.cls, level.val + 1, o.message, o.chime, o.kind, s.anu.arrivals + 1, false⟩ s t) ∧
      ∀ low, 16 ≤ s.anu.queue.length → s.anu.queue.getLast? = some low →
        (low.level ≤ level.val + 1 → t.anu.queue = s.anu.queue ∧ t.anu.shown = s.anu.shown ∧
          ∃ u, t = hand .announcementEnded o.source.number (4 + (if o.kind = .reminder then 16 else 0)) u) ∧
        (level.val + 1 < low.level → ∃ e ∈ t.anu.entries, e.source = o.source ∧ e.arrival = s.anu.arrivals + 1)) ∧
    ((∀ e ∈ s.anu.entries, e.source ≠ o.source) → s.anu.arrivals = 65535 → (s.anu.entries.map Entry.arrival).Nodup →
      ∀ level : Fin 6, s.cfg.priorityMap.get level = o.cls → (∀ n, s.cfg.priorityMap.get n = o.cls → n = level) →
      ∃ (place : Nat → Nat) (queue : List Entry) (shown : Option Shown),
        (∀ a ∈ s.anu.entries, ∀ b ∈ s.anu.entries, a.arrival < b.arrival → place a.arrival < place b.arrival) ∧
        (s.anu.entries.map fun e => place e.arrival).Perm (List.range' 1 s.anu.entries.length) ∧
        queue = s.anu.queue.map (fun e => { e with arrival := place e.arrival }) ∧
        shown = s.anu.shown.map (fun sh => { sh with entry := { sh.entry with arrival := place sh.entry.arrival } }) ∧
        (s.anu.queue.length < 16 → t.anu.arrivals = s.anu.entries.length + 1 ∧
          (s.anu.hostHold = true ∨ s.anu.proofHold = true → t.anu.shown = shown ∧ t.anu.queue.Perm
            (⟨o.source, o.cls, level.val + 1, o.message, o.chime, o.kind, s.anu.entries.length + 1, false⟩ :: queue))) ∧
        ∀ low, 16 ≤ s.anu.queue.length → s.anu.queue.getLast? = some low → low.level ≤ level.val + 1 →
          t.anu.arrivals = s.anu.entries.length + 1 ∧ t.anu.queue = queue ∧ t.anu.shown = shown)

/-- O51 (tier 2). HOLD, RELEASE, ACKNOWLEDGE SHOWN, ANNOUNCE, WITHDRAW and CHIME CLICK (R144, R149, R150, R155), with the
beginning of showing of the entry that RELEASE and ACKNOWLEDGE SHOWN let take the line (R145, R154, R160); RANGE, with
nothing changed, for an index, a message or a chime pattern that ANNOUNCE and WITHDRAW do not know. The codes 0 UPDATED,
1 SHOWN, 2 QUEUED and 3 DROPPED of ANNOUNCE's outcome are the model's choice (log entry 16). -/
def Obligations.HoldsAcknowledgementsAndAnnouncements : Prop :=
  ∀ (tag : Byte) (s : State), s.awake →
    exec (.hold tag []) s = .next (beginReply tag 0x4C#8 .ok [] ((goodFrame s).setAnu { s.anu with hostHold := true })) ∧
    (s.anu.hostHold = false → exec (.release tag []) s = .next (beginReply tag 0x4D#8 .ok [] (goodFrame s))) ∧
    (s.anu.hostHold = true → Answers (.release tag []) s tag 0x4D#8 .ok [] fun t =>
      t.anu.hostHold = false ∧ t.anu.proofHold = s.anu.proofHold ∧ s.sameBut t [.lp, .weu, .dtu, .anu] ∧
      (s.anu.proofHold = true → t.anu = { s.anu with hostHold := false } ∧ s.sameBut t [.lp, .anu]) ∧
      (∀ e rest, s.anu.proofHold = false → s.anu.shown = none → s.anu.queue = e :: rest → t.anu.queue = rest ∧
        BeganShowing e s t)) ∧
    (s.anu.shown = none →
      exec (.acknowledgeShown tag []) s = .next (beginReply tag 0x4E#8 .state [] (goodFrame s))) ∧
    (∀ sh, s.anu.shown = some sh →
      Answers (.acknowledgeShown tag []) s tag 0x4E#8 .ok [BitVec.ofNat 8 sh.entry.source.number] fun t =>
        s.sameBut t [.lp, .weu, .dtu, .anu] ∧ t.anu.content = t.lineContent ∧
        (s.anu.held = true ∨ s.anu.queue = [] → t.anu.shown = none ∧ t.anu.queue = s.anu.queue) ∧
        (∀ e rest, s.anu.held = false → s.anu.queue = e :: rest → t.anu.queue = rest ∧ BeganShowing e s t) ∧
        (∀ i k, sh.entry.source = .duty i k →
          t.track i k = { s.track i k with acknowledged := true, offered := false }) ∧
        (∀ w, sh.entry.source = .warning w → (t.warning w).mark = .none ∧
          ((s.warning w).state = .activeNew → (t.warning w).state = .activeSeen) ∧
          ((s.warning w).state ∈ [.activeNew, .latched] → (t.warning w).acknowledged = true))) ∧
    (∀ body, body.length = 3 → 8 ≤ byteAt body 0 ∨ 64 ≤ byteAt body 1 ∨ 5 ≤ byteAt body 2 →
      AnswersRange (.announce tag body) s tag 0x4F#8) ∧
    (∀ b : Byte, 8 ≤ b.toNat → AnswersRange (.withdraw tag [b]) s tag 0x50#8) ∧
    (∀ body i m chime, body.length = 3 → readAnnounce body = some (i, m, chime) → ∃ n,
      Answers (.announce tag body) s tag 0x4F#8 .ok [BitVec.ofNat 8 n] fun t =>
        t.anu = (offer ⟨.host i, .hostMessage, m, chime, .normal⟩ (goodFrame s)).anu ∧
        s.sameBut t [.lp, .weu, .dtu, .anu] ∧ n ≤ 3 ∧
        (n = 0 ↔ ∃ e ∈ s.anu.entries, e.source = .host i) ∧
        (n = 1 → ∃ sh, t.anu.shown = some sh ∧ sh.entry.source = .host i) ∧
        (n = 2 → ∃ e ∈ t.anu.queue, e.source = .host i) ∧ (n = 3 → ∀ e ∈ t.anu.entries, e.source ≠ .host i)) ∧
    (∀ (b : Byte) (h : Fin 8), b.toNat = h.val →
      ((∀ e ∈ s.anu.entries, e.source ≠ .host h) →
        exec (.withdraw tag [b]) s = .next (beginReply tag 0x50#8 .ok [0#8] (goodFrame s))) ∧
      ((∃ e ∈ s.anu.entries, e.source = .host h) → s.announcementsKept →
        Answers (.withdraw tag [b]) s tag 0x50#8 .ok [1#8] fun t =>
          (∀ e ∈ t.anu.entries, e.source ≠ .host h) ∧ s.sameBut t [.lp, .anu])) ∧
    (s.anu.sounder = .silent → exec (.chimeClick tag []) s = .next (beginReply tag 0x52#8 .ok []
      ((goodFrame s).setAnu { s.anu with sounder := .click (s.now + 20000) }))) ∧
    (s.anu.sounder ≠ .silent →
      exec (.chimeClick tag []) s = .next (beginReply tag 0x52#8 .suppressed [] (goodFrame s)))

/-- O52 (tier 2). DWELL_EXPIRY, SHOW_TIME_EXPIRY and ROTATION_EXPIRY: the elapsed dwell and the displacement by a higher
head, the end of a REMINDER, and the rotation behind the entries of the same level, or its timer started again (R146,
R147, R148); and the beginning of showing of the entry that takes the line, with its own timers, its sound and its report
(R145, R154, R160). The time of a late expiry is the model's choice (log entry 2). -/
def Obligations.TimersOfTheShownEntry : Prop :=
  ∀ (s : State) (sh : Shown), s.powered = true → s.anu.shown = some sh →
    (∀ due, sh.dwellDue = some due →
      (s.anu.held = true ∨ s.anu.headHigher sh = false → exec .dwellExpiry s =
        .next ((s.setNow (max s.now due)).setAnu { s.anu with shown := some { sh with dwellDue := none } })) ∧
      ∀ e rest, s.anu.held = false → s.anu.queue = e :: rest → e.level < sh.entry.level →
        ∃ t, exec .dwellExpiry s = .next t ∧ t.now = max s.now due ∧ s.sameBut t [.now, .lp, .weu, .dtu, .anu] ∧
          BeganShowing e s t ∧
          (sh.entry.kind = .normal → t.anu.queue.Perm (sh.entry :: rest)) ∧
          (sh.entry.kind = .reminder → t.anu.queue = rest)) ∧
    (∀ due, sh.showDue = some due → ∃ t, exec .showTimeExpiry s = .next t ∧ t.now = max s.now due ∧
      s.sameBut t [.now, .lp, .weu, .dtu, .anu] ∧ t.anu.content = t.lineContent ∧
      (s.anu.held = true ∨ s.anu.queue = [] → t.anu.shown = none ∧ t.anu.queue = s.anu.queue) ∧
      (∀ e rest, s.anu.held = false → s.anu.queue = e :: rest → t.anu.queue = rest ∧ BeganShowing e s t) ∧
      ∀ w, sh.entry.source = .warning w → t.warning w = { s.warning w with mark := .none }) ∧
    ∀ due, sh.rotationDue = some due →
      ((s.anu.held = true ∨ sh.entry.kind = .reminder ∨ sh.dwellDue ≠ none ∨
          ∀ e ∈ s.anu.queue, e.level ≠ sh.entry.level) → exec .rotationExpiry s =
        .next ((s.setNow (max s.now due)).setAnu { s.anu with shown := some { sh with
          rotationDue := if s.cfg.line.rotation = 0 then none
            else some (max s.now due + s.cfg.line.rotation * 1000000) } })) ∧
      ∀ e rest, s.anu.held = false → sh.entry.kind = .normal → sh.dwellDue = none → s.anu.queue = e :: rest →
        e.level = sh.entry.level → e.arrival ≤ s.anu.arrivals → s.anu.arrivals < 65535 →
        ∃ t, exec .rotationExpiry s = .next t ∧ t.now = max s.now due ∧ s.sameBut t [.now, .lp, .anu] ∧
          BeganShowing e s t ∧
          t.anu.queue.Perm ({ sh.entry with arrival := s.anu.arrivals + 1 } :: rest) ∧
          t.anu.arrivals = s.anu.arrivals + 1 ∧ t.anu.content = t.lineContent

/-- O53 (tier 2). The line shows the shown entry's message, or the page that R151 gives; a rendered message has its own
characters but for the columns of its placeholders, which hold dashes, stars, or the field's text set to the right (R135).
LINE_REFRESH re-renders the line, TRANSFER_COMPLETION makes the content the last sent and starts the transfer that is owed,
and the sounder's one-shot, click and repeating period end (R152, R153, R154, R155). The sounder
sounds throughout a SINGLE, the proof tone and a click, in the first and the last 150 ms of a DOUBLE, and in the tone that
starts each period of a repeating pattern (R154). The time of a late event is the model's choice (log entry 2). -/
def Obligations.DisplayPortAndSounderAdvance : Prop :=
  (∀ s : State, (∀ sh, s.anu.shown = some sh → s.onLine = some sh.entry.message) ∧
    (s.anu.shown = none → s.onLine =
      (if s.psc.state = .sleep then none
      else if s.anu.proofHold = true then s.cfg.power.startMessage
      else s.cfg.restingPage)) ∧
    (s.onLine = none → ∀ j, s.lineContent.get j = 0x20#8) ∧
    ∀ m c, s.onLine = some m → c = s.cfg.messages.get m → ∀ j : Fin 16,
      ((∀ p ∈ c.placeholders, j.val + 1 < p.start ∨ p.start + p.width ≤ j.val + 1) →
        s.lineContent.get j = c.chars.get j) ∧
      ∀ p ∈ c.placeholders, p.start ≤ j.val + 1 → j.val + 1 < p.start + p.width →
        (∀ q ∈ c.placeholders, q = p ∨ j.val + 1 < q.start ∨ q.start + q.width ≤ j.val + 1) →
        (s.fieldText p = none → s.lineContent.get j = 0x2D#8) ∧
        ∀ text, s.fieldText p = some text →
          (p.width < text.length → s.lineContent.get j = 0x2A#8) ∧
          (text.length ≤ p.width →
            (j.val + 1 + text.length < p.start + p.width → s.lineContent.get j = 0x20#8) ∧
            ∀ k b, text[k]? = some b → j.val + 1 + text.length = p.start + p.width + k → s.lineContent.get j = b)) ∧
  (∀ (s : State) (p : Placeholder) (ascii : String → List Byte), (∀ x, ascii x = x.toList.map fun c => BitVec.ofNat 8 c.toNat) →
    (∀ q, p.field = .quantityValue q → ((s.entry q).status ≠ .valid → s.fieldText p = none) ∧
      ((s.entry q).status = .valid → s.fieldText p = some (numberText p.format (s.entry q).value))) ∧
    (∀ q, p.field = .quantityStatus q → s.fieldText p = some (match (s.entry q).status with
      | .valid => ascii "VALID"
      | .stale => ascii "STALE"
      | .fault => ascii "FAULT"
      | .absent => ascii "NONE")) ∧
    ∀ i, (p.field = .slotCard i →
        s.fieldText p = some (if (s.slot i).card.isSome = true then ascii "CARD" else ascii "EMPTY")) ∧
      ((s.slot i).card = none →
        p.field ∈ [.slotActivity i, .continuousRemaining i, .dailyRemaining i, .weeklyRemaining i, .breakCredit i] →
        s.fieldText p = none) ∧
      ((s.slot i).card.isSome = true →
        (p.field = .slotActivity i → s.fieldText p = some (match (s.slot i).activity with
          | .driving => ascii "DRIVE"
          | .work => ascii "WORK"
          | .available => ascii "AVAIL"
          | .rest => ascii "REST"
          | .unknown => ascii "UNKN")) ∧
        (p.field = .continuousRemaining i → s.fieldText p =
          some (numberText p.format (((s.limits i).continuous : Int) - ((s.slot i).continuous : Int)))) ∧
        (p.field = .dailyRemaining i → s.fieldText p =
          some (numberText p.format (((s.limits i).daily : Int) - ((s.slot i).daily : Int)))) ∧
        (p.field = .weeklyRemaining i → s.fieldText p =
          some (numberText p.format (((s.limits i).weekly : Int) - ((s.slot i).weekly : Int)))) ∧
        (p.field = .breakCredit i → s.fieldText p = some (numberText p.format ((s.slot i).credit : Int))))) ∧
  (∀ (n : Nat) (v : Int) (sign : List Byte), sign = (if v < 0 then [0x2D#8] else []) →
    decimal n = (if n < 10 then [] else decimal (n / 10)) ++ [BitVec.ofNat 8 (48 + n % 10)] ∧
    numberText .integer v = sign ++ decimal v.natAbs ∧
    numberText .hoursMinutes v = sign ++ decimal (v.natAbs / 60) ++
      [0x3A#8, BitVec.ofNat 8 (48 + v.natAbs % 60 / 10), BitVec.ofNat 8 (48 + v.natAbs % 60 % 10)]) ∧
  (∀ (s : State) (start : Nat),
    (s.anu.sounder = .silent → s.sounding = false) ∧
    (s.anu.sounder = .oneShot .single (start + 200000) ∨ s.anu.sounder = .oneShot .proofTone (start + 200000) →
      s.now < start + 200000 → s.sounding = true) ∧
    (s.anu.sounder = .click (start + 20000) → s.now < start + 20000 → s.sounding = true) ∧
    (s.anu.sounder = .oneShot .double (start + 450000) → start ≤ s.now → s.now < start + 450000 →
      (s.sounding = true ↔ s.now < start + 150000 ∨ start + 300000 ≤ s.now)) ∧
    (s.anu.sounder = .repeating false (start + 2000000) → start ≤ s.now → s.now < start + 2000000 →
      (s.sounding = true ↔ s.now < start + 300000)) ∧
    (s.anu.sounder = .repeating true (start + 600000) → start ≤ s.now → s.now < start + 600000 →
      (s.sounding = true ↔ s.now < start + 200000))) ∧
  ∀ s : State, s.powered = true →
    (∀ due, s.anu.refreshDue = some due → ∃ t, exec .lineRefresh s = .next t ∧ t.now = max s.now due ∧
      s.sameBut t [.now, .anu] ∧ t.anu.content = t.lineContent ∧
      t.anu = { s.anu with
        refreshDue := some (due + 1000000), content := t.anu.content, transfer := t.anu.transfer, owed := t.anu.owed } ∧
      (s.anu.transfer = none → t.anu.owed = s.anu.owed ∧
        t.anu.transfer = (if t.anu.content = s.anu.lastSent then none else some ⟨t.anu.content, t.now + 2000⟩)) ∧
      ∀ x, s.anu.transfer = some x → t.anu.transfer = some x ∧
        t.anu.owed = (if t.anu.content = x.content then s.anu.owed else true)) ∧
    (∀ x, s.anu.transfer = some x →
      (s.anu.owed = false → exec .transferCompletion s = .next ((s.setNow (max s.now x.due)).setAnu
        { s.anu with lastSent := x.content, transfer := none })) ∧
      (s.anu.owed = true → ∃ t, exec .transferCompletion s = .next t ∧ t.now = max s.now x.due ∧
        s.sameBut t [.now, .anu] ∧ t.anu = { s.anu with
          lastSent := x.content, owed := false, content := t.lineContent
          transfer := if t.lineContent = x.content then none else some ⟨t.lineContent, t.now + 2000⟩ })) ∧
    (∀ sound due, s.anu.sounder = .oneShot sound due → exec .oneShotEnd s =
      .next ((s.setNow (max s.now due)).setAnu { s.anu with sounder := .silent })) ∧
    (∀ due, s.anu.sounder = .click due → exec .clickEnd s =
      .next ((s.setNow (max s.now due)).setAnu { s.anu with sounder := .silent })) ∧
    ∀ fast due, s.anu.sounder = .repeating fast due → exec .repeatPeriod s =
      .next ((s.setNow (max s.now due)).setAnu
        { s.anu with sounder := .repeating fast (due + if fast = true then 600000 else 2000000) })

/-! ### What every step keeps, and the encodings -/

/-- O54 (tier 1). The six properties that every step keeps hold after reset. -/
def Obligations.KeptPropertiesHoldAtReset : Prop :=
  State.reset.reportsKept ∧ State.reset.announcementsKept ∧ State.reset.dutyKept ∧ State.reset.quantitiesKept ∧
  State.reset.timersKept ∧ State.reset.lampsKept

/-- O55 (tier 3). Every step keeps the report queue within 32 records and the held list to one WARNING RAISED record for
each warning (R179, R181). -/
def Obligations.StepKeepsTheReports : Prop := StepKeeps State.reportsKept

/-- O56 (tier 3). Every step keeps the announcement queue within 16 entries, with no two held entries of one source and
the shown entry not waiting (R138). -/
def Obligations.StepKeepsTheAnnouncements : Prop := StepKeeps State.announcementsKept

/-- O57 (tier 3). Every step keeps continuous ≤ daily ≤ weekly driving in both slots, with every limit set held valid
(R121, R111). -/
def Obligations.StepKeepsTheOrderOfDriving : Prop := StepKeeps State.dutyKept

/-- O58 (tier 3). Every step keeps the sources and statuses of the Quantity Table within R2: DUTY for Q44-Q47 alone, an
ABSENT entry without source, and no STALE or FAULT under SWITCH or DUTY. -/
def Obligations.StepKeepsTheQuantityTable : Prop := StepKeeps State.quantitiesKept

/-- O59 (tier 3). Every step keeps the proof timer and the proof hold in PROVING alone and the periodic timers running
outside SLEEP alone, holds no more values as read than the criterion under evaluation has terms, and leaves no change of
power state that is due unmade (R164, R166, R74, R76, R100, R101, R152; log entries 11 and 14). Every step keeps every lamp
at the drive that the table of R100 gives it, whatever changes a warning, a host level, a configuration or the power
state. -/
def Obligations.StepKeepsTheTimersAndTheLampDrives : Prop := StepKeeps State.timersKept ∧ StepKeeps State.lampsKept

/-- O60 (tier 2). Reading a configuration from the bytes that the readouts give for it, behind its index, gives that
configuration: warnings, shapes, limit sets and link-sourced quantities, with every field at every value its rule allows
(R193, R197, R198). The fields that a link source does not have and the coding of its limit in steps of 10 ms are the
model's choices (log entries 15 and 29). -/
def Obligations.ReadoutIsReadBack : Prop :=
  (∀ (w : Fin 48) (c : WarnSettings) (n : Nat), 1 ≤ c.raiseLevel → c.raiseLevel ≤ 255 → c.clearLevel < c.raiseLevel →
    c.raiseDelay = n * 100 → n ≤ 255 → c.reminder ≤ 60 → readWarnSettings (BitVec.ofNat 8 w.val :: c.bytes) = some (w, c)) ∧
  (∀ (f : Fin 32) (c : Shape), -32768 ≤ c.a → c.a ≤ c.b → c.b ≤ c.c → c.c ≤ c.d → c.d ≤ 32767 → c.invalid ≤ 255 →
    readShape (BitVec.ofNat 8 f.val :: c.bytes) = some (f, c)) ∧
  (∀ (i : Fin 2) (l : LimitSet), l.valid = true →
    readStagedLimits (BitVec.ofNat 8 (i.val + 1) :: l.bytes) = some (i, l)) ∧
  ∀ (q : Fin 48) (n : Nat), q.val < 44 → n = 0 ∨ (2 ≤ n ∧ n ≤ 1000) →
    readQuantityConfig (BitVec.ofNat 8 q.val :: (QSource.link (n * 10)).bytes) = some (q, .link (n * 10))
end

