-- ==== Sys2Proof/Laws/State.lean ====
section
/-! SUPPORT. One lemma for each field of State and each update of one, so that no proof unfolds a record update. -/
namespace Sys2Proof.Machine.State

@[simp] theorem setPending_pending (s : State) (x : List Instr) : (s.setPending x).pending = x := rfl
@[simp] theorem setPending_now (s : State) (x : List Instr) : (s.setPending x).now = s.now := rfl
@[simp] theorem setPending_powered (s : State) (x : List Instr) : (s.setPending x).powered = s.powered := rfl
@[simp] theorem setPending_coilOpen (s : State) (x : List Instr) : (s.setPending x).coilOpen = s.coilOpen := rfl
@[simp] theorem setPending_cfg (s : State) (x : List Instr) : (s.setPending x).cfg = s.cfg := rfl
@[simp] theorem setPending_lp (s : State) (x : List Instr) : (s.setPending x).lp = s.lp := rfl
@[simp] theorem setPending_qt (s : State) (x : List Instr) : (s.setPending x).qt = s.qt := rfl
@[simp] theorem setPending_ssu (s : State) (x : List Instr) : (s.setPending x).ssu = s.ssu := rfl
@[simp] theorem setPending_gdu (s : State) (x : List Instr) : (s.setPending x).gdu = s.gdu := rfl
@[simp] theorem setPending_weu (s : State) (x : List Instr) : (s.setPending x).weu = s.weu := rfl
@[simp] theorem setPending_dtu (s : State) (x : List Instr) : (s.setPending x).dtu = s.dtu := rfl
@[simp] theorem setPending_anu (s : State) (x : List Instr) : (s.setPending x).anu = s.anu := rfl
@[simp] theorem setPending_psc (s : State) (x : List Instr) : (s.setPending x).psc = s.psc := rfl
@[simp] theorem setPending_cs (s : State) (x : List Instr) : (s.setPending x).cs = s.cs := rfl

@[simp] theorem setNow_pending (s : State) (x : Nat) : (s.setNow x).pending = s.pending := rfl
@[simp] theorem setNow_now (s : State) (x : Nat) : (s.setNow x).now = x := rfl
@[simp] theorem setNow_powered (s : State) (x : Nat) : (s.setNow x).powered = s.powered := rfl
@[simp] theorem setNow_coilOpen (s : State) (x : Nat) : (s.setNow x).coilOpen = s.coilOpen := rfl
@[simp] theorem setNow_cfg (s : State) (x : Nat) : (s.setNow x).cfg = s.cfg := rfl
@[simp] theorem setNow_lp (s : State) (x : Nat) : (s.setNow x).lp = s.lp := rfl
@[simp] theorem setNow_qt (s : State) (x : Nat) : (s.setNow x).qt = s.qt := rfl
@[simp] theorem setNow_ssu (s : State) (x : Nat) : (s.setNow x).ssu = s.ssu := rfl
@[simp] theorem setNow_gdu (s : State) (x : Nat) : (s.setNow x).gdu = s.gdu := rfl
@[simp] theorem setNow_weu (s : State) (x : Nat) : (s.setNow x).weu = s.weu := rfl
@[simp] theorem setNow_dtu (s : State) (x : Nat) : (s.setNow x).dtu = s.dtu := rfl
@[simp] theorem setNow_anu (s : State) (x : Nat) : (s.setNow x).anu = s.anu := rfl
@[simp] theorem setNow_psc (s : State) (x : Nat) : (s.setNow x).psc = s.psc := rfl
@[simp] theorem setNow_cs (s : State) (x : Nat) : (s.setNow x).cs = s.cs := rfl

@[simp] theorem setCoilOpen_pending (s : State) (x : Table 6 Bool) : (s.setCoilOpen x).pending = s.pending := rfl
@[simp] theorem setCoilOpen_now (s : State) (x : Table 6 Bool) : (s.setCoilOpen x).now = s.now := rfl
@[simp] theorem setCoilOpen_powered (s : State) (x : Table 6 Bool) : (s.setCoilOpen x).powered = s.powered := rfl
@[simp] theorem setCoilOpen_coilOpen (s : State) (x : Table 6 Bool) : (s.setCoilOpen x).coilOpen = x := rfl
@[simp] theorem setCoilOpen_cfg (s : State) (x : Table 6 Bool) : (s.setCoilOpen x).cfg = s.cfg := rfl
@[simp] theorem setCoilOpen_lp (s : State) (x : Table 6 Bool) : (s.setCoilOpen x).lp = s.lp := rfl
@[simp] theorem setCoilOpen_qt (s : State) (x : Table 6 Bool) : (s.setCoilOpen x).qt = s.qt := rfl
@[simp] theorem setCoilOpen_ssu (s : State) (x : Table 6 Bool) : (s.setCoilOpen x).ssu = s.ssu := rfl
@[simp] theorem setCoilOpen_gdu (s : State) (x : Table 6 Bool) : (s.setCoilOpen x).gdu = s.gdu := rfl
@[simp] theorem setCoilOpen_weu (s : State) (x : Table 6 Bool) : (s.setCoilOpen x).weu = s.weu := rfl
@[simp] theorem setCoilOpen_dtu (s : State) (x : Table 6 Bool) : (s.setCoilOpen x).dtu = s.dtu := rfl
@[simp] theorem setCoilOpen_anu (s : State) (x : Table 6 Bool) : (s.setCoilOpen x).anu = s.anu := rfl
@[simp] theorem setCoilOpen_psc (s : State) (x : Table 6 Bool) : (s.setCoilOpen x).psc = s.psc := rfl
@[simp] theorem setCoilOpen_cs (s : State) (x : Table 6 Bool) : (s.setCoilOpen x).cs = s.cs := rfl

@[simp] theorem setCfg_pending (s : State) (x : Settings) : (s.setCfg x).pending = s.pending := rfl
@[simp] theorem setCfg_now (s : State) (x : Settings) : (s.setCfg x).now = s.now := rfl
@[simp] theorem setCfg_powered (s : State) (x : Settings) : (s.setCfg x).powered = s.powered := rfl
@[simp] theorem setCfg_coilOpen (s : State) (x : Settings) : (s.setCfg x).coilOpen = s.coilOpen := rfl
@[simp] theorem setCfg_cfg (s : State) (x : Settings) : (s.setCfg x).cfg = x := rfl
@[simp] theorem setCfg_lp (s : State) (x : Settings) : (s.setCfg x).lp = s.lp := rfl
@[simp] theorem setCfg_qt (s : State) (x : Settings) : (s.setCfg x).qt = s.qt := rfl
@[simp] theorem setCfg_ssu (s : State) (x : Settings) : (s.setCfg x).ssu = s.ssu := rfl
@[simp] theorem setCfg_gdu (s : State) (x : Settings) : (s.setCfg x).gdu = s.gdu := rfl
@[simp] theorem setCfg_weu (s : State) (x : Settings) : (s.setCfg x).weu = s.weu := rfl
@[simp] theorem setCfg_dtu (s : State) (x : Settings) : (s.setCfg x).dtu = s.dtu := rfl
@[simp] theorem setCfg_anu (s : State) (x : Settings) : (s.setCfg x).anu = s.anu := rfl
@[simp] theorem setCfg_psc (s : State) (x : Settings) : (s.setCfg x).psc = s.psc := rfl
@[simp] theorem setCfg_cs (s : State) (x : Settings) : (s.setCfg x).cs = s.cs := rfl

@[simp] theorem setLp_pending (s : State) (x : LinkPort) : (s.setLp x).pending = s.pending := rfl
@[simp] theorem setLp_now (s : State) (x : LinkPort) : (s.setLp x).now = s.now := rfl
@[simp] theorem setLp_powered (s : State) (x : LinkPort) : (s.setLp x).powered = s.powered := rfl
@[simp] theorem setLp_coilOpen (s : State) (x : LinkPort) : (s.setLp x).coilOpen = s.coilOpen := rfl
@[simp] theorem setLp_cfg (s : State) (x : LinkPort) : (s.setLp x).cfg = s.cfg := rfl
@[simp] theorem setLp_lp (s : State) (x : LinkPort) : (s.setLp x).lp = x := rfl
@[simp] theorem setLp_qt (s : State) (x : LinkPort) : (s.setLp x).qt = s.qt := rfl
@[simp] theorem setLp_ssu (s : State) (x : LinkPort) : (s.setLp x).ssu = s.ssu := rfl
@[simp] theorem setLp_gdu (s : State) (x : LinkPort) : (s.setLp x).gdu = s.gdu := rfl
@[simp] theorem setLp_weu (s : State) (x : LinkPort) : (s.setLp x).weu = s.weu := rfl
@[simp] theorem setLp_dtu (s : State) (x : LinkPort) : (s.setLp x).dtu = s.dtu := rfl
@[simp] theorem setLp_anu (s : State) (x : LinkPort) : (s.setLp x).anu = s.anu := rfl
@[simp] theorem setLp_psc (s : State) (x : LinkPort) : (s.setLp x).psc = s.psc := rfl
@[simp] theorem setLp_cs (s : State) (x : LinkPort) : (s.setLp x).cs = s.cs := rfl

@[simp] theorem setQt_pending (s : State) (x : QuantityTable) : (s.setQt x).pending = s.pending := rfl
@[simp] theorem setQt_now (s : State) (x : QuantityTable) : (s.setQt x).now = s.now := rfl
@[simp] theorem setQt_powered (s : State) (x : QuantityTable) : (s.setQt x).powered = s.powered := rfl
@[simp] theorem setQt_coilOpen (s : State) (x : QuantityTable) : (s.setQt x).coilOpen = s.coilOpen := rfl
@[simp] theorem setQt_cfg (s : State) (x : QuantityTable) : (s.setQt x).cfg = s.cfg := rfl
@[simp] theorem setQt_lp (s : State) (x : QuantityTable) : (s.setQt x).lp = s.lp := rfl
@[simp] theorem setQt_qt (s : State) (x : QuantityTable) : (s.setQt x).qt = x := rfl
@[simp] theorem setQt_ssu (s : State) (x : QuantityTable) : (s.setQt x).ssu = s.ssu := rfl
@[simp] theorem setQt_gdu (s : State) (x : QuantityTable) : (s.setQt x).gdu = s.gdu := rfl
@[simp] theorem setQt_weu (s : State) (x : QuantityTable) : (s.setQt x).weu = s.weu := rfl
@[simp] theorem setQt_dtu (s : State) (x : QuantityTable) : (s.setQt x).dtu = s.dtu := rfl
@[simp] theorem setQt_anu (s : State) (x : QuantityTable) : (s.setQt x).anu = s.anu := rfl
@[simp] theorem setQt_psc (s : State) (x : QuantityTable) : (s.setQt x).psc = s.psc := rfl
@[simp] theorem setQt_cs (s : State) (x : QuantityTable) : (s.setQt x).cs = s.cs := rfl

@[simp] theorem setSsu_pending (s : State) (x : Scan) : (s.setSsu x).pending = s.pending := rfl
@[simp] theorem setSsu_now (s : State) (x : Scan) : (s.setSsu x).now = s.now := rfl
@[simp] theorem setSsu_powered (s : State) (x : Scan) : (s.setSsu x).powered = s.powered := rfl
@[simp] theorem setSsu_coilOpen (s : State) (x : Scan) : (s.setSsu x).coilOpen = s.coilOpen := rfl
@[simp] theorem setSsu_cfg (s : State) (x : Scan) : (s.setSsu x).cfg = s.cfg := rfl
@[simp] theorem setSsu_lp (s : State) (x : Scan) : (s.setSsu x).lp = s.lp := rfl
@[simp] theorem setSsu_qt (s : State) (x : Scan) : (s.setSsu x).qt = s.qt := rfl
@[simp] theorem setSsu_ssu (s : State) (x : Scan) : (s.setSsu x).ssu = x := rfl
@[simp] theorem setSsu_gdu (s : State) (x : Scan) : (s.setSsu x).gdu = s.gdu := rfl
@[simp] theorem setSsu_weu (s : State) (x : Scan) : (s.setSsu x).weu = s.weu := rfl
@[simp] theorem setSsu_dtu (s : State) (x : Scan) : (s.setSsu x).dtu = s.dtu := rfl
@[simp] theorem setSsu_anu (s : State) (x : Scan) : (s.setSsu x).anu = s.anu := rfl
@[simp] theorem setSsu_psc (s : State) (x : Scan) : (s.setSsu x).psc = s.psc := rfl
@[simp] theorem setSsu_cs (s : State) (x : Scan) : (s.setSsu x).cs = s.cs := rfl

@[simp] theorem setGdu_pending (s : State) (x : Table 6 Gauge) : (s.setGdu x).pending = s.pending := rfl
@[simp] theorem setGdu_now (s : State) (x : Table 6 Gauge) : (s.setGdu x).now = s.now := rfl
@[simp] theorem setGdu_powered (s : State) (x : Table 6 Gauge) : (s.setGdu x).powered = s.powered := rfl
@[simp] theorem setGdu_coilOpen (s : State) (x : Table 6 Gauge) : (s.setGdu x).coilOpen = s.coilOpen := rfl
@[simp] theorem setGdu_cfg (s : State) (x : Table 6 Gauge) : (s.setGdu x).cfg = s.cfg := rfl
@[simp] theorem setGdu_lp (s : State) (x : Table 6 Gauge) : (s.setGdu x).lp = s.lp := rfl
@[simp] theorem setGdu_qt (s : State) (x : Table 6 Gauge) : (s.setGdu x).qt = s.qt := rfl
@[simp] theorem setGdu_ssu (s : State) (x : Table 6 Gauge) : (s.setGdu x).ssu = s.ssu := rfl
@[simp] theorem setGdu_gdu (s : State) (x : Table 6 Gauge) : (s.setGdu x).gdu = x := rfl
@[simp] theorem setGdu_weu (s : State) (x : Table 6 Gauge) : (s.setGdu x).weu = s.weu := rfl
@[simp] theorem setGdu_dtu (s : State) (x : Table 6 Gauge) : (s.setGdu x).dtu = s.dtu := rfl
@[simp] theorem setGdu_anu (s : State) (x : Table 6 Gauge) : (s.setGdu x).anu = s.anu := rfl
@[simp] theorem setGdu_psc (s : State) (x : Table 6 Gauge) : (s.setGdu x).psc = s.psc := rfl
@[simp] theorem setGdu_cs (s : State) (x : Table 6 Gauge) : (s.setGdu x).cs = s.cs := rfl

@[simp] theorem setWeu_pending (s : State) (x : Evaluation) : (s.setWeu x).pending = s.pending := rfl
@[simp] theorem setWeu_now (s : State) (x : Evaluation) : (s.setWeu x).now = s.now := rfl
@[simp] theorem setWeu_powered (s : State) (x : Evaluation) : (s.setWeu x).powered = s.powered := rfl
@[simp] theorem setWeu_coilOpen (s : State) (x : Evaluation) : (s.setWeu x).coilOpen = s.coilOpen := rfl
@[simp] theorem setWeu_cfg (s : State) (x : Evaluation) : (s.setWeu x).cfg = s.cfg := rfl
@[simp] theorem setWeu_lp (s : State) (x : Evaluation) : (s.setWeu x).lp = s.lp := rfl
@[simp] theorem setWeu_qt (s : State) (x : Evaluation) : (s.setWeu x).qt = s.qt := rfl
@[simp] theorem setWeu_ssu (s : State) (x : Evaluation) : (s.setWeu x).ssu = s.ssu := rfl
@[simp] theorem setWeu_gdu (s : State) (x : Evaluation) : (s.setWeu x).gdu = s.gdu := rfl
@[simp] theorem setWeu_weu (s : State) (x : Evaluation) : (s.setWeu x).weu = x := rfl
@[simp] theorem setWeu_dtu (s : State) (x : Evaluation) : (s.setWeu x).dtu = s.dtu := rfl
@[simp] theorem setWeu_anu (s : State) (x : Evaluation) : (s.setWeu x).anu = s.anu := rfl
@[simp] theorem setWeu_psc (s : State) (x : Evaluation) : (s.setWeu x).psc = s.psc := rfl
@[simp] theorem setWeu_cs (s : State) (x : Evaluation) : (s.setWeu x).cs = s.cs := rfl

@[simp] theorem setDtu_pending (s : State) (x : Duty) : (s.setDtu x).pending = s.pending := rfl
@[simp] theorem setDtu_now (s : State) (x : Duty) : (s.setDtu x).now = s.now := rfl
@[simp] theorem setDtu_powered (s : State) (x : Duty) : (s.setDtu x).powered = s.powered := rfl
@[simp] theorem setDtu_coilOpen (s : State) (x : Duty) : (s.setDtu x).coilOpen = s.coilOpen := rfl
@[simp] theorem setDtu_cfg (s : State) (x : Duty) : (s.setDtu x).cfg = s.cfg := rfl
@[simp] theorem setDtu_lp (s : State) (x : Duty) : (s.setDtu x).lp = s.lp := rfl
@[simp] theorem setDtu_qt (s : State) (x : Duty) : (s.setDtu x).qt = s.qt := rfl
@[simp] theorem setDtu_ssu (s : State) (x : Duty) : (s.setDtu x).ssu = s.ssu := rfl
@[simp] theorem setDtu_gdu (s : State) (x : Duty) : (s.setDtu x).gdu = s.gdu := rfl
@[simp] theorem setDtu_weu (s : State) (x : Duty) : (s.setDtu x).weu = s.weu := rfl
@[simp] theorem setDtu_dtu (s : State) (x : Duty) : (s.setDtu x).dtu = x := rfl
@[simp] theorem setDtu_anu (s : State) (x : Duty) : (s.setDtu x).anu = s.anu := rfl
@[simp] theorem setDtu_psc (s : State) (x : Duty) : (s.setDtu x).psc = s.psc := rfl
@[simp] theorem setDtu_cs (s : State) (x : Duty) : (s.setDtu x).cs = s.cs := rfl

@[simp] theorem setAnu_pending (s : State) (x : Annunciation) : (s.setAnu x).pending = s.pending := rfl
@[simp] theorem setAnu_now (s : State) (x : Annunciation) : (s.setAnu x).now = s.now := rfl
@[simp] theorem setAnu_powered (s : State) (x : Annunciation) : (s.setAnu x).powered = s.powered := rfl
@[simp] theorem setAnu_coilOpen (s : State) (x : Annunciation) : (s.setAnu x).coilOpen = s.coilOpen := rfl
@[simp] theorem setAnu_cfg (s : State) (x : Annunciation) : (s.setAnu x).cfg = s.cfg := rfl
@[simp] theorem setAnu_lp (s : State) (x : Annunciation) : (s.setAnu x).lp = s.lp := rfl
@[simp] theorem setAnu_qt (s : State) (x : Annunciation) : (s.setAnu x).qt = s.qt := rfl
@[simp] theorem setAnu_ssu (s : State) (x : Annunciation) : (s.setAnu x).ssu = s.ssu := rfl
@[simp] theorem setAnu_gdu (s : State) (x : Annunciation) : (s.setAnu x).gdu = s.gdu := rfl
@[simp] theorem setAnu_weu (s : State) (x : Annunciation) : (s.setAnu x).weu = s.weu := rfl
@[simp] theorem setAnu_dtu (s : State) (x : Annunciation) : (s.setAnu x).dtu = s.dtu := rfl
@[simp] theorem setAnu_anu (s : State) (x : Annunciation) : (s.setAnu x).anu = x := rfl
@[simp] theorem setAnu_psc (s : State) (x : Annunciation) : (s.setAnu x).psc = s.psc := rfl
@[simp] theorem setAnu_cs (s : State) (x : Annunciation) : (s.setAnu x).cs = s.cs := rfl

@[simp] theorem setPsc_pending (s : State) (x : Power) : (s.setPsc x).pending = s.pending := rfl
@[simp] theorem setPsc_now (s : State) (x : Power) : (s.setPsc x).now = s.now := rfl
@[simp] theorem setPsc_powered (s : State) (x : Power) : (s.setPsc x).powered = s.powered := rfl
@[simp] theorem setPsc_coilOpen (s : State) (x : Power) : (s.setPsc x).coilOpen = s.coilOpen := rfl
@[simp] theorem setPsc_cfg (s : State) (x : Power) : (s.setPsc x).cfg = s.cfg := rfl
@[simp] theorem setPsc_lp (s : State) (x : Power) : (s.setPsc x).lp = s.lp := rfl
@[simp] theorem setPsc_qt (s : State) (x : Power) : (s.setPsc x).qt = s.qt := rfl
@[simp] theorem setPsc_ssu (s : State) (x : Power) : (s.setPsc x).ssu = s.ssu := rfl
@[simp] theorem setPsc_gdu (s : State) (x : Power) : (s.setPsc x).gdu = s.gdu := rfl
@[simp] theorem setPsc_weu (s : State) (x : Power) : (s.setPsc x).weu = s.weu := rfl
@[simp] theorem setPsc_dtu (s : State) (x : Power) : (s.setPsc x).dtu = s.dtu := rfl
@[simp] theorem setPsc_anu (s : State) (x : Power) : (s.setPsc x).anu = s.anu := rfl
@[simp] theorem setPsc_psc (s : State) (x : Power) : (s.setPsc x).psc = x := rfl
@[simp] theorem setPsc_cs (s : State) (x : Power) : (s.setPsc x).cs = s.cs := rfl

@[simp] theorem setCs_pending (s : State) (x : Store) : (s.setCs x).pending = s.pending := rfl
@[simp] theorem setCs_now (s : State) (x : Store) : (s.setCs x).now = s.now := rfl
@[simp] theorem setCs_powered (s : State) (x : Store) : (s.setCs x).powered = s.powered := rfl
@[simp] theorem setCs_coilOpen (s : State) (x : Store) : (s.setCs x).coilOpen = s.coilOpen := rfl
@[simp] theorem setCs_cfg (s : State) (x : Store) : (s.setCs x).cfg = s.cfg := rfl
@[simp] theorem setCs_lp (s : State) (x : Store) : (s.setCs x).lp = s.lp := rfl
@[simp] theorem setCs_qt (s : State) (x : Store) : (s.setCs x).qt = s.qt := rfl
@[simp] theorem setCs_ssu (s : State) (x : Store) : (s.setCs x).ssu = s.ssu := rfl
@[simp] theorem setCs_gdu (s : State) (x : Store) : (s.setCs x).gdu = s.gdu := rfl
@[simp] theorem setCs_weu (s : State) (x : Store) : (s.setCs x).weu = s.weu := rfl
@[simp] theorem setCs_dtu (s : State) (x : Store) : (s.setCs x).dtu = s.dtu := rfl
@[simp] theorem setCs_anu (s : State) (x : Store) : (s.setCs x).anu = s.anu := rfl
@[simp] theorem setCs_psc (s : State) (x : Store) : (s.setCs x).psc = s.psc := rfl
@[simp] theorem setCs_cs (s : State) (x : Store) : (s.setCs x).cs = x := rfl

@[simp] theorem setPending_self (s : State) : s.setPending s.pending = s := rfl
@[simp] theorem setPending_setPending (s : State) (x y : List Instr) : (s.setPending x).setPending y = s.setPending y := rfl
@[simp] theorem setNow_self (s : State) : s.setNow s.now = s := rfl
@[simp] theorem setNow_setNow (s : State) (x y : Nat) : (s.setNow x).setNow y = s.setNow y := rfl
@[simp] theorem setCoilOpen_self (s : State) : s.setCoilOpen s.coilOpen = s := rfl
@[simp] theorem setCoilOpen_setCoilOpen (s : State) (x y : Table 6 Bool) : (s.setCoilOpen x).setCoilOpen y = s.setCoilOpen y := rfl
@[simp] theorem setCfg_self (s : State) : s.setCfg s.cfg = s := rfl
@[simp] theorem setCfg_setCfg (s : State) (x y : Settings) : (s.setCfg x).setCfg y = s.setCfg y := rfl
@[simp] theorem setLp_self (s : State) : s.setLp s.lp = s := rfl
@[simp] theorem setLp_setLp (s : State) (x y : LinkPort) : (s.setLp x).setLp y = s.setLp y := rfl
@[simp] theorem setQt_self (s : State) : s.setQt s.qt = s := rfl
@[simp] theorem setQt_setQt (s : State) (x y : QuantityTable) : (s.setQt x).setQt y = s.setQt y := rfl
@[simp] theorem setSsu_self (s : State) : s.setSsu s.ssu = s := rfl
@[simp] theorem setSsu_setSsu (s : State) (x y : Scan) : (s.setSsu x).setSsu y = s.setSsu y := rfl
@[simp] theorem setGdu_self (s : State) : s.setGdu s.gdu = s := rfl
@[simp] theorem setGdu_setGdu (s : State) (x y : Table 6 Gauge) : (s.setGdu x).setGdu y = s.setGdu y := rfl
@[simp] theorem setWeu_self (s : State) : s.setWeu s.weu = s := rfl
@[simp] theorem setWeu_setWeu (s : State) (x y : Evaluation) : (s.setWeu x).setWeu y = s.setWeu y := rfl
@[simp] theorem setDtu_self (s : State) : s.setDtu s.dtu = s := rfl
@[simp] theorem setDtu_setDtu (s : State) (x y : Duty) : (s.setDtu x).setDtu y = s.setDtu y := rfl
@[simp] theorem setAnu_self (s : State) : s.setAnu s.anu = s := rfl
@[simp] theorem setAnu_setAnu (s : State) (x y : Annunciation) : (s.setAnu x).setAnu y = s.setAnu y := rfl
@[simp] theorem setPsc_self (s : State) : s.setPsc s.psc = s := rfl
@[simp] theorem setPsc_setPsc (s : State) (x y : Power) : (s.setPsc x).setPsc y = s.setPsc y := rfl
@[simp] theorem setCs_self (s : State) : s.setCs s.cs = s := rfl
@[simp] theorem setCs_setCs (s : State) (x y : Store) : (s.setCs x).setCs y = s.setCs y := rfl

end Sys2Proof.Machine.State
end

