-- ==== Sys2Proof/Laws/Iterate.lean ====
section
/-! SUPPORT. What an operation made for every index keeps, given what it keeps for one index. -/
namespace Sys2Proof.Machine

/-- A property kept by every turn of a fold is kept by the fold. -/
theorem foldl_keeps {α : Type} (P : State → Prop) (f : State → α → State) (hf : ∀ t x, P t → P (f t x)) :
    ∀ (l : List α) (s : State), P s → P (l.foldl f s)
  | [], _, h => h
  | x :: l, s, h => foldl_keeps P f hf l (f s x) (hf s x h)

/-- What every turn keeps, `forEach` keeps. -/
theorem forEach_keeps {n : Nat} (P : State → Prop) (f : Fin n → State → State) (hf : ∀ i t, P t → P (f i t))
    (s : State) (h : P s) : P (forEach f s) :=
  foldl_keeps P (fun t i => f i t) (fun t i => hf i t) _ s h

/-- What no turn changes, a fold does not change. -/
theorem foldl_same {α β : Type} (g : State → β) (f : State → α → State) (hf : ∀ t x, g (f t x) = g t)
    (l : List α) (s : State) : g (l.foldl f s) = g s :=
  foldl_keeps (fun t => g t = g s) f (fun t x h => (hf t x).trans h) l s rfl

/-- What no turn changes, `forEach` does not change. -/
theorem forEach_same {n : Nat} {β : Type} (g : State → β) (f : Fin n → State → State)
    (hf : ∀ i t, g (f i t) = g t) (s : State) : g (forEach f s) = g s :=
  foldl_same g (fun t i => f i t) (fun t i => hf i t) _ s

@[simp] theorem forEach_pending {n : Nat} (f : Fin n → State → State) (s : State)
    (hf : ∀ i t, (f i t).pending = t.pending) : (forEach f s).pending = s.pending := forEach_same State.pending f hf s
@[simp] theorem forEach_now {n : Nat} (f : Fin n → State → State) (s : State)
    (hf : ∀ i t, (f i t).now = t.now) : (forEach f s).now = s.now := forEach_same State.now f hf s
@[simp] theorem forEach_powered {n : Nat} (f : Fin n → State → State) (s : State)
    (hf : ∀ i t, (f i t).powered = t.powered) : (forEach f s).powered = s.powered := forEach_same State.powered f hf s
@[simp] theorem forEach_coilOpen {n : Nat} (f : Fin n → State → State) (s : State)
    (hf : ∀ i t, (f i t).coilOpen = t.coilOpen) : (forEach f s).coilOpen = s.coilOpen := forEach_same State.coilOpen f hf s
@[simp] theorem forEach_cfg {n : Nat} (f : Fin n → State → State) (s : State)
    (hf : ∀ i t, (f i t).cfg = t.cfg) : (forEach f s).cfg = s.cfg := forEach_same State.cfg f hf s
@[simp] theorem forEach_lp {n : Nat} (f : Fin n → State → State) (s : State)
    (hf : ∀ i t, (f i t).lp = t.lp) : (forEach f s).lp = s.lp := forEach_same State.lp f hf s
@[simp] theorem forEach_qt {n : Nat} (f : Fin n → State → State) (s : State)
    (hf : ∀ i t, (f i t).qt = t.qt) : (forEach f s).qt = s.qt := forEach_same State.qt f hf s
@[simp] theorem forEach_ssu {n : Nat} (f : Fin n → State → State) (s : State)
    (hf : ∀ i t, (f i t).ssu = t.ssu) : (forEach f s).ssu = s.ssu := forEach_same State.ssu f hf s
@[simp] theorem forEach_gdu {n : Nat} (f : Fin n → State → State) (s : State)
    (hf : ∀ i t, (f i t).gdu = t.gdu) : (forEach f s).gdu = s.gdu := forEach_same State.gdu f hf s
@[simp] theorem forEach_weu {n : Nat} (f : Fin n → State → State) (s : State)
    (hf : ∀ i t, (f i t).weu = t.weu) : (forEach f s).weu = s.weu := forEach_same State.weu f hf s
@[simp] theorem forEach_dtu {n : Nat} (f : Fin n → State → State) (s : State)
    (hf : ∀ i t, (f i t).dtu = t.dtu) : (forEach f s).dtu = s.dtu := forEach_same State.dtu f hf s
@[simp] theorem forEach_anu {n : Nat} (f : Fin n → State → State) (s : State)
    (hf : ∀ i t, (f i t).anu = t.anu) : (forEach f s).anu = s.anu := forEach_same State.anu f hf s
@[simp] theorem forEach_psc {n : Nat} (f : Fin n → State → State) (s : State)
    (hf : ∀ i t, (f i t).psc = t.psc) : (forEach f s).psc = s.psc := forEach_same State.psc f hf s
@[simp] theorem forEach_cs {n : Nat} (f : Fin n → State → State) (s : State)
    (hf : ∀ i t, (f i t).cs = t.cs) : (forEach f s).cs = s.cs := forEach_same State.cs f hf s

/-! ### What one turn does to its own record -/

/-- A fold over indices without repetition treats each record in its own turn, on a state that the other turns have
left alike in that record. -/
theorem foldl_turn {ι β : Type} (get : State → ι → β) (K : State → Prop) (f : ι → State → State)
    (hK : ∀ i t, K t → K (f i t)) (hother : ∀ i j t, j ≠ i → get (f i t) j = get t j) (j : ι) :
    ∀ (l : List ι) (s : State), l.Nodup → K s →
      (j ∉ l → get (l.foldl (fun t i => f i t) s) j = get s j) ∧
      (j ∈ l → ∃ u, K u ∧ get u j = get s j ∧ get (l.foldl (fun t i => f i t) s) j = get (f j u) j)
  | [], _, _, _ => by simp
  | i :: l, s, hn, hs => by
    have hn' := (List.nodup_cons.mp hn)
    have ih := foldl_turn get K f hK hother j l (f i s) hn'.2 (hK i s hs)
    refine ⟨fun hj => ?_, fun hj => ?_⟩
    · simp only [List.mem_cons, not_or] at hj
      simpa [List.foldl_cons, hother i j s hj.1] using ih.1 hj.2
    · by_cases h : j = i
      · subst h
        exact ⟨s, hs, rfl, by simpa [List.foldl_cons] using ih.1 hn'.1⟩
      · obtain ⟨u, hu, hg, he⟩ := ih.2 ((List.mem_cons.mp hj).resolve_left h)
        exact ⟨u, hu, hg.trans (hother i j s h), by simpa [List.foldl_cons] using he⟩

/-- `forEach` treats each record in its own turn, on a state with every kept property that is alike in that record. -/
theorem forEach_turn {n : Nat} {β : Type} (get : State → Fin n → β) (K : State → Prop) (f : Fin n → State → State)
    (hK : ∀ i t, K t → K (f i t)) (hother : ∀ i j t, j ≠ i → get (f i t) j = get t j) (j : Fin n) (s : State)
    (hs : K s) : ∃ u, K u ∧ get u j = get s j ∧ get (forEach f s) j = get (f j u) j :=
  (foldl_turn get K f hK hother j _ s (List.nodup_finRange n) hs).2 (List.mem_finRange j)

/-- `forEach` cut at one turn: the turns before it, it, and those after. -/
theorem forEach_cut {n : Nat} (f : Fin n → State → State) (j : Fin n) (s : State) : ∃ before after : List (Fin n),
    j ∉ before ∧ j ∉ after ∧
    forEach f s = after.foldl (fun t i => f i t) (f j (before.foldl (fun t i => f i t) s)) := by
  obtain ⟨before, after, h⟩ := List.append_of_mem (List.mem_finRange j)
  have hn := List.nodup_finRange n
  rw [h, List.nodup_append] at hn
  refine ⟨before, after, fun hb => hn.2.2 j hb j (by simp) rfl, (List.nodup_cons.mp hn.2.1).1, ?_⟩
  simp [forEach, h]

end Sys2Proof.Machine
end

