-- ==== Sys2Proof/Laws/OpsFrames.lean ====
section
/-! SUPPORT. What each operation of Machine/Ops.lean leaves as it was. -/
namespace Sys2Proof.Machine

@[simp] theorem State.setEntry_frame (s : State) (q : Fin 48) (e : Quantity) :
    (State.setEntry s q e).pending = s.pending ∧ (State.setEntry s q e).now = s.now ∧
    (State.setEntry s q e).powered = s.powered ∧ (State.setEntry s q e).coilOpen = s.coilOpen ∧
    (State.setEntry s q e).cfg = s.cfg ∧ (State.setEntry s q e).lp = s.lp ∧ (State.setEntry s q e).ssu = s.ssu ∧
    (State.setEntry s q e).gdu = s.gdu ∧ (State.setEntry s q e).weu = s.weu ∧ (State.setEntry s q e).dtu = s.dtu ∧
    (State.setEntry s q e).anu = s.anu ∧ (State.setEntry s q e).psc = s.psc ∧ (State.setEntry s q e).cs = s.cs := by
  simp only [State.setEntry]
  simp

@[simp] theorem State.setGauge_frame (s : State) (g : Fin 6) (r : Gauge) :
    (State.setGauge s g r).pending = s.pending ∧ (State.setGauge s g r).now = s.now ∧
    (State.setGauge s g r).powered = s.powered ∧ (State.setGauge s g r).coilOpen = s.coilOpen ∧
    (State.setGauge s g r).cfg = s.cfg ∧ (State.setGauge s g r).lp = s.lp ∧ (State.setGauge s g r).qt = s.qt ∧
    (State.setGauge s g r).ssu = s.ssu ∧ (State.setGauge s g r).weu = s.weu ∧ (State.setGauge s g r).dtu = s.dtu ∧
    (State.setGauge s g r).anu = s.anu ∧ (State.setGauge s g r).psc = s.psc ∧ (State.setGauge s g r).cs = s.cs := by
  simp only [State.setGauge]
  simp

@[simp] theorem State.setWarning_frame (s : State) (w : Fin 48) (r : Warning) :
    (State.setWarning s w r).pending = s.pending ∧ (State.setWarning s w r).now = s.now ∧
    (State.setWarning s w r).powered = s.powered ∧ (State.setWarning s w r).coilOpen = s.coilOpen ∧
    (State.setWarning s w r).cfg = s.cfg ∧ (State.setWarning s w r).lp = s.lp ∧
    (State.setWarning s w r).qt = s.qt ∧ (State.setWarning s w r).ssu = s.ssu ∧
    (State.setWarning s w r).gdu = s.gdu ∧ (State.setWarning s w r).dtu = s.dtu ∧
    (State.setWarning s w r).anu = s.anu ∧ (State.setWarning s w r).psc = s.psc ∧
    (State.setWarning s w r).cs = s.cs := by
  simp only [State.setWarning]
  simp

@[simp] theorem State.setLamp_frame (s : State) (l : Fin 32) (r : Lamp) :
    (State.setLamp s l r).pending = s.pending ∧ (State.setLamp s l r).now = s.now ∧
    (State.setLamp s l r).powered = s.powered ∧ (State.setLamp s l r).coilOpen = s.coilOpen ∧
    (State.setLamp s l r).cfg = s.cfg ∧ (State.setLamp s l r).lp = s.lp ∧ (State.setLamp s l r).qt = s.qt ∧
    (State.setLamp s l r).ssu = s.ssu ∧ (State.setLamp s l r).gdu = s.gdu ∧ (State.setLamp s l r).dtu = s.dtu ∧
    (State.setLamp s l r).anu = s.anu ∧ (State.setLamp s l r).psc = s.psc ∧ (State.setLamp s l r).cs = s.cs := by
  simp only [State.setLamp]
  simp

@[simp] theorem State.setSlot_frame (s : State) (i : Fin 2) (x : Slot) :
    (State.setSlot s i x).pending = s.pending ∧ (State.setSlot s i x).now = s.now ∧
    (State.setSlot s i x).powered = s.powered ∧ (State.setSlot s i x).coilOpen = s.coilOpen ∧
    (State.setSlot s i x).cfg = s.cfg ∧ (State.setSlot s i x).lp = s.lp ∧ (State.setSlot s i x).qt = s.qt ∧
    (State.setSlot s i x).ssu = s.ssu ∧ (State.setSlot s i x).gdu = s.gdu ∧ (State.setSlot s i x).weu = s.weu ∧
    (State.setSlot s i x).anu = s.anu ∧ (State.setSlot s i x).psc = s.psc ∧ (State.setSlot s i x).cs = s.cs := by
  simp only [State.setSlot]
  simp

@[simp] theorem State.reach_frame (s : State) (due : Nat) :
    (State.reach s due).pending = s.pending ∧ (State.reach s due).powered = s.powered ∧
    (State.reach s due).coilOpen = s.coilOpen ∧ (State.reach s due).cfg = s.cfg ∧ (State.reach s due).lp = s.lp ∧
    (State.reach s due).qt = s.qt ∧ (State.reach s due).ssu = s.ssu ∧ (State.reach s due).gdu = s.gdu ∧
    (State.reach s due).weu = s.weu ∧ (State.reach s due).dtu = s.dtu ∧ (State.reach s due).anu = s.anu ∧
    (State.reach s due).psc = s.psc ∧ (State.reach s due).cs = s.cs := by
  simp only [State.reach]
  simp

@[simp] theorem judgeAttention_frame (s : State) :
    (judgeAttention s).pending = s.pending ∧ (judgeAttention s).now = s.now ∧
    (judgeAttention s).powered = s.powered ∧ (judgeAttention s).coilOpen = s.coilOpen ∧
    (judgeAttention s).cfg = s.cfg ∧ (judgeAttention s).qt = s.qt ∧ (judgeAttention s).ssu = s.ssu ∧
    (judgeAttention s).gdu = s.gdu ∧ (judgeAttention s).weu = s.weu ∧ (judgeAttention s).dtu = s.dtu ∧
    (judgeAttention s).anu = s.anu ∧ (judgeAttention s).psc = s.psc ∧ (judgeAttention s).cs = s.cs := by
  simp only [judgeAttention]
  simp

@[simp] theorem postRecord_frame (r : Report) (s : State) :
    (postRecord r s).pending = s.pending ∧ (postRecord r s).now = s.now ∧ (postRecord r s).powered = s.powered ∧
    (postRecord r s).coilOpen = s.coilOpen ∧ (postRecord r s).cfg = s.cfg ∧ (postRecord r s).qt = s.qt ∧
    (postRecord r s).ssu = s.ssu ∧ (postRecord r s).gdu = s.gdu ∧ (postRecord r s).weu = s.weu ∧
    (postRecord r s).dtu = s.dtu ∧ (postRecord r s).anu = s.anu ∧ (postRecord r s).psc = s.psc ∧
    (postRecord r s).cs = s.cs := by
  simp only [postRecord]
  (repeat' split) <;> simp

@[simp] theorem holdRecord_frame (r : Report) (s : State) :
    (holdRecord r s).pending = s.pending ∧ (holdRecord r s).now = s.now ∧ (holdRecord r s).powered = s.powered ∧
    (holdRecord r s).coilOpen = s.coilOpen ∧ (holdRecord r s).cfg = s.cfg ∧ (holdRecord r s).qt = s.qt ∧
    (holdRecord r s).ssu = s.ssu ∧ (holdRecord r s).gdu = s.gdu ∧ (holdRecord r s).weu = s.weu ∧
    (holdRecord r s).dtu = s.dtu ∧ (holdRecord r s).anu = s.anu ∧ (holdRecord r s).psc = s.psc ∧
    (holdRecord r s).cs = s.cs := by
  simp only [holdRecord]
  simp

@[simp] theorem handWith_frame (cls : WarnClass) (offered : Bool) (kind : ReportKind) (subject detail : Nat) (s : State) :
    (handWith cls offered kind subject detail s).pending = s.pending ∧
    (handWith cls offered kind subject detail s).now = s.now ∧
    (handWith cls offered kind subject detail s).powered = s.powered ∧
    (handWith cls offered kind subject detail s).coilOpen = s.coilOpen ∧
    (handWith cls offered kind subject detail s).cfg = s.cfg ∧
    (handWith cls offered kind subject detail s).qt = s.qt ∧
    (handWith cls offered kind subject detail s).ssu = s.ssu ∧
    (handWith cls offered kind subject detail s).gdu = s.gdu ∧
    (handWith cls offered kind subject detail s).weu = s.weu ∧
    (handWith cls offered kind subject detail s).dtu = s.dtu ∧
    (handWith cls offered kind subject detail s).anu = s.anu ∧
    (handWith cls offered kind subject detail s).psc = s.psc ∧
    (handWith cls offered kind subject detail s).cs = s.cs := by
  simp only [handWith]
  (repeat' split) <;> simp

@[simp] theorem hand_frame (kind : ReportKind) (subject detail : Nat) (s : State) :
    (hand kind subject detail s).pending = s.pending ∧ (hand kind subject detail s).now = s.now ∧
    (hand kind subject detail s).powered = s.powered ∧ (hand kind subject detail s).coilOpen = s.coilOpen ∧
    (hand kind subject detail s).cfg = s.cfg ∧ (hand kind subject detail s).qt = s.qt ∧
    (hand kind subject detail s).ssu = s.ssu ∧ (hand kind subject detail s).gdu = s.gdu ∧
    (hand kind subject detail s).weu = s.weu ∧ (hand kind subject detail s).dtu = s.dtu ∧
    (hand kind subject detail s).anu = s.anu ∧ (hand kind subject detail s).psc = s.psc ∧
    (hand kind subject detail s).cs = s.cs := by
  simp only [hand]
  simp

@[simp] theorem handWarningRaised_frame (w : Fin 48) (cls : WarnClass) (fromLatched offered : Bool) (s : State) :
    (handWarningRaised w cls fromLatched offered s).pending = s.pending ∧
    (handWarningRaised w cls fromLatched offered s).now = s.now ∧
    (handWarningRaised w cls fromLatched offered s).powered = s.powered ∧
    (handWarningRaised w cls fromLatched offered s).coilOpen = s.coilOpen ∧
    (handWarningRaised w cls fromLatched offered s).cfg = s.cfg ∧
    (handWarningRaised w cls fromLatched offered s).qt = s.qt ∧
    (handWarningRaised w cls fromLatched offered s).ssu = s.ssu ∧
    (handWarningRaised w cls fromLatched offered s).gdu = s.gdu ∧
    (handWarningRaised w cls fromLatched offered s).weu = s.weu ∧
    (handWarningRaised w cls fromLatched offered s).dtu = s.dtu ∧
    (handWarningRaised w cls fromLatched offered s).anu = s.anu ∧
    (handWarningRaised w cls fromLatched offered s).psc = s.psc ∧
    (handWarningRaised w cls fromLatched offered s).cs = s.cs := by
  simp only [handWarningRaised]
  (repeat' split) <;> simp

@[simp] theorem releaseHeld_frame (w : Fin 48) (s : State) :
    (releaseHeld w s).pending = s.pending ∧ (releaseHeld w s).now = s.now ∧ (releaseHeld w s).powered = s.powered ∧
    (releaseHeld w s).coilOpen = s.coilOpen ∧ (releaseHeld w s).cfg = s.cfg ∧ (releaseHeld w s).qt = s.qt ∧
    (releaseHeld w s).ssu = s.ssu ∧ (releaseHeld w s).gdu = s.gdu ∧ (releaseHeld w s).weu = s.weu ∧
    (releaseHeld w s).dtu = s.dtu ∧ (releaseHeld w s).anu = s.anu ∧ (releaseHeld w s).psc = s.psc ∧
    (releaseHeld w s).cs = s.cs := by
  simp only [releaseHeld]
  (repeat' split) <;> simp

@[simp] theorem beginReply_frame (tag kind : Byte) (status : Status) (body : List Byte) (s : State) :
    (beginReply tag kind status body s).pending = s.pending ∧ (beginReply tag kind status body s).now = s.now ∧
    (beginReply tag kind status body s).powered = s.powered ∧
    (beginReply tag kind status body s).coilOpen = s.coilOpen ∧ (beginReply tag kind status body s).cfg = s.cfg ∧
    (beginReply tag kind status body s).qt = s.qt ∧ (beginReply tag kind status body s).ssu = s.ssu ∧
    (beginReply tag kind status body s).gdu = s.gdu ∧ (beginReply tag kind status body s).weu = s.weu ∧
    (beginReply tag kind status body s).dtu = s.dtu ∧ (beginReply tag kind status body s).anu = s.anu ∧
    (beginReply tag kind status body s).psc = s.psc ∧ (beginReply tag kind status body s).cs = s.cs := by
  simp only [beginReply]
  simp

@[simp] theorem restartSilence_frame (s : State) :
    (restartSilence s).pending = s.pending ∧ (restartSilence s).now = s.now ∧
    (restartSilence s).powered = s.powered ∧ (restartSilence s).coilOpen = s.coilOpen ∧
    (restartSilence s).cfg = s.cfg ∧ (restartSilence s).qt = s.qt ∧ (restartSilence s).ssu = s.ssu ∧
    (restartSilence s).gdu = s.gdu ∧ (restartSilence s).weu = s.weu ∧ (restartSilence s).dtu = s.dtu ∧
    (restartSilence s).anu = s.anu ∧ (restartSilence s).psc = s.psc ∧ (restartSilence s).cs = s.cs := by
  simp only [restartSilence]
  (repeat' split) <;> simp

@[simp] theorem endLinkLost_frame (s : State) :
    (endLinkLost s).pending = s.pending ∧ (endLinkLost s).now = s.now ∧ (endLinkLost s).powered = s.powered ∧
    (endLinkLost s).coilOpen = s.coilOpen ∧ (endLinkLost s).cfg = s.cfg ∧ (endLinkLost s).qt = s.qt ∧
    (endLinkLost s).ssu = s.ssu ∧ (endLinkLost s).gdu = s.gdu ∧ (endLinkLost s).weu = s.weu ∧
    (endLinkLost s).dtu = s.dtu ∧ (endLinkLost s).anu = s.anu ∧ (endLinkLost s).psc = s.psc ∧
    (endLinkLost s).cs = s.cs := by
  simp only [endLinkLost]
  (repeat' split) <;> simp

@[simp] theorem goodFrame_frame (s : State) :
    (goodFrame s).pending = s.pending ∧ (goodFrame s).now = s.now ∧ (goodFrame s).powered = s.powered ∧
    (goodFrame s).coilOpen = s.coilOpen ∧ (goodFrame s).cfg = s.cfg ∧ (goodFrame s).qt = s.qt ∧
    (goodFrame s).ssu = s.ssu ∧ (goodFrame s).gdu = s.gdu ∧ (goodFrame s).weu = s.weu ∧ (goodFrame s).dtu = s.dtu ∧
    (goodFrame s).anu = s.anu ∧ (goodFrame s).psc = s.psc ∧ (goodFrame s).cs = s.cs := by
  simp only [goodFrame]
  simp

@[simp] theorem overrun_frame (tag kind : Byte) (s : State) :
    (overrun tag kind s).pending = s.pending ∧ (overrun tag kind s).now = s.now ∧
    (overrun tag kind s).powered = s.powered ∧ (overrun tag kind s).coilOpen = s.coilOpen ∧
    (overrun tag kind s).cfg = s.cfg ∧ (overrun tag kind s).qt = s.qt ∧ (overrun tag kind s).ssu = s.ssu ∧
    (overrun tag kind s).gdu = s.gdu ∧ (overrun tag kind s).weu = s.weu ∧ (overrun tag kind s).dtu = s.dtu ∧
    (overrun tag kind s).anu = s.anu ∧ (overrun tag kind s).psc = s.psc ∧ (overrun tag kind s).cs = s.cs := by
  simp only [overrun]
  simp

end Sys2Proof.Machine
end

