-- ==== Sys2Proof/Laws/LampsFrames.lean ====
section
/-! SUPPORT. What each operation of Machine/Lamps.lean leaves as it was. -/
namespace Sys2Proof.Machine

@[simp] theorem judgeLamp_frame (l : Fin 32) (s : State) :
    (judgeLamp l s).pending = s.pending ∧ (judgeLamp l s).now = s.now ∧ (judgeLamp l s).powered = s.powered ∧
    (judgeLamp l s).coilOpen = s.coilOpen ∧ (judgeLamp l s).cfg = s.cfg ∧ (judgeLamp l s).lp = s.lp ∧
    (judgeLamp l s).qt = s.qt ∧ (judgeLamp l s).ssu = s.ssu ∧ (judgeLamp l s).gdu = s.gdu ∧
    (judgeLamp l s).dtu = s.dtu ∧ (judgeLamp l s).anu = s.anu ∧ (judgeLamp l s).psc = s.psc ∧
    (judgeLamp l s).cs = s.cs := by
  simp only [judgeLamp]
  simp

@[simp] theorem judgeLamps_frame (s : State) :
    (judgeLamps s).pending = s.pending ∧ (judgeLamps s).now = s.now ∧ (judgeLamps s).powered = s.powered ∧
    (judgeLamps s).coilOpen = s.coilOpen ∧ (judgeLamps s).cfg = s.cfg ∧ (judgeLamps s).lp = s.lp ∧
    (judgeLamps s).qt = s.qt ∧ (judgeLamps s).ssu = s.ssu ∧ (judgeLamps s).gdu = s.gdu ∧
    (judgeLamps s).dtu = s.dtu ∧ (judgeLamps s).anu = s.anu ∧ (judgeLamps s).psc = s.psc ∧
    (judgeLamps s).cs = s.cs := by
  simp only [judgeLamps]
  simp

@[simp] theorem judgeLampOf_frame (w : Fin 48) (s : State) :
    (judgeLampOf w s).pending = s.pending ∧ (judgeLampOf w s).now = s.now ∧ (judgeLampOf w s).powered = s.powered ∧
    (judgeLampOf w s).coilOpen = s.coilOpen ∧ (judgeLampOf w s).cfg = s.cfg ∧ (judgeLampOf w s).lp = s.lp ∧
    (judgeLampOf w s).qt = s.qt ∧ (judgeLampOf w s).ssu = s.ssu ∧ (judgeLampOf w s).gdu = s.gdu ∧
    (judgeLampOf w s).dtu = s.dtu ∧ (judgeLampOf w s).anu = s.anu ∧ (judgeLampOf w s).psc = s.psc ∧
    (judgeLampOf w s).cs = s.cs := by
  simp only [judgeLampOf]
  (repeat' split) <;> simp

@[simp] theorem setHostLevel_frame (l : Fin 32) (level : HostLevel) (s : State) :
    (setHostLevel l level s).pending = s.pending ∧ (setHostLevel l level s).now = s.now ∧
    (setHostLevel l level s).powered = s.powered ∧ (setHostLevel l level s).coilOpen = s.coilOpen ∧
    (setHostLevel l level s).cfg = s.cfg ∧ (setHostLevel l level s).lp = s.lp ∧
    (setHostLevel l level s).qt = s.qt ∧ (setHostLevel l level s).ssu = s.ssu ∧
    (setHostLevel l level s).gdu = s.gdu ∧ (setHostLevel l level s).dtu = s.dtu ∧
    (setHostLevel l level s).anu = s.anu ∧ (setHostLevel l level s).psc = s.psc ∧
    (setHostLevel l level s).cs = s.cs := by
  simp only [setHostLevel]
  simp

@[simp] theorem hostLevelsOff_frame (s : State) :
    (hostLevelsOff s).pending = s.pending ∧ (hostLevelsOff s).now = s.now ∧ (hostLevelsOff s).powered = s.powered ∧
    (hostLevelsOff s).coilOpen = s.coilOpen ∧ (hostLevelsOff s).cfg = s.cfg ∧ (hostLevelsOff s).lp = s.lp ∧
    (hostLevelsOff s).qt = s.qt ∧ (hostLevelsOff s).ssu = s.ssu ∧ (hostLevelsOff s).gdu = s.gdu ∧
    (hostLevelsOff s).dtu = s.dtu ∧ (hostLevelsOff s).anu = s.anu ∧ (hostLevelsOff s).psc = s.psc ∧
    (hostLevelsOff s).cs = s.cs := by
  simp only [hostLevelsOff]
  simp

@[simp] theorem sampleLamp_frame (openLoads : BitVec 32) (l : Fin 32) (s : State) :
    (sampleLamp openLoads l s).pending = s.pending ∧ (sampleLamp openLoads l s).now = s.now ∧
    (sampleLamp openLoads l s).powered = s.powered ∧ (sampleLamp openLoads l s).coilOpen = s.coilOpen ∧
    (sampleLamp openLoads l s).cfg = s.cfg ∧ (sampleLamp openLoads l s).qt = s.qt ∧
    (sampleLamp openLoads l s).ssu = s.ssu ∧ (sampleLamp openLoads l s).gdu = s.gdu ∧
    (sampleLamp openLoads l s).dtu = s.dtu ∧ (sampleLamp openLoads l s).anu = s.anu ∧
    (sampleLamp openLoads l s).psc = s.psc ∧ (sampleLamp openLoads l s).cs = s.cs := by
  simp only [sampleLamp]
  (repeat' split) <;> simp

@[simp] theorem acknowledgeWarning_frame (w : Fin 48) (s : State) :
    (acknowledgeWarning w s).pending = s.pending ∧ (acknowledgeWarning w s).now = s.now ∧
    (acknowledgeWarning w s).powered = s.powered ∧ (acknowledgeWarning w s).coilOpen = s.coilOpen ∧
    (acknowledgeWarning w s).cfg = s.cfg ∧ (acknowledgeWarning w s).lp = s.lp ∧
    (acknowledgeWarning w s).qt = s.qt ∧ (acknowledgeWarning w s).ssu = s.ssu ∧
    (acknowledgeWarning w s).gdu = s.gdu ∧ (acknowledgeWarning w s).dtu = s.dtu ∧
    (acknowledgeWarning w s).anu = s.anu ∧ (acknowledgeWarning w s).psc = s.psc ∧
    (acknowledgeWarning w s).cs = s.cs := by
  simp only [acknowledgeWarning]
  (repeat' split) <;> simp

end Sys2Proof.Machine
end

