-- ==== Sys2Proof/Laws/RenderingFrames.lean ====
section
/-! SUPPORT. What each operation of Machine/Rendering.lean leaves as it was. -/
namespace Sys2Proof.Machine

@[simp] theorem renderLine_frame (s : State) :
    (renderLine s).pending = s.pending ∧ (renderLine s).now = s.now ∧ (renderLine s).powered = s.powered ∧
    (renderLine s).coilOpen = s.coilOpen ∧ (renderLine s).cfg = s.cfg ∧ (renderLine s).lp = s.lp ∧
    (renderLine s).qt = s.qt ∧ (renderLine s).ssu = s.ssu ∧ (renderLine s).gdu = s.gdu ∧
    (renderLine s).weu = s.weu ∧ (renderLine s).dtu = s.dtu ∧ (renderLine s).psc = s.psc ∧
    (renderLine s).cs = s.cs := by
  simp only [renderLine]
  (repeat' split) <;> simp

@[simp] theorem completeTransfer_frame (t : Transfer) (s : State) :
    (completeTransfer t s).pending = s.pending ∧ (completeTransfer t s).now = s.now ∧
    (completeTransfer t s).powered = s.powered ∧ (completeTransfer t s).coilOpen = s.coilOpen ∧
    (completeTransfer t s).cfg = s.cfg ∧ (completeTransfer t s).lp = s.lp ∧ (completeTransfer t s).qt = s.qt ∧
    (completeTransfer t s).ssu = s.ssu ∧ (completeTransfer t s).gdu = s.gdu ∧ (completeTransfer t s).weu = s.weu ∧
    (completeTransfer t s).dtu = s.dtu ∧ (completeTransfer t s).psc = s.psc ∧ (completeTransfer t s).cs = s.cs := by
  simp only [completeTransfer]
  (repeat' split) <;> simp

end Sys2Proof.Machine
end

