-- ==== Sys2Proof/Laws/ShowingFrames.lean ====
section
/-! SUPPORT. What each operation of Machine/Showing.lean leaves as it was. -/
namespace Sys2Proof.Machine

@[simp] theorem State.setQueue_frame (s : State) (q : List Entry) :
    (State.setQueue s q).pending = s.pending ∧ (State.setQueue s q).now = s.now ∧
    (State.setQueue s q).powered = s.powered ∧ (State.setQueue s q).coilOpen = s.coilOpen ∧
    (State.setQueue s q).cfg = s.cfg ∧ (State.setQueue s q).lp = s.lp ∧ (State.setQueue s q).qt = s.qt ∧
    (State.setQueue s q).ssu = s.ssu ∧ (State.setQueue s q).gdu = s.gdu ∧ (State.setQueue s q).weu = s.weu ∧
    (State.setQueue s q).dtu = s.dtu ∧ (State.setQueue s q).psc = s.psc ∧ (State.setQueue s q).cs = s.cs := by
  simp only [State.setQueue]
  simp

@[simp] theorem State.setShown_frame (s : State) (x : Option Shown) :
    (State.setShown s x).pending = s.pending ∧ (State.setShown s x).now = s.now ∧
    (State.setShown s x).powered = s.powered ∧ (State.setShown s x).coilOpen = s.coilOpen ∧
    (State.setShown s x).cfg = s.cfg ∧ (State.setShown s x).lp = s.lp ∧ (State.setShown s x).qt = s.qt ∧
    (State.setShown s x).ssu = s.ssu ∧ (State.setShown s x).gdu = s.gdu ∧ (State.setShown s x).weu = s.weu ∧
    (State.setShown s x).dtu = s.dtu ∧ (State.setShown s x).psc = s.psc ∧ (State.setShown s x).cs = s.cs := by
  simp only [State.setShown]
  simp

@[simp] theorem renumber_frame (s : State) :
    (renumber s).pending = s.pending ∧ (renumber s).now = s.now ∧ (renumber s).powered = s.powered ∧
    (renumber s).coilOpen = s.coilOpen ∧ (renumber s).cfg = s.cfg ∧ (renumber s).lp = s.lp ∧
    (renumber s).qt = s.qt ∧ (renumber s).ssu = s.ssu ∧ (renumber s).gdu = s.gdu ∧ (renumber s).weu = s.weu ∧
    (renumber s).dtu = s.dtu ∧ (renumber s).psc = s.psc ∧ (renumber s).cs = s.cs := by
  simp only [renumber]
  simp

@[simp] theorem gainArrival_frame (s : State) :
    (gainArrival s).pending = s.pending ∧ (gainArrival s).now = s.now ∧ (gainArrival s).powered = s.powered ∧
    (gainArrival s).coilOpen = s.coilOpen ∧ (gainArrival s).cfg = s.cfg ∧ (gainArrival s).lp = s.lp ∧
    (gainArrival s).qt = s.qt ∧ (gainArrival s).ssu = s.ssu ∧ (gainArrival s).gdu = s.gdu ∧
    (gainArrival s).weu = s.weu ∧ (gainArrival s).dtu = s.dtu ∧ (gainArrival s).psc = s.psc ∧
    (gainArrival s).cs = s.cs := by
  simp only [gainArrival]
  (repeat' split) <;> simp

@[simp] theorem State.setSounder_frame (s : State) (x : Sounder) :
    (State.setSounder s x).pending = s.pending ∧ (State.setSounder s x).now = s.now ∧
    (State.setSounder s x).powered = s.powered ∧ (State.setSounder s x).coilOpen = s.coilOpen ∧
    (State.setSounder s x).cfg = s.cfg ∧ (State.setSounder s x).lp = s.lp ∧ (State.setSounder s x).qt = s.qt ∧
    (State.setSounder s x).ssu = s.ssu ∧ (State.setSounder s x).gdu = s.gdu ∧ (State.setSounder s x).weu = s.weu ∧
    (State.setSounder s x).dtu = s.dtu ∧ (State.setSounder s x).psc = s.psc ∧ (State.setSounder s x).cs = s.cs := by
  simp only [State.setSounder]
  simp

@[simp] theorem stopShown_frame (s : State) :
    (stopShown s).pending = s.pending ∧ (stopShown s).now = s.now ∧ (stopShown s).powered = s.powered ∧
    (stopShown s).coilOpen = s.coilOpen ∧ (stopShown s).cfg = s.cfg ∧ (stopShown s).lp = s.lp ∧
    (stopShown s).qt = s.qt ∧ (stopShown s).ssu = s.ssu ∧ (stopShown s).gdu = s.gdu ∧ (stopShown s).weu = s.weu ∧
    (stopShown s).dtu = s.dtu ∧ (stopShown s).psc = s.psc ∧ (stopShown s).cs = s.cs := by
  simp only [stopShown]
  simp

@[simp] theorem tellLink_frame (e : Entry) (s : State) :
    (tellLink e s).pending = s.pending ∧ (tellLink e s).now = s.now ∧ (tellLink e s).powered = s.powered ∧
    (tellLink e s).coilOpen = s.coilOpen ∧ (tellLink e s).cfg = s.cfg ∧ (tellLink e s).qt = s.qt ∧
    (tellLink e s).ssu = s.ssu ∧ (tellLink e s).gdu = s.gdu ∧ (tellLink e s).weu = s.weu ∧
    (tellLink e s).dtu = s.dtu ∧ (tellLink e s).anu = s.anu ∧ (tellLink e s).psc = s.psc ∧
    (tellLink e s).cs = s.cs := by
  simp only [tellLink]
  (repeat' split) <;> simp

@[simp] theorem handShown_frame (e : Entry) (s : State) :
    (handShown e s).pending = s.pending ∧ (handShown e s).now = s.now ∧ (handShown e s).powered = s.powered ∧
    (handShown e s).coilOpen = s.coilOpen ∧ (handShown e s).cfg = s.cfg ∧ (handShown e s).qt = s.qt ∧
    (handShown e s).ssu = s.ssu ∧ (handShown e s).gdu = s.gdu ∧ (handShown e s).weu = s.weu ∧
    (handShown e s).dtu = s.dtu ∧ (handShown e s).anu = s.anu ∧ (handShown e s).psc = s.psc ∧
    (handShown e s).cs = s.cs := by
  simp only [handShown]
  (repeat' split) <;> simp

@[simp] theorem beginShowing_frame (e : Entry) (s : State) :
    (beginShowing e s).pending = s.pending ∧ (beginShowing e s).now = s.now ∧
    (beginShowing e s).powered = s.powered ∧ (beginShowing e s).coilOpen = s.coilOpen ∧
    (beginShowing e s).cfg = s.cfg ∧ (beginShowing e s).qt = s.qt ∧ (beginShowing e s).ssu = s.ssu ∧
    (beginShowing e s).gdu = s.gdu ∧ (beginShowing e s).weu = s.weu ∧ (beginShowing e s).dtu = s.dtu ∧
    (beginShowing e s).psc = s.psc ∧ (beginShowing e s).cs = s.cs := by
  simp only [beginShowing]
  simp

@[simp] theorem showHead_frame (s : State) :
    (showHead s).pending = s.pending ∧ (showHead s).now = s.now ∧ (showHead s).powered = s.powered ∧
    (showHead s).coilOpen = s.coilOpen ∧ (showHead s).cfg = s.cfg ∧ (showHead s).qt = s.qt ∧
    (showHead s).ssu = s.ssu ∧ (showHead s).gdu = s.gdu ∧ (showHead s).weu = s.weu ∧ (showHead s).dtu = s.dtu ∧
    (showHead s).psc = s.psc ∧ (showHead s).cs = s.cs := by
  simp only [showHead]
  (repeat' split) <;> simp

@[simp] theorem State.setTrack_frame (s : State) (i : Fin 2) (k : Track) (r : TrackRecord) :
    (State.setTrack s i k r).pending = s.pending ∧ (State.setTrack s i k r).now = s.now ∧
    (State.setTrack s i k r).powered = s.powered ∧ (State.setTrack s i k r).coilOpen = s.coilOpen ∧
    (State.setTrack s i k r).cfg = s.cfg ∧ (State.setTrack s i k r).lp = s.lp ∧
    (State.setTrack s i k r).qt = s.qt ∧ (State.setTrack s i k r).ssu = s.ssu ∧
    (State.setTrack s i k r).gdu = s.gdu ∧ (State.setTrack s i k r).weu = s.weu ∧
    (State.setTrack s i k r).anu = s.anu ∧ (State.setTrack s i k r).psc = s.psc ∧
    (State.setTrack s i k r).cs = s.cs := by
  simp only [State.setTrack]
  simp

@[simp] theorem warningEntryEnded_frame (w : Fin 48) (s : State) :
    (warningEntryEnded w s).pending = s.pending ∧ (warningEntryEnded w s).now = s.now ∧
    (warningEntryEnded w s).powered = s.powered ∧ (warningEntryEnded w s).coilOpen = s.coilOpen ∧
    (warningEntryEnded w s).cfg = s.cfg ∧ (warningEntryEnded w s).lp = s.lp ∧ (warningEntryEnded w s).qt = s.qt ∧
    (warningEntryEnded w s).ssu = s.ssu ∧ (warningEntryEnded w s).gdu = s.gdu ∧
    (warningEntryEnded w s).dtu = s.dtu ∧ (warningEntryEnded w s).anu = s.anu ∧
    (warningEntryEnded w s).psc = s.psc ∧ (warningEntryEnded w s).cs = s.cs := by
  simp only [warningEntryEnded]
  simp

@[simp] theorem tellOwner_frame (cause : EndCause) (e : Entry) (s : State) :
    (tellOwner cause e s).pending = s.pending ∧ (tellOwner cause e s).now = s.now ∧
    (tellOwner cause e s).powered = s.powered ∧ (tellOwner cause e s).coilOpen = s.coilOpen ∧
    (tellOwner cause e s).cfg = s.cfg ∧ (tellOwner cause e s).lp = s.lp ∧ (tellOwner cause e s).qt = s.qt ∧
    (tellOwner cause e s).ssu = s.ssu ∧ (tellOwner cause e s).gdu = s.gdu ∧ (tellOwner cause e s).anu = s.anu ∧
    (tellOwner cause e s).psc = s.psc ∧ (tellOwner cause e s).cs = s.cs := by
  simp only [tellOwner]
  (repeat' split) <;> simp

@[simp] theorem endEntry_frame (cause : EndCause) (e : Entry) (s : State) :
    (endEntry cause e s).pending = s.pending ∧ (endEntry cause e s).now = s.now ∧
    (endEntry cause e s).powered = s.powered ∧ (endEntry cause e s).coilOpen = s.coilOpen ∧
    (endEntry cause e s).cfg = s.cfg ∧ (endEntry cause e s).qt = s.qt ∧ (endEntry cause e s).ssu = s.ssu ∧
    (endEntry cause e s).gdu = s.gdu ∧ (endEntry cause e s).anu = s.anu ∧ (endEntry cause e s).psc = s.psc ∧
    (endEntry cause e s).cs = s.cs := by
  simp only [endEntry]
  (repeat' split) <;> simp

@[simp] theorem displace_frame (sh : Shown) (s : State) :
    (displace sh s).pending = s.pending ∧ (displace sh s).now = s.now ∧ (displace sh s).powered = s.powered ∧
    (displace sh s).coilOpen = s.coilOpen ∧ (displace sh s).cfg = s.cfg ∧ (displace sh s).qt = s.qt ∧
    (displace sh s).ssu = s.ssu ∧ (displace sh s).gdu = s.gdu ∧ (displace sh s).psc = s.psc ∧
    (displace sh s).cs = s.cs := by
  simp only [displace]
  (repeat' split) <;> simp

@[simp] theorem decideLine_frame (s : State) :
    (decideLine s).pending = s.pending ∧ (decideLine s).now = s.now ∧ (decideLine s).powered = s.powered ∧
    (decideLine s).coilOpen = s.coilOpen ∧ (decideLine s).cfg = s.cfg ∧ (decideLine s).qt = s.qt ∧
    (decideLine s).ssu = s.ssu ∧ (decideLine s).gdu = s.gdu ∧ (decideLine s).psc = s.psc ∧
    (decideLine s).cs = s.cs := by
  simp only [decideLine]
  (repeat' split) <;> simp

@[simp] theorem decideAfterEnd_frame (s : State) :
    (decideAfterEnd s).pending = s.pending ∧ (decideAfterEnd s).now = s.now ∧
    (decideAfterEnd s).powered = s.powered ∧ (decideAfterEnd s).coilOpen = s.coilOpen ∧
    (decideAfterEnd s).cfg = s.cfg ∧ (decideAfterEnd s).qt = s.qt ∧ (decideAfterEnd s).ssu = s.ssu ∧
    (decideAfterEnd s).gdu = s.gdu ∧ (decideAfterEnd s).psc = s.psc ∧ (decideAfterEnd s).cs = s.cs := by
  simp only [decideAfterEnd]
  simp

@[simp] theorem updateShown_frame (o : Offer) (sh : Shown) (s : State) :
    (updateShown o sh s).pending = s.pending ∧ (updateShown o sh s).now = s.now ∧
    (updateShown o sh s).powered = s.powered ∧ (updateShown o sh s).coilOpen = s.coilOpen ∧
    (updateShown o sh s).cfg = s.cfg ∧ (updateShown o sh s).lp = s.lp ∧ (updateShown o sh s).qt = s.qt ∧
    (updateShown o sh s).ssu = s.ssu ∧ (updateShown o sh s).gdu = s.gdu ∧ (updateShown o sh s).weu = s.weu ∧
    (updateShown o sh s).dtu = s.dtu ∧ (updateShown o sh s).psc = s.psc ∧ (updateShown o sh s).cs = s.cs := by
  simp only [updateShown]
  simp

@[simp] theorem updateWaiting_frame (o : Offer) (s : State) :
    (updateWaiting o s).pending = s.pending ∧ (updateWaiting o s).now = s.now ∧
    (updateWaiting o s).powered = s.powered ∧ (updateWaiting o s).coilOpen = s.coilOpen ∧
    (updateWaiting o s).cfg = s.cfg ∧ (updateWaiting o s).lp = s.lp ∧ (updateWaiting o s).qt = s.qt ∧
    (updateWaiting o s).ssu = s.ssu ∧ (updateWaiting o s).gdu = s.gdu ∧ (updateWaiting o s).weu = s.weu ∧
    (updateWaiting o s).dtu = s.dtu ∧ (updateWaiting o s).psc = s.psc ∧ (updateWaiting o s).cs = s.cs := by
  simp only [updateWaiting]
  simp

@[simp] theorem joinQueue_frame (o : Offer) (s : State) :
    (joinQueue o s).pending = s.pending ∧ (joinQueue o s).now = s.now ∧ (joinQueue o s).powered = s.powered ∧
    (joinQueue o s).coilOpen = s.coilOpen ∧ (joinQueue o s).cfg = s.cfg ∧ (joinQueue o s).qt = s.qt ∧
    (joinQueue o s).ssu = s.ssu ∧ (joinQueue o s).gdu = s.gdu ∧ (joinQueue o s).psc = s.psc ∧
    (joinQueue o s).cs = s.cs := by
  simp only [joinQueue]
  simp

@[simp] theorem offerOnFull_frame (o : Offer) (s : State) :
    (offerOnFull o s).pending = s.pending ∧ (offerOnFull o s).now = s.now ∧ (offerOnFull o s).powered = s.powered ∧
    (offerOnFull o s).coilOpen = s.coilOpen ∧ (offerOnFull o s).cfg = s.cfg ∧ (offerOnFull o s).qt = s.qt ∧
    (offerOnFull o s).ssu = s.ssu ∧ (offerOnFull o s).gdu = s.gdu ∧ (offerOnFull o s).psc = s.psc ∧
    (offerOnFull o s).cs = s.cs := by
  simp only [offerOnFull]
  (repeat' split) <;> simp

@[simp] theorem offer_frame (o : Offer) (s : State) :
    (offer o s).pending = s.pending ∧ (offer o s).now = s.now ∧ (offer o s).powered = s.powered ∧
    (offer o s).coilOpen = s.coilOpen ∧ (offer o s).cfg = s.cfg ∧ (offer o s).qt = s.qt ∧ (offer o s).ssu = s.ssu ∧
    (offer o s).gdu = s.gdu ∧ (offer o s).psc = s.psc ∧ (offer o s).cs = s.cs := by
  simp only [offer]
  (repeat' split) <;> simp

@[simp] theorem withdraw_frame (x : AnnSource) (s : State) :
    (withdraw x s).pending = s.pending ∧ (withdraw x s).now = s.now ∧ (withdraw x s).powered = s.powered ∧
    (withdraw x s).coilOpen = s.coilOpen ∧ (withdraw x s).cfg = s.cfg ∧ (withdraw x s).qt = s.qt ∧
    (withdraw x s).ssu = s.ssu ∧ (withdraw x s).gdu = s.gdu ∧ (withdraw x s).psc = s.psc ∧
    (withdraw x s).cs = s.cs := by
  simp only [withdraw]
  (repeat' split) <;> simp

@[simp] theorem acknowledgeShown_frame (s : State) :
    (acknowledgeShown s).pending = s.pending ∧ (acknowledgeShown s).now = s.now ∧
    (acknowledgeShown s).powered = s.powered ∧ (acknowledgeShown s).coilOpen = s.coilOpen ∧
    (acknowledgeShown s).cfg = s.cfg ∧ (acknowledgeShown s).qt = s.qt ∧ (acknowledgeShown s).ssu = s.ssu ∧
    (acknowledgeShown s).gdu = s.gdu ∧ (acknowledgeShown s).psc = s.psc ∧ (acknowledgeShown s).cs = s.cs := by
  simp only [acknowledgeShown]
  (repeat' split) <;> simp

end Sys2Proof.Machine
end

