-- ==== Sys2Proof/Laws/WarningsFrames.lean ====
section
/-! SUPPORT. What each operation of Machine/Warnings.lean leaves as it was. -/
namespace Sys2Proof.Machine

@[simp] theorem State.setMark_frame (s : State) (w : Fin 48) (m : AnnMark) :
    (State.setMark s w m).pending = s.pending ∧ (State.setMark s w m).now = s.now ∧
    (State.setMark s w m).powered = s.powered ∧ (State.setMark s w m).coilOpen = s.coilOpen ∧
    (State.setMark s w m).cfg = s.cfg ∧ (State.setMark s w m).lp = s.lp ∧ (State.setMark s w m).qt = s.qt ∧
    (State.setMark s w m).ssu = s.ssu ∧ (State.setMark s w m).gdu = s.gdu ∧ (State.setMark s w m).dtu = s.dtu ∧
    (State.setMark s w m).anu = s.anu ∧ (State.setMark s w m).psc = s.psc ∧ (State.setMark s w m).cs = s.cs := by
  simp only [State.setMark]
  simp

@[simp] theorem offerWarning_frame (w : Fin 48) (kind : AnnKind) (mark : AnnMark) (s : State) :
    (offerWarning w kind mark s).pending = s.pending ∧ (offerWarning w kind mark s).now = s.now ∧
    (offerWarning w kind mark s).powered = s.powered ∧ (offerWarning w kind mark s).coilOpen = s.coilOpen ∧
    (offerWarning w kind mark s).cfg = s.cfg ∧ (offerWarning w kind mark s).qt = s.qt ∧
    (offerWarning w kind mark s).ssu = s.ssu ∧ (offerWarning w kind mark s).gdu = s.gdu ∧
    (offerWarning w kind mark s).psc = s.psc ∧ (offerWarning w kind mark s).cs = s.cs := by
  simp only [offerWarning]
  (repeat' split) <;> simp

@[simp] theorem withdrawWarning_frame (w : Fin 48) (s : State) :
    (withdrawWarning w s).pending = s.pending ∧ (withdrawWarning w s).now = s.now ∧
    (withdrawWarning w s).powered = s.powered ∧ (withdrawWarning w s).coilOpen = s.coilOpen ∧
    (withdrawWarning w s).cfg = s.cfg ∧ (withdrawWarning w s).qt = s.qt ∧ (withdrawWarning w s).ssu = s.ssu ∧
    (withdrawWarning w s).gdu = s.gdu ∧ (withdrawWarning w s).psc = s.psc ∧ (withdrawWarning w s).cs = s.cs := by
  simp only [withdrawWarning]
  (repeat' split) <;> simp

@[simp] theorem handWarningEnded_frame (w : Fin 48) (cause : WarnEnd) (s : State) :
    (handWarningEnded w cause s).pending = s.pending ∧ (handWarningEnded w cause s).now = s.now ∧
    (handWarningEnded w cause s).powered = s.powered ∧ (handWarningEnded w cause s).coilOpen = s.coilOpen ∧
    (handWarningEnded w cause s).cfg = s.cfg ∧ (handWarningEnded w cause s).qt = s.qt ∧
    (handWarningEnded w cause s).ssu = s.ssu ∧ (handWarningEnded w cause s).gdu = s.gdu ∧
    (handWarningEnded w cause s).weu = s.weu ∧ (handWarningEnded w cause s).dtu = s.dtu ∧
    (handWarningEnded w cause s).anu = s.anu ∧ (handWarningEnded w cause s).psc = s.psc ∧
    (handWarningEnded w cause s).cs = s.cs := by
  simp only [handWarningEnded]
  simp

@[simp] theorem enterActiveNew_frame (w : Fin 48) (fromLatched : Bool) (s : State) :
    (enterActiveNew w fromLatched s).pending = s.pending ∧ (enterActiveNew w fromLatched s).now = s.now ∧
    (enterActiveNew w fromLatched s).powered = s.powered ∧ (enterActiveNew w fromLatched s).coilOpen = s.coilOpen ∧
    (enterActiveNew w fromLatched s).cfg = s.cfg ∧ (enterActiveNew w fromLatched s).qt = s.qt ∧
    (enterActiveNew w fromLatched s).ssu = s.ssu ∧ (enterActiveNew w fromLatched s).gdu = s.gdu ∧
    (enterActiveNew w fromLatched s).psc = s.psc ∧ (enterActiveNew w fromLatched s).cs = s.cs := by
  simp only [enterActiveNew]
  (repeat' split) <;> simp

@[simp] theorem goOff_frame (w : Fin 48) (cause : WarnEnd) (s : State) :
    (goOff w cause s).pending = s.pending ∧ (goOff w cause s).now = s.now ∧ (goOff w cause s).powered = s.powered ∧
    (goOff w cause s).coilOpen = s.coilOpen ∧ (goOff w cause s).cfg = s.cfg ∧ (goOff w cause s).qt = s.qt ∧
    (goOff w cause s).ssu = s.ssu ∧ (goOff w cause s).gdu = s.gdu ∧ (goOff w cause s).psc = s.psc ∧
    (goOff w cause s).cs = s.cs := by
  simp only [goOff]
  simp

@[simp] theorem endAtStrength_frame (w : Fin 48) (s : State) :
    (endAtStrength w s).pending = s.pending ∧ (endAtStrength w s).now = s.now ∧
    (endAtStrength w s).powered = s.powered ∧ (endAtStrength w s).coilOpen = s.coilOpen ∧
    (endAtStrength w s).cfg = s.cfg ∧ (endAtStrength w s).qt = s.qt ∧ (endAtStrength w s).ssu = s.ssu ∧
    (endAtStrength w s).gdu = s.gdu ∧ (endAtStrength w s).psc = s.psc ∧ (endAtStrength w s).cs = s.cs := by
  simp only [endAtStrength]
  (repeat' split) <;> simp

@[simp] theorem actOnStrength_frame (w : Fin 48) (strength : Nat) (s : State) :
    (actOnStrength w strength s).pending = s.pending ∧ (actOnStrength w strength s).now = s.now ∧
    (actOnStrength w strength s).powered = s.powered ∧ (actOnStrength w strength s).coilOpen = s.coilOpen ∧
    (actOnStrength w strength s).cfg = s.cfg ∧ (actOnStrength w strength s).qt = s.qt ∧
    (actOnStrength w strength s).ssu = s.ssu ∧ (actOnStrength w strength s).gdu = s.gdu ∧
    (actOnStrength w strength s).psc = s.psc ∧ (actOnStrength w strength s).cs = s.cs := by
  simp only [actOnStrength]
  (repeat' split) <;> simp

@[simp] theorem putOff_frame (w : Fin 48) (s : State) :
    (putOff w s).pending = s.pending ∧ (putOff w s).now = s.now ∧ (putOff w s).powered = s.powered ∧
    (putOff w s).coilOpen = s.coilOpen ∧ (putOff w s).cfg = s.cfg ∧ (putOff w s).qt = s.qt ∧
    (putOff w s).ssu = s.ssu ∧ (putOff w s).gdu = s.gdu ∧ (putOff w s).psc = s.psc ∧ (putOff w s).cs = s.cs := by
  simp only [putOff]
  (repeat' split) <;> simp

@[simp] theorem State.setWarnSettings_frame (s : State) (w : Fin 48) (c : WarnSettings) :
    (State.setWarnSettings s w c).pending = s.pending ∧ (State.setWarnSettings s w c).now = s.now ∧
    (State.setWarnSettings s w c).powered = s.powered ∧ (State.setWarnSettings s w c).coilOpen = s.coilOpen ∧
    (State.setWarnSettings s w c).lp = s.lp ∧ (State.setWarnSettings s w c).qt = s.qt ∧
    (State.setWarnSettings s w c).ssu = s.ssu ∧ (State.setWarnSettings s w c).gdu = s.gdu ∧
    (State.setWarnSettings s w c).weu = s.weu ∧ (State.setWarnSettings s w c).dtu = s.dtu ∧
    (State.setWarnSettings s w c).anu = s.anu ∧ (State.setWarnSettings s w c).psc = s.psc ∧
    (State.setWarnSettings s w c).cs = s.cs := by
  simp only [State.setWarnSettings]
  simp

@[simp] theorem judgeLamp?_frame (l : Option (Fin 32)) (s : State) :
    (judgeLamp? l s).pending = s.pending ∧ (judgeLamp? l s).now = s.now ∧ (judgeLamp? l s).powered = s.powered ∧
    (judgeLamp? l s).coilOpen = s.coilOpen ∧ (judgeLamp? l s).cfg = s.cfg ∧ (judgeLamp? l s).lp = s.lp ∧
    (judgeLamp? l s).qt = s.qt ∧ (judgeLamp? l s).ssu = s.ssu ∧ (judgeLamp? l s).gdu = s.gdu ∧
    (judgeLamp? l s).dtu = s.dtu ∧ (judgeLamp? l s).anu = s.anu ∧ (judgeLamp? l s).psc = s.psc ∧
    (judgeLamp? l s).cs = s.cs := by
  simp only [judgeLamp?]
  (repeat' split) <;> simp

@[simp] theorem reconfigureWarning_frame (w : Fin 48) (c : WarnSettings) (s : State) :
    (reconfigureWarning w c s).pending = s.pending ∧ (reconfigureWarning w c s).now = s.now ∧
    (reconfigureWarning w c s).powered = s.powered ∧ (reconfigureWarning w c s).coilOpen = s.coilOpen ∧
    (reconfigureWarning w c s).qt = s.qt ∧ (reconfigureWarning w c s).ssu = s.ssu ∧
    (reconfigureWarning w c s).gdu = s.gdu ∧ (reconfigureWarning w c s).psc = s.psc ∧
    (reconfigureWarning w c s).cs = s.cs := by
  simp only [reconfigureWarning]
  (repeat' split) <;> simp

@[simp] theorem reofferWarning_frame (w : Fin 48) (s : State) :
    (reofferWarning w s).pending = s.pending ∧ (reofferWarning w s).now = s.now ∧
    (reofferWarning w s).powered = s.powered ∧ (reofferWarning w s).coilOpen = s.coilOpen ∧
    (reofferWarning w s).cfg = s.cfg ∧ (reofferWarning w s).qt = s.qt ∧ (reofferWarning w s).ssu = s.ssu ∧
    (reofferWarning w s).gdu = s.gdu ∧ (reofferWarning w s).psc = s.psc ∧ (reofferWarning w s).cs = s.cs := by
  simp only [reofferWarning]
  (repeat' split) <;> simp

end Sys2Proof.Machine
end

