-- ==== Sys2Proof/Laws/QuantitiesFrames.lean ====
section
/-! SUPPORT. What each operation of Machine/Quantities.lean leaves as it was. -/
namespace Sys2Proof.Machine

@[simp] theorem writeEntry_frame (q : Fin 48) (e : Quantity) (s : State) :
    (writeEntry q e s).pending = s.pending ∧ (writeEntry q e s).now = s.now ∧
    (writeEntry q e s).powered = s.powered ∧ (writeEntry q e s).coilOpen = s.coilOpen ∧
    (writeEntry q e s).cfg = s.cfg ∧ (writeEntry q e s).ssu = s.ssu ∧ (writeEntry q e s).gdu = s.gdu ∧
    (writeEntry q e s).psc = s.psc ∧ (writeEntry q e s).cs = s.cs := by
  simp only [writeEntry]
  (repeat' split) <;> simp

@[simp] theorem handRecovered_frame (q : Fin 48) (before : QStatus) (s : State) :
    (handRecovered q before s).pending = s.pending ∧ (handRecovered q before s).now = s.now ∧
    (handRecovered q before s).powered = s.powered ∧ (handRecovered q before s).coilOpen = s.coilOpen ∧
    (handRecovered q before s).cfg = s.cfg ∧ (handRecovered q before s).qt = s.qt ∧
    (handRecovered q before s).ssu = s.ssu ∧ (handRecovered q before s).gdu = s.gdu ∧
    (handRecovered q before s).weu = s.weu ∧ (handRecovered q before s).dtu = s.dtu ∧
    (handRecovered q before s).anu = s.anu ∧ (handRecovered q before s).psc = s.psc ∧
    (handRecovered q before s).cs = s.cs := by
  simp only [handRecovered]
  (repeat' split) <;> simp

@[simp] theorem applyValue_frame (q : Fin 48) (limit : Nat) (v : Int) (s : State) :
    (applyValue q limit v s).pending = s.pending ∧ (applyValue q limit v s).now = s.now ∧
    (applyValue q limit v s).powered = s.powered ∧ (applyValue q limit v s).coilOpen = s.coilOpen ∧
    (applyValue q limit v s).cfg = s.cfg ∧ (applyValue q limit v s).ssu = s.ssu ∧
    (applyValue q limit v s).gdu = s.gdu ∧ (applyValue q limit v s).psc = s.psc ∧
    (applyValue q limit v s).cs = s.cs := by
  simp only [applyValue]
  simp

@[simp] theorem applyFaultMarker_frame (q : Fin 48) (s : State) :
    (applyFaultMarker q s).pending = s.pending ∧ (applyFaultMarker q s).now = s.now ∧
    (applyFaultMarker q s).powered = s.powered ∧ (applyFaultMarker q s).coilOpen = s.coilOpen ∧
    (applyFaultMarker q s).cfg = s.cfg ∧ (applyFaultMarker q s).ssu = s.ssu ∧ (applyFaultMarker q s).gdu = s.gdu ∧
    (applyFaultMarker q s).weu = s.weu ∧ (applyFaultMarker q s).dtu = s.dtu ∧ (applyFaultMarker q s).anu = s.anu ∧
    (applyFaultMarker q s).psc = s.psc ∧ (applyFaultMarker q s).cs = s.cs := by
  simp only [applyFaultMarker]
  (repeat' split) <;> simp

@[simp] theorem refreshExpired_frame (q : Fin 48) (s : State) :
    (refreshExpired q s).pending = s.pending ∧ (refreshExpired q s).now = s.now ∧
    (refreshExpired q s).powered = s.powered ∧ (refreshExpired q s).coilOpen = s.coilOpen ∧
    (refreshExpired q s).cfg = s.cfg ∧ (refreshExpired q s).ssu = s.ssu ∧ (refreshExpired q s).gdu = s.gdu ∧
    (refreshExpired q s).weu = s.weu ∧ (refreshExpired q s).dtu = s.dtu ∧ (refreshExpired q s).anu = s.anu ∧
    (refreshExpired q s).psc = s.psc ∧ (refreshExpired q s).cs = s.cs := by
  simp only [refreshExpired]
  (repeat' split) <;> simp

@[simp] theorem deliverInLimit_frame (q : Fin 48) (f : ScanFields) (filtered : Nat) (s : State) :
    (deliverInLimit q f filtered s).pending = s.pending ∧ (deliverInLimit q f filtered s).now = s.now ∧
    (deliverInLimit q f filtered s).powered = s.powered ∧ (deliverInLimit q f filtered s).coilOpen = s.coilOpen ∧
    (deliverInLimit q f filtered s).cfg = s.cfg ∧ (deliverInLimit q f filtered s).ssu = s.ssu ∧
    (deliverInLimit q f filtered s).gdu = s.gdu ∧ (deliverInLimit q f filtered s).psc = s.psc ∧
    (deliverInLimit q f filtered s).cs = s.cs := by
  simp only [deliverInLimit]
  (repeat' split) <;> simp

@[simp] theorem deliverOutOfLimit_frame (q : Fin 48) (f : ScanFields) (detail : Nat) (s : State) :
    (deliverOutOfLimit q f detail s).pending = s.pending ∧ (deliverOutOfLimit q f detail s).now = s.now ∧
    (deliverOutOfLimit q f detail s).powered = s.powered ∧ (deliverOutOfLimit q f detail s).coilOpen = s.coilOpen ∧
    (deliverOutOfLimit q f detail s).cfg = s.cfg ∧ (deliverOutOfLimit q f detail s).ssu = s.ssu ∧
    (deliverOutOfLimit q f detail s).gdu = s.gdu ∧ (deliverOutOfLimit q f detail s).weu = s.weu ∧
    (deliverOutOfLimit q f detail s).dtu = s.dtu ∧ (deliverOutOfLimit q f detail s).anu = s.anu ∧
    (deliverOutOfLimit q f detail s).psc = s.psc ∧ (deliverOutOfLimit q f detail s).cs = s.cs := by
  simp only [deliverOutOfLimit]
  (repeat' split) <;> simp

@[simp] theorem deliver_frame (input : Fin 16) (raw filtered : Nat) (q : Fin 48) (s : State) :
    (deliver input raw filtered q s).pending = s.pending ∧ (deliver input raw filtered q s).now = s.now ∧
    (deliver input raw filtered q s).powered = s.powered ∧ (deliver input raw filtered q s).coilOpen = s.coilOpen ∧
    (deliver input raw filtered q s).cfg = s.cfg ∧ (deliver input raw filtered q s).ssu = s.ssu ∧
    (deliver input raw filtered q s).gdu = s.gdu ∧ (deliver input raw filtered q s).psc = s.psc ∧
    (deliver input raw filtered q s).cs = s.cs := by
  simp only [deliver]
  (repeat' split) <;> simp

@[simp] theorem scanStopped_frame (q : Fin 48) (s : State) :
    (scanStopped q s).pending = s.pending ∧ (scanStopped q s).now = s.now ∧ (scanStopped q s).powered = s.powered ∧
    (scanStopped q s).coilOpen = s.coilOpen ∧ (scanStopped q s).cfg = s.cfg ∧ (scanStopped q s).ssu = s.ssu ∧
    (scanStopped q s).gdu = s.gdu ∧ (scanStopped q s).weu = s.weu ∧ (scanStopped q s).dtu = s.dtu ∧
    (scanStopped q s).anu = s.anu ∧ (scanStopped q s).psc = s.psc ∧ (scanStopped q s).cs = s.cs := by
  simp only [scanStopped]
  (repeat' split) <;> simp

@[simp] theorem sampleSwitch_frame (levels : BitVec 8) (q : Fin 48) (s : State) :
    (sampleSwitch levels q s).pending = s.pending ∧ (sampleSwitch levels q s).now = s.now ∧
    (sampleSwitch levels q s).powered = s.powered ∧ (sampleSwitch levels q s).coilOpen = s.coilOpen ∧
    (sampleSwitch levels q s).cfg = s.cfg ∧ (sampleSwitch levels q s).ssu = s.ssu ∧
    (sampleSwitch levels q s).gdu = s.gdu ∧ (sampleSwitch levels q s).psc = s.psc ∧
    (sampleSwitch levels q s).cs = s.cs := by
  simp only [sampleSwitch]
  (repeat' split) <;> simp

@[simp] theorem configureEntry_frame (q : Fin 48) (new : QSource) (s : State) :
    (configureEntry q new s).pending = s.pending ∧ (configureEntry q new s).now = s.now ∧
    (configureEntry q new s).powered = s.powered ∧ (configureEntry q new s).coilOpen = s.coilOpen ∧
    (configureEntry q new s).lp = s.lp ∧ (configureEntry q new s).ssu = s.ssu ∧
    (configureEntry q new s).gdu = s.gdu ∧ (configureEntry q new s).weu = s.weu ∧
    (configureEntry q new s).dtu = s.dtu ∧ (configureEntry q new s).anu = s.anu ∧
    (configureEntry q new s).psc = s.psc ∧ (configureEntry q new s).cs = s.cs := by
  simp only [configureEntry]
  (repeat' split) <;> simp

end Sys2Proof.Machine
end

