-- ==== Sys2Proof/Laws/DutyFrames.lean ====
section
/-! SUPPORT. What each operation of Machine/Duty.lean leaves as it was. -/
namespace Sys2Proof.Machine

@[simp] theorem offerTrack_frame (i : Fin 2) (k : Track) (s : State) :
    (offerTrack i k s).pending = s.pending ∧ (offerTrack i k s).now = s.now ∧
    (offerTrack i k s).powered = s.powered ∧ (offerTrack i k s).coilOpen = s.coilOpen ∧
    (offerTrack i k s).cfg = s.cfg ∧ (offerTrack i k s).qt = s.qt ∧ (offerTrack i k s).ssu = s.ssu ∧
    (offerTrack i k s).gdu = s.gdu ∧ (offerTrack i k s).psc = s.psc ∧ (offerTrack i k s).cs = s.cs := by
  simp only [offerTrack]
  (repeat' split) <;> simp

@[simp] theorem withdrawTrack_frame (i : Fin 2) (k : Track) (s : State) :
    (withdrawTrack i k s).pending = s.pending ∧ (withdrawTrack i k s).now = s.now ∧
    (withdrawTrack i k s).powered = s.powered ∧ (withdrawTrack i k s).coilOpen = s.coilOpen ∧
    (withdrawTrack i k s).cfg = s.cfg ∧ (withdrawTrack i k s).qt = s.qt ∧ (withdrawTrack i k s).ssu = s.ssu ∧
    (withdrawTrack i k s).gdu = s.gdu ∧ (withdrawTrack i k s).psc = s.psc ∧ (withdrawTrack i k s).cs = s.cs := by
  simp only [withdrawTrack]
  (repeat' split) <;> simp

@[simp] theorem handStage_frame (i : Fin 2) (k : Track) (old new : Stage) (s : State) :
    (handStage i k old new s).pending = s.pending ∧ (handStage i k old new s).now = s.now ∧
    (handStage i k old new s).powered = s.powered ∧ (handStage i k old new s).coilOpen = s.coilOpen ∧
    (handStage i k old new s).cfg = s.cfg ∧ (handStage i k old new s).qt = s.qt ∧
    (handStage i k old new s).ssu = s.ssu ∧ (handStage i k old new s).gdu = s.gdu ∧
    (handStage i k old new s).weu = s.weu ∧ (handStage i k old new s).dtu = s.dtu ∧
    (handStage i k old new s).anu = s.anu ∧ (handStage i k old new s).psc = s.psc ∧
    (handStage i k old new s).cs = s.cs := by
  simp only [handStage]
  simp

@[simp] theorem State.setStage_frame (s : State) (i : Fin 2) (k : Track) (stage : Stage) (acknowledged : Bool) :
    (State.setStage s i k stage acknowledged).pending = s.pending ∧
    (State.setStage s i k stage acknowledged).now = s.now ∧
    (State.setStage s i k stage acknowledged).powered = s.powered ∧
    (State.setStage s i k stage acknowledged).coilOpen = s.coilOpen ∧
    (State.setStage s i k stage acknowledged).cfg = s.cfg ∧ (State.setStage s i k stage acknowledged).lp = s.lp ∧
    (State.setStage s i k stage acknowledged).qt = s.qt ∧ (State.setStage s i k stage acknowledged).ssu = s.ssu ∧
    (State.setStage s i k stage acknowledged).gdu = s.gdu ∧ (State.setStage s i k stage acknowledged).weu = s.weu ∧
    (State.setStage s i k stage acknowledged).anu = s.anu ∧ (State.setStage s i k stage acknowledged).psc = s.psc ∧
    (State.setStage s i k stage acknowledged).cs = s.cs := by
  simp only [State.setStage]
  simp

@[simp] theorem riseTrack_frame (i : Fin 2) (k : Track) (new : Stage) (s : State) :
    (riseTrack i k new s).pending = s.pending ∧ (riseTrack i k new s).now = s.now ∧
    (riseTrack i k new s).powered = s.powered ∧ (riseTrack i k new s).coilOpen = s.coilOpen ∧
    (riseTrack i k new s).cfg = s.cfg ∧ (riseTrack i k new s).qt = s.qt ∧ (riseTrack i k new s).ssu = s.ssu ∧
    (riseTrack i k new s).gdu = s.gdu ∧ (riseTrack i k new s).psc = s.psc ∧ (riseTrack i k new s).cs = s.cs := by
  simp only [riseTrack]
  simp

@[simp] theorem fallTrack_frame (i : Fin 2) (k : Track) (new : Stage) (s : State) :
    (fallTrack i k new s).pending = s.pending ∧ (fallTrack i k new s).now = s.now ∧
    (fallTrack i k new s).powered = s.powered ∧ (fallTrack i k new s).coilOpen = s.coilOpen ∧
    (fallTrack i k new s).cfg = s.cfg ∧ (fallTrack i k new s).qt = s.qt ∧ (fallTrack i k new s).ssu = s.ssu ∧
    (fallTrack i k new s).gdu = s.gdu ∧ (fallTrack i k new s).psc = s.psc ∧ (fallTrack i k new s).cs = s.cs := by
  simp only [fallTrack]
  simp

@[simp] theorem recomputeTrack_frame (i : Fin 2) (k : Track) (s : State) :
    (recomputeTrack i k s).pending = s.pending ∧ (recomputeTrack i k s).now = s.now ∧
    (recomputeTrack i k s).powered = s.powered ∧ (recomputeTrack i k s).coilOpen = s.coilOpen ∧
    (recomputeTrack i k s).cfg = s.cfg ∧ (recomputeTrack i k s).qt = s.qt ∧ (recomputeTrack i k s).ssu = s.ssu ∧
    (recomputeTrack i k s).gdu = s.gdu ∧ (recomputeTrack i k s).psc = s.psc ∧ (recomputeTrack i k s).cs = s.cs := by
  simp only [recomputeTrack]
  (repeat' split) <;> simp

@[simp] theorem recomputeStages_frame (i : Fin 2) (s : State) :
    (recomputeStages i s).pending = s.pending ∧ (recomputeStages i s).now = s.now ∧
    (recomputeStages i s).powered = s.powered ∧ (recomputeStages i s).coilOpen = s.coilOpen ∧
    (recomputeStages i s).cfg = s.cfg ∧ (recomputeStages i s).qt = s.qt ∧ (recomputeStages i s).ssu = s.ssu ∧
    (recomputeStages i s).gdu = s.gdu ∧ (recomputeStages i s).psc = s.psc ∧ (recomputeStages i s).cs = s.cs := by
  simp only [recomputeStages]
  simp

@[simp] theorem insertTrack_frame (i : Fin 2) (k : Track) (s : State) :
    (insertTrack i k s).pending = s.pending ∧ (insertTrack i k s).now = s.now ∧
    (insertTrack i k s).powered = s.powered ∧ (insertTrack i k s).coilOpen = s.coilOpen ∧
    (insertTrack i k s).cfg = s.cfg ∧ (insertTrack i k s).qt = s.qt ∧ (insertTrack i k s).ssu = s.ssu ∧
    (insertTrack i k s).gdu = s.gdu ∧ (insertTrack i k s).psc = s.psc ∧ (insertTrack i k s).cs = s.cs := by
  simp only [insertTrack]
  (repeat' split) <;> simp

@[simp] theorem reofferTrack_frame (i : Fin 2) (k : Track) (s : State) :
    (reofferTrack i k s).pending = s.pending ∧ (reofferTrack i k s).now = s.now ∧
    (reofferTrack i k s).powered = s.powered ∧ (reofferTrack i k s).coilOpen = s.coilOpen ∧
    (reofferTrack i k s).cfg = s.cfg ∧ (reofferTrack i k s).qt = s.qt ∧ (reofferTrack i k s).ssu = s.ssu ∧
    (reofferTrack i k s).gdu = s.gdu ∧ (reofferTrack i k s).psc = s.psc ∧ (reofferTrack i k s).cs = s.cs := by
  simp only [reofferTrack]
  (repeat' split) <;> simp

@[simp] theorem reofferSlot_frame (i : Fin 2) (s : State) :
    (reofferSlot i s).pending = s.pending ∧ (reofferSlot i s).now = s.now ∧ (reofferSlot i s).powered = s.powered ∧
    (reofferSlot i s).coilOpen = s.coilOpen ∧ (reofferSlot i s).cfg = s.cfg ∧ (reofferSlot i s).qt = s.qt ∧
    (reofferSlot i s).ssu = s.ssu ∧ (reofferSlot i s).gdu = s.gdu ∧ (reofferSlot i s).psc = s.psc ∧
    (reofferSlot i s).cs = s.cs := by
  simp only [reofferSlot]
  simp

@[simp] theorem loadStaged_frame (i : Fin 2) (s : State) :
    (loadStaged i s).pending = s.pending ∧ (loadStaged i s).now = s.now ∧ (loadStaged i s).powered = s.powered ∧
    (loadStaged i s).coilOpen = s.coilOpen ∧ (loadStaged i s).qt = s.qt ∧ (loadStaged i s).ssu = s.ssu ∧
    (loadStaged i s).gdu = s.gdu ∧ (loadStaged i s).weu = s.weu ∧ (loadStaged i s).anu = s.anu ∧
    (loadStaged i s).psc = s.psc ∧ (loadStaged i s).cs = s.cs := by
  simp only [loadStaged]
  (repeat' split) <;> simp

@[simp] theorem dayStart_frame (i : Fin 2) (s : State) :
    (dayStart i s).pending = s.pending ∧ (dayStart i s).now = s.now ∧ (dayStart i s).powered = s.powered ∧
    (dayStart i s).coilOpen = s.coilOpen ∧ (dayStart i s).qt = s.qt ∧ (dayStart i s).ssu = s.ssu ∧
    (dayStart i s).gdu = s.gdu ∧ (dayStart i s).weu = s.weu ∧ (dayStart i s).anu = s.anu ∧
    (dayStart i s).psc = s.psc ∧ (dayStart i s).cs = s.cs := by
  simp only [dayStart]
  (repeat' split) <;> simp

@[simp] theorem weekStart_frame (i : Fin 2) (s : State) :
    (weekStart i s).pending = s.pending ∧ (weekStart i s).now = s.now ∧ (weekStart i s).powered = s.powered ∧
    (weekStart i s).coilOpen = s.coilOpen ∧ (weekStart i s).cfg = s.cfg ∧ (weekStart i s).qt = s.qt ∧
    (weekStart i s).ssu = s.ssu ∧ (weekStart i s).gdu = s.gdu ∧ (weekStart i s).weu = s.weu ∧
    (weekStart i s).anu = s.anu ∧ (weekStart i s).psc = s.psc ∧ (weekStart i s).cs = s.cs := by
  simp only [weekStart]
  (repeat' split) <;> simp

@[simp] theorem mismatchCheck_frame (s : State) :
    (mismatchCheck s).pending = s.pending ∧ (mismatchCheck s).now = s.now ∧ (mismatchCheck s).powered = s.powered ∧
    (mismatchCheck s).coilOpen = s.coilOpen ∧ (mismatchCheck s).cfg = s.cfg ∧ (mismatchCheck s).qt = s.qt ∧
    (mismatchCheck s).ssu = s.ssu ∧ (mismatchCheck s).gdu = s.gdu ∧ (mismatchCheck s).weu = s.weu ∧
    (mismatchCheck s).anu = s.anu ∧ (mismatchCheck s).psc = s.psc ∧ (mismatchCheck s).cs = s.cs := by
  simp only [mismatchCheck]
  (repeat' split) <;> simp

@[simp] theorem writeRemaining_frame (i : Fin 2) (daily : Bool) (s : State) :
    (writeRemaining i daily s).pending = s.pending ∧ (writeRemaining i daily s).now = s.now ∧
    (writeRemaining i daily s).powered = s.powered ∧ (writeRemaining i daily s).coilOpen = s.coilOpen ∧
    (writeRemaining i daily s).cfg = s.cfg ∧ (writeRemaining i daily s).ssu = s.ssu ∧
    (writeRemaining i daily s).gdu = s.gdu ∧ (writeRemaining i daily s).psc = s.psc ∧
    (writeRemaining i daily s).cs = s.cs := by
  simp only [writeRemaining]
  (repeat' split) <;> simp

@[simp] theorem writeDerived_frame (i : Fin 2) (s : State) :
    (writeDerived i s).pending = s.pending ∧ (writeDerived i s).now = s.now ∧
    (writeDerived i s).powered = s.powered ∧ (writeDerived i s).coilOpen = s.coilOpen ∧
    (writeDerived i s).cfg = s.cfg ∧ (writeDerived i s).ssu = s.ssu ∧ (writeDerived i s).gdu = s.gdu ∧
    (writeDerived i s).psc = s.psc ∧ (writeDerived i s).cs = s.cs := by
  simp only [writeDerived]
  simp

@[simp] theorem writeAbsent_frame (q : Fin 48) (s : State) :
    (writeAbsent q s).pending = s.pending ∧ (writeAbsent q s).now = s.now ∧ (writeAbsent q s).powered = s.powered ∧
    (writeAbsent q s).coilOpen = s.coilOpen ∧ (writeAbsent q s).cfg = s.cfg ∧ (writeAbsent q s).ssu = s.ssu ∧
    (writeAbsent q s).gdu = s.gdu ∧ (writeAbsent q s).psc = s.psc ∧ (writeAbsent q s).cs = s.cs := by
  simp only [writeAbsent]
  simp

@[simp] theorem account_frame (i : Fin 2) (s : State) :
    (account i s).pending = s.pending ∧ (account i s).now = s.now ∧ (account i s).powered = s.powered ∧
    (account i s).coilOpen = s.coilOpen ∧ (account i s).ssu = s.ssu ∧ (account i s).gdu = s.gdu ∧
    (account i s).psc = s.psc ∧ (account i s).cs = s.cs := by
  simp only [account]
  (repeat' split) <;> simp

@[simp] theorem minuteExpired_frame (due : Nat) (slot2First : Bool) (s : State) :
    (minuteExpired due slot2First s).pending = s.pending ∧ (minuteExpired due slot2First s).now = s.now ∧
    (minuteExpired due slot2First s).powered = s.powered ∧ (minuteExpired due slot2First s).coilOpen = s.coilOpen ∧
    (minuteExpired due slot2First s).ssu = s.ssu ∧ (minuteExpired due slot2First s).gdu = s.gdu ∧
    (minuteExpired due slot2First s).psc = s.psc ∧ (minuteExpired due slot2First s).cs = s.cs := by
  simp only [minuteExpired]
  (repeat' split) <;> simp

@[simp] theorem dutyReconfigured_frame (i : Fin 2) (s : State) :
    (dutyReconfigured i s).pending = s.pending ∧ (dutyReconfigured i s).now = s.now ∧
    (dutyReconfigured i s).powered = s.powered ∧ (dutyReconfigured i s).coilOpen = s.coilOpen ∧
    (dutyReconfigured i s).cfg = s.cfg ∧ (dutyReconfigured i s).ssu = s.ssu ∧ (dutyReconfigured i s).gdu = s.gdu ∧
    (dutyReconfigured i s).psc = s.psc ∧ (dutyReconfigured i s).cs = s.cs := by
  simp only [dutyReconfigured]
  (repeat' split) <;> simp

@[simp] theorem configureDuty_frame (c : DutySettings) (s : State) :
    (configureDuty c s).pending = s.pending ∧ (configureDuty c s).now = s.now ∧
    (configureDuty c s).powered = s.powered ∧ (configureDuty c s).coilOpen = s.coilOpen ∧
    (configureDuty c s).ssu = s.ssu ∧ (configureDuty c s).gdu = s.gdu ∧ (configureDuty c s).psc = s.psc ∧
    (configureDuty c s).cs = s.cs := by
  simp only [configureDuty]
  simp

@[simp] theorem clearMismatch_frame (i : Fin 2) (s : State) :
    (clearMismatch i s).pending = s.pending ∧ (clearMismatch i s).now = s.now ∧
    (clearMismatch i s).powered = s.powered ∧ (clearMismatch i s).coilOpen = s.coilOpen ∧
    (clearMismatch i s).cfg = s.cfg ∧ (clearMismatch i s).lp = s.lp ∧ (clearMismatch i s).qt = s.qt ∧
    (clearMismatch i s).ssu = s.ssu ∧ (clearMismatch i s).gdu = s.gdu ∧ (clearMismatch i s).weu = s.weu ∧
    (clearMismatch i s).anu = s.anu ∧ (clearMismatch i s).psc = s.psc ∧ (clearMismatch i s).cs = s.cs := by
  simp only [clearMismatch]
  (repeat' split) <;> simp

@[simp] theorem insertCard_frame (i : Fin 2) (token : BitVec 32) (activity : Activity) (c : Summary) (s : State) :
    (insertCard i token activity c s).pending = s.pending ∧ (insertCard i token activity c s).now = s.now ∧
    (insertCard i token activity c s).powered = s.powered ∧
    (insertCard i token activity c s).coilOpen = s.coilOpen ∧ (insertCard i token activity c s).cfg = s.cfg ∧
    (insertCard i token activity c s).ssu = s.ssu ∧ (insertCard i token activity c s).gdu = s.gdu ∧
    (insertCard i token activity c s).psc = s.psc ∧ (insertCard i token activity c s).cs = s.cs := by
  simp only [insertCard]
  simp

@[simp] theorem removeCard_frame (i : Fin 2) (s : State) :
    (removeCard i s).pending = s.pending ∧ (removeCard i s).now = s.now ∧ (removeCard i s).powered = s.powered ∧
    (removeCard i s).coilOpen = s.coilOpen ∧ (removeCard i s).cfg = s.cfg ∧ (removeCard i s).ssu = s.ssu ∧
    (removeCard i s).gdu = s.gdu ∧ (removeCard i s).psc = s.psc ∧ (removeCard i s).cs = s.cs := by
  simp only [removeCard]
  simp

end Sys2Proof.Machine
end

