-- ==== Sys2Proof/Laws/EvaluationFrames.lean ====
section
/-! SUPPORT. What each operation of Machine/Evaluation.lean leaves as it was. -/
namespace Sys2Proof.Machine

@[simp] theorem State.setStrength_frame (s : State) (w : Fin 48) (r : Strength) :
    (State.setStrength s w r).pending = s.pending ∧ (State.setStrength s w r).now = s.now ∧
    (State.setStrength s w r).powered = s.powered ∧ (State.setStrength s w r).coilOpen = s.coilOpen ∧
    (State.setStrength s w r).cfg = s.cfg ∧ (State.setStrength s w r).lp = s.lp ∧
    (State.setStrength s w r).qt = s.qt ∧ (State.setStrength s w r).ssu = s.ssu ∧
    (State.setStrength s w r).gdu = s.gdu ∧ (State.setStrength s w r).dtu = s.dtu ∧
    (State.setStrength s w r).anu = s.anu ∧ (State.setStrength s w r).psc = s.psc ∧
    (State.setStrength s w r).cs = s.cs := by
  simp only [State.setStrength]
  simp

@[simp] theorem startPass_frame (due : Nat) (s : State) :
    (startPass due s).pending = s.pending ∧ (startPass due s).now = s.now ∧ (startPass due s).powered = s.powered ∧
    (startPass due s).coilOpen = s.coilOpen ∧ (startPass due s).cfg = s.cfg ∧ (startPass due s).lp = s.lp ∧
    (startPass due s).qt = s.qt ∧ (startPass due s).ssu = s.ssu ∧ (startPass due s).gdu = s.gdu ∧
    (startPass due s).dtu = s.dtu ∧ (startPass due s).anu = s.anu ∧ (startPass due s).psc = s.psc ∧
    (startPass due s).cs = s.cs := by
  simp only [startPass]
  simp

@[simp] theorem endCriterion_frame (p : Pass) (s : State) :
    (endCriterion p s).pending = s.pending ∧ (endCriterion p s).now = s.now ∧
    (endCriterion p s).powered = s.powered ∧ (endCriterion p s).coilOpen = s.coilOpen ∧
    (endCriterion p s).cfg = s.cfg ∧ (endCriterion p s).qt = s.qt ∧ (endCriterion p s).ssu = s.ssu ∧
    (endCriterion p s).gdu = s.gdu ∧ (endCriterion p s).psc = s.psc ∧ (endCriterion p s).cs = s.cs := by
  simp only [endCriterion]
  (repeat' split) <;> simp

/-- Time passes on the clock, and beside it only in the pass under way. -/
@[simp] theorem State.idle_frame (s : State) :
    s.idle.pending = s.pending ∧ s.idle.now = s.now + 1 ∧ s.idle.powered = s.powered ∧ s.idle.coilOpen = s.coilOpen ∧
    s.idle.cfg = s.cfg ∧ s.idle.lp = s.lp ∧ s.idle.qt = s.qt ∧ s.idle.ssu = s.ssu ∧ s.idle.gdu = s.gdu ∧
    s.idle.dtu = s.dtu ∧ s.idle.anu = s.anu ∧ s.idle.psc = s.psc ∧ s.idle.cs = s.cs := by
  simp only [State.idle]
  (repeat' split) <;> simp

/-- With no pass under way the unit is left as it was, too. -/
theorem State.idle_weu (s : State) (h : s.weu.pass = none) : s.idle.weu = s.weu := by
  simp [State.idle, h]

/-- The values of a criterion's terms regrouped clause by clause, when all of them have been read. -/
theorem byClause_map (f : Term → Nat) (c : Criterion) : byClause c (c.flatten.map f) = c.map fun l => l.map f := by
  induction c with
  | nil => rfl
  | cons l rest ih =>
    simp only [byClause, List.flatten_cons, List.map_append, List.map_cons]
    rw [List.take_left' (by simp), List.drop_left' (by simp), ih]

/-- Clauses keep their lengths and their values in order. -/
theorem byClause_spec (c : Criterion) (values : List Nat) (h : values.length = c.flatten.length) :
    (byClause c values).flatten = values ∧ (byClause c values).map List.length = c.map List.length := by
  induction c generalizing values with
  | nil => simp_all [byClause]
  | cons l rest ih =>
    have hd : (values.drop l.length).length = rest.flatten.length := by simp_all
    obtain ⟨h1, h2⟩ := ih _ hd
    refine ⟨by simp [byClause, h1], ?_⟩
    simp only [byClause, List.map_cons, h2, List.length_take]
    simp at h
    congr 1
    omega

@[simp] theorem configureCriterion_frame (w : Fin 48) (c : Criterion) (s : State) :
    (configureCriterion w c s).pending = s.pending ∧ (configureCriterion w c s).now = s.now ∧
    (configureCriterion w c s).powered = s.powered ∧ (configureCriterion w c s).coilOpen = s.coilOpen ∧
    (configureCriterion w c s).qt = s.qt ∧ (configureCriterion w c s).ssu = s.ssu ∧
    (configureCriterion w c s).gdu = s.gdu ∧ (configureCriterion w c s).psc = s.psc ∧
    (configureCriterion w c s).cs = s.cs := by
  simp only [configureCriterion]
  simp

@[simp] theorem warningsAtSleep_frame (s : State) :
    (warningsAtSleep s).pending = s.pending ∧ (warningsAtSleep s).now = s.now ∧
    (warningsAtSleep s).powered = s.powered ∧ (warningsAtSleep s).coilOpen = s.coilOpen ∧
    (warningsAtSleep s).cfg = s.cfg ∧ (warningsAtSleep s).lp = s.lp ∧ (warningsAtSleep s).qt = s.qt ∧
    (warningsAtSleep s).ssu = s.ssu ∧ (warningsAtSleep s).gdu = s.gdu ∧ (warningsAtSleep s).dtu = s.dtu ∧
    (warningsAtSleep s).anu = s.anu ∧ (warningsAtSleep s).psc = s.psc ∧ (warningsAtSleep s).cs = s.cs := by
  simp only [warningsAtSleep]
  simp

@[simp] theorem warningsAtProving_frame (s : State) :
    (warningsAtProving s).pending = s.pending ∧ (warningsAtProving s).now = s.now ∧
    (warningsAtProving s).powered = s.powered ∧ (warningsAtProving s).coilOpen = s.coilOpen ∧
    (warningsAtProving s).cfg = s.cfg ∧ (warningsAtProving s).qt = s.qt ∧ (warningsAtProving s).ssu = s.ssu ∧
    (warningsAtProving s).gdu = s.gdu ∧ (warningsAtProving s).psc = s.psc ∧ (warningsAtProving s).cs = s.cs := by
  simp only [warningsAtProving]
  simp

end Sys2Proof.Machine
end

