-- ==== Sys2Proof/Laws/MotionFrames.lean ====
section
/-! SUPPORT. What each operation of Machine/Motion.lean leaves as it was. -/
namespace Sys2Proof.Machine

@[simp] theorem enterFault_frame (g : Fin 6) (detail : GaugeFaultDetail) (s : State) :
    (enterFault g detail s).pending = s.pending ∧ (enterFault g detail s).now = s.now ∧
    (enterFault g detail s).powered = s.powered ∧ (enterFault g detail s).coilOpen = s.coilOpen ∧
    (enterFault g detail s).cfg = s.cfg ∧ (enterFault g detail s).qt = s.qt ∧ (enterFault g detail s).ssu = s.ssu ∧
    (enterFault g detail s).weu = s.weu ∧ (enterFault g detail s).dtu = s.dtu ∧
    (enterFault g detail s).anu = s.anu ∧ (enterFault g detail s).psc = s.psc ∧
    (enterFault g detail s).cs = s.cs := by
  simp only [enterFault]
  simp

@[simp] theorem watchCoil_frame (g : Fin 6) (s : State) :
    (watchCoil g s).pending = s.pending ∧ (watchCoil g s).now = s.now ∧ (watchCoil g s).powered = s.powered ∧
    (watchCoil g s).coilOpen = s.coilOpen ∧ (watchCoil g s).cfg = s.cfg ∧ (watchCoil g s).qt = s.qt ∧
    (watchCoil g s).ssu = s.ssu ∧ (watchCoil g s).weu = s.weu ∧ (watchCoil g s).dtu = s.dtu ∧
    (watchCoil g s).anu = s.anu ∧ (watchCoil g s).psc = s.psc ∧ (watchCoil g s).cs = s.cs := by
  simp only [watchCoil]
  (repeat' split) <;> simp

@[simp] theorem enterHoming_frame (g : Fin 6) (s : State) :
    (enterHoming g s).pending = s.pending ∧ (enterHoming g s).now = s.now ∧ (enterHoming g s).powered = s.powered ∧
    (enterHoming g s).coilOpen = s.coilOpen ∧ (enterHoming g s).cfg = s.cfg ∧ (enterHoming g s).qt = s.qt ∧
    (enterHoming g s).ssu = s.ssu ∧ (enterHoming g s).weu = s.weu ∧ (enterHoming g s).dtu = s.dtu ∧
    (enterHoming g s).anu = s.anu ∧ (enterHoming g s).psc = s.psc ∧ (enterHoming g s).cs = s.cs := by
  simp only [enterHoming]
  simp

@[simp] theorem arrivePark_frame (g : Fin 6) (s : State) :
    (arrivePark g s).pending = s.pending ∧ (arrivePark g s).now = s.now ∧ (arrivePark g s).powered = s.powered ∧
    (arrivePark g s).coilOpen = s.coilOpen ∧ (arrivePark g s).cfg = s.cfg ∧ (arrivePark g s).qt = s.qt ∧
    (arrivePark g s).ssu = s.ssu ∧ (arrivePark g s).weu = s.weu ∧ (arrivePark g s).dtu = s.dtu ∧
    (arrivePark g s).anu = s.anu ∧ (arrivePark g s).psc = s.psc ∧ (arrivePark g s).cs = s.cs := by
  simp only [arrivePark]
  (repeat' split) <;> simp

@[simp] theorem enterParking_frame (g : Fin 6) (s : State) :
    (enterParking g s).pending = s.pending ∧ (enterParking g s).now = s.now ∧
    (enterParking g s).powered = s.powered ∧ (enterParking g s).coilOpen = s.coilOpen ∧
    (enterParking g s).cfg = s.cfg ∧ (enterParking g s).qt = s.qt ∧ (enterParking g s).ssu = s.ssu ∧
    (enterParking g s).weu = s.weu ∧ (enterParking g s).dtu = s.dtu ∧ (enterParking g s).anu = s.anu ∧
    (enterParking g s).psc = s.psc ∧ (enterParking g s).cs = s.cs := by
  simp only [enterParking]
  simp

@[simp] theorem enterSweeping_frame (g : Fin 6) (s : State) :
    (enterSweeping g s).pending = s.pending ∧ (enterSweeping g s).now = s.now ∧
    (enterSweeping g s).powered = s.powered ∧ (enterSweeping g s).coilOpen = s.coilOpen ∧
    (enterSweeping g s).cfg = s.cfg ∧ (enterSweeping g s).lp = s.lp ∧ (enterSweeping g s).qt = s.qt ∧
    (enterSweeping g s).ssu = s.ssu ∧ (enterSweeping g s).weu = s.weu ∧ (enterSweeping g s).dtu = s.dtu ∧
    (enterSweeping g s).anu = s.anu ∧ (enterSweeping g s).psc = s.psc ∧ (enterSweeping g s).cs = s.cs := by
  simp only [enterSweeping]
  (repeat' split) <;> simp

@[simp] theorem enterTracking_frame (g : Fin 6) (s : State) :
    (enterTracking g s).pending = s.pending ∧ (enterTracking g s).now = s.now ∧
    (enterTracking g s).powered = s.powered ∧ (enterTracking g s).coilOpen = s.coilOpen ∧
    (enterTracking g s).cfg = s.cfg ∧ (enterTracking g s).lp = s.lp ∧ (enterTracking g s).qt = s.qt ∧
    (enterTracking g s).ssu = s.ssu ∧ (enterTracking g s).weu = s.weu ∧ (enterTracking g s).dtu = s.dtu ∧
    (enterTracking g s).anu = s.anu ∧ (enterTracking g s).psc = s.psc ∧ (enterTracking g s).cs = s.cs := by
  simp only [enterTracking]
  simp

@[simp] theorem parkOr_pending (g : Fin 6) (o : State → State) (s : State) (ho : ∀ t, (o t).pending = t.pending) :
    (parkOr g o s).pending = s.pending := by
  simp only [parkOr]
  split <;> simp [ho]
@[simp] theorem parkOr_now (g : Fin 6) (o : State → State) (s : State) (ho : ∀ t, (o t).now = t.now) :
    (parkOr g o s).now = s.now := by
  simp only [parkOr]
  split <;> simp [ho]
@[simp] theorem parkOr_powered (g : Fin 6) (o : State → State) (s : State) (ho : ∀ t, (o t).powered = t.powered) :
    (parkOr g o s).powered = s.powered := by
  simp only [parkOr]
  split <;> simp [ho]
@[simp] theorem parkOr_coilOpen (g : Fin 6) (o : State → State) (s : State) (ho : ∀ t, (o t).coilOpen = t.coilOpen) :
    (parkOr g o s).coilOpen = s.coilOpen := by
  simp only [parkOr]
  split <;> simp [ho]
@[simp] theorem parkOr_cfg (g : Fin 6) (o : State → State) (s : State) (ho : ∀ t, (o t).cfg = t.cfg) :
    (parkOr g o s).cfg = s.cfg := by
  simp only [parkOr]
  split <;> simp [ho]
@[simp] theorem parkOr_qt (g : Fin 6) (o : State → State) (s : State) (ho : ∀ t, (o t).qt = t.qt) :
    (parkOr g o s).qt = s.qt := by
  simp only [parkOr]
  split <;> simp [ho]
@[simp] theorem parkOr_ssu (g : Fin 6) (o : State → State) (s : State) (ho : ∀ t, (o t).ssu = t.ssu) :
    (parkOr g o s).ssu = s.ssu := by
  simp only [parkOr]
  split <;> simp [ho]
@[simp] theorem parkOr_weu (g : Fin 6) (o : State → State) (s : State) (ho : ∀ t, (o t).weu = t.weu) :
    (parkOr g o s).weu = s.weu := by
  simp only [parkOr]
  split <;> simp [ho]
@[simp] theorem parkOr_dtu (g : Fin 6) (o : State → State) (s : State) (ho : ∀ t, (o t).dtu = t.dtu) :
    (parkOr g o s).dtu = s.dtu := by
  simp only [parkOr]
  split <;> simp [ho]
@[simp] theorem parkOr_anu (g : Fin 6) (o : State → State) (s : State) (ho : ∀ t, (o t).anu = t.anu) :
    (parkOr g o s).anu = s.anu := by
  simp only [parkOr]
  split <;> simp [ho]
@[simp] theorem parkOr_psc (g : Fin 6) (o : State → State) (s : State) (ho : ∀ t, (o t).psc = t.psc) :
    (parkOr g o s).psc = s.psc := by
  simp only [parkOr]
  split <;> simp [ho]
@[simp] theorem parkOr_cs (g : Fin 6) (o : State → State) (s : State) (ho : ∀ t, (o t).cs = t.cs) :
    (parkOr g o s).cs = s.cs := by
  simp only [parkOr]
  split <;> simp [ho]

@[simp] theorem handHomed_frame (g : Fin 6) (h : Homing) (s : State) :
    (handHomed g h s).pending = s.pending ∧ (handHomed g h s).now = s.now ∧ (handHomed g h s).powered = s.powered ∧
    (handHomed g h s).coilOpen = s.coilOpen ∧ (handHomed g h s).cfg = s.cfg ∧ (handHomed g h s).qt = s.qt ∧
    (handHomed g h s).ssu = s.ssu ∧ (handHomed g h s).gdu = s.gdu ∧ (handHomed g h s).weu = s.weu ∧
    (handHomed g h s).dtu = s.dtu ∧ (handHomed g h s).anu = s.anu ∧ (handHomed g h s).psc = s.psc ∧
    (handHomed g h s).cs = s.cs := by
  simp only [handHomed]
  (repeat' split) <;> simp

@[simp] theorem updateGauge_frame (g : Fin 6) (s : State) :
    (updateGauge g s).pending = s.pending ∧ (updateGauge g s).now = s.now ∧ (updateGauge g s).powered = s.powered ∧
    (updateGauge g s).coilOpen = s.coilOpen ∧ (updateGauge g s).cfg = s.cfg ∧ (updateGauge g s).qt = s.qt ∧
    (updateGauge g s).ssu = s.ssu ∧ (updateGauge g s).weu = s.weu ∧ (updateGauge g s).dtu = s.dtu ∧
    (updateGauge g s).anu = s.anu ∧ (updateGauge g s).psc = s.psc ∧ (updateGauge g s).cs = s.cs := by
  simp only [updateGauge]
  (repeat' split) <;> simp

@[simp] theorem restartUpdate_frame (g : Fin 6) (due : Nat) (s : State) :
    (restartUpdate g due s).pending = s.pending ∧ (restartUpdate g due s).now = s.now ∧
    (restartUpdate g due s).powered = s.powered ∧ (restartUpdate g due s).coilOpen = s.coilOpen ∧
    (restartUpdate g due s).cfg = s.cfg ∧ (restartUpdate g due s).lp = s.lp ∧ (restartUpdate g due s).qt = s.qt ∧
    (restartUpdate g due s).ssu = s.ssu ∧ (restartUpdate g due s).weu = s.weu ∧
    (restartUpdate g due s).dtu = s.dtu ∧ (restartUpdate g due s).anu = s.anu ∧
    (restartUpdate g due s).psc = s.psc ∧ (restartUpdate g due s).cs = s.cs := by
  simp only [restartUpdate]
  simp

@[simp] theorem orderPark_frame (g : Fin 6) (s : State) :
    (orderPark g s).pending = s.pending ∧ (orderPark g s).now = s.now ∧ (orderPark g s).powered = s.powered ∧
    (orderPark g s).coilOpen = s.coilOpen ∧ (orderPark g s).cfg = s.cfg ∧ (orderPark g s).qt = s.qt ∧
    (orderPark g s).ssu = s.ssu ∧ (orderPark g s).weu = s.weu ∧ (orderPark g s).dtu = s.dtu ∧
    (orderPark g s).anu = s.anu ∧ (orderPark g s).psc = s.psc ∧ (orderPark g s).cs = s.cs := by
  simp only [orderPark]
  (repeat' split) <;> simp

@[simp] theorem proofOrder_frame (g : Fin 6) (s : State) :
    (proofOrder g s).pending = s.pending ∧ (proofOrder g s).now = s.now ∧ (proofOrder g s).powered = s.powered ∧
    (proofOrder g s).coilOpen = s.coilOpen ∧ (proofOrder g s).cfg = s.cfg ∧ (proofOrder g s).qt = s.qt ∧
    (proofOrder g s).ssu = s.ssu ∧ (proofOrder g s).weu = s.weu ∧ (proofOrder g s).dtu = s.dtu ∧
    (proofOrder g s).anu = s.anu ∧ (proofOrder g s).psc = s.psc ∧ (proofOrder g s).cs = s.cs := by
  simp only [proofOrder]
  (repeat' split) <;> simp

@[simp] theorem startUpdates_frame (s : State) :
    (startUpdates s).pending = s.pending ∧ (startUpdates s).now = s.now ∧ (startUpdates s).powered = s.powered ∧
    (startUpdates s).coilOpen = s.coilOpen ∧ (startUpdates s).cfg = s.cfg ∧ (startUpdates s).lp = s.lp ∧
    (startUpdates s).qt = s.qt ∧ (startUpdates s).ssu = s.ssu ∧ (startUpdates s).weu = s.weu ∧
    (startUpdates s).dtu = s.dtu ∧ (startUpdates s).anu = s.anu ∧ (startUpdates s).psc = s.psc ∧
    (startUpdates s).cs = s.cs := by
  simp only [startUpdates]
  simp

@[simp] theorem gaugesAtProving_frame (s : State) :
    (gaugesAtProving s).pending = s.pending ∧ (gaugesAtProving s).now = s.now ∧
    (gaugesAtProving s).powered = s.powered ∧ (gaugesAtProving s).coilOpen = s.coilOpen ∧
    (gaugesAtProving s).cfg = s.cfg ∧ (gaugesAtProving s).qt = s.qt ∧ (gaugesAtProving s).ssu = s.ssu ∧
    (gaugesAtProving s).weu = s.weu ∧ (gaugesAtProving s).dtu = s.dtu ∧ (gaugesAtProving s).anu = s.anu ∧
    (gaugesAtProving s).psc = s.psc ∧ (gaugesAtProving s).cs = s.cs := by
  simp only [gaugesAtProving]
  simp

@[simp] theorem gaugesAtSleep_frame (s : State) :
    (gaugesAtSleep s).pending = s.pending ∧ (gaugesAtSleep s).now = s.now ∧ (gaugesAtSleep s).powered = s.powered ∧
    (gaugesAtSleep s).coilOpen = s.coilOpen ∧ (gaugesAtSleep s).cfg = s.cfg ∧ (gaugesAtSleep s).lp = s.lp ∧
    (gaugesAtSleep s).qt = s.qt ∧ (gaugesAtSleep s).ssu = s.ssu ∧ (gaugesAtSleep s).weu = s.weu ∧
    (gaugesAtSleep s).dtu = s.dtu ∧ (gaugesAtSleep s).anu = s.anu ∧ (gaugesAtSleep s).psc = s.psc ∧
    (gaugesAtSleep s).cs = s.cs := by
  simp only [gaugesAtSleep]
  simp

@[simp] theorem configureGauge_frame (g : Fin 6) (c : GaugeSettings) (s : State) :
    (configureGauge g c s).pending = s.pending ∧ (configureGauge g c s).now = s.now ∧
    (configureGauge g c s).powered = s.powered ∧ (configureGauge g c s).coilOpen = s.coilOpen ∧
    (configureGauge g c s).lp = s.lp ∧ (configureGauge g c s).qt = s.qt ∧ (configureGauge g c s).ssu = s.ssu ∧
    (configureGauge g c s).weu = s.weu ∧ (configureGauge g c s).dtu = s.dtu ∧ (configureGauge g c s).anu = s.anu ∧
    (configureGauge g c s).psc = s.psc ∧ (configureGauge g c s).cs = s.cs := by
  simp only [configureGauge]
  simp

@[simp] theorem moveEndActions_frame (g : Fin 6) (s : State) :
    (moveEndActions g s).pending = s.pending ∧ (moveEndActions g s).now = s.now ∧
    (moveEndActions g s).powered = s.powered ∧ (moveEndActions g s).coilOpen = s.coilOpen ∧
    (moveEndActions g s).cfg = s.cfg ∧ (moveEndActions g s).qt = s.qt ∧ (moveEndActions g s).ssu = s.ssu ∧
    (moveEndActions g s).weu = s.weu ∧ (moveEndActions g s).dtu = s.dtu ∧ (moveEndActions g s).anu = s.anu ∧
    (moveEndActions g s).psc = s.psc ∧ (moveEndActions g s).cs = s.cs := by
  simp only [moveEndActions]
  (repeat' split) <;> simp

@[simp] theorem stepMove_frame (g : Fin 6) (position : Nat) (m : Move) (s : State) :
    (stepMove g position m s).pending = s.pending ∧ (stepMove g position m s).now = s.now ∧
    (stepMove g position m s).powered = s.powered ∧ (stepMove g position m s).coilOpen = s.coilOpen ∧
    (stepMove g position m s).cfg = s.cfg ∧ (stepMove g position m s).qt = s.qt ∧
    (stepMove g position m s).ssu = s.ssu ∧ (stepMove g position m s).weu = s.weu ∧
    (stepMove g position m s).dtu = s.dtu ∧ (stepMove g position m s).anu = s.anu ∧
    (stepMove g position m s).psc = s.psc ∧ (stepMove g position m s).cs = s.cs := by
  simp only [stepMove]
  (repeat' split) <;> simp

@[simp] theorem completeHoming_frame (g : Fin 6) (h : Homing) (s : State) :
    (completeHoming g h s).pending = s.pending ∧ (completeHoming g h s).now = s.now ∧
    (completeHoming g h s).powered = s.powered ∧ (completeHoming g h s).coilOpen = s.coilOpen ∧
    (completeHoming g h s).cfg = s.cfg ∧ (completeHoming g h s).qt = s.qt ∧ (completeHoming g h s).ssu = s.ssu ∧
    (completeHoming g h s).weu = s.weu ∧ (completeHoming g h s).dtu = s.dtu ∧ (completeHoming g h s).anu = s.anu ∧
    (completeHoming g h s).psc = s.psc ∧ (completeHoming g h s).cs = s.cs := by
  simp only [completeHoming]
  refine ⟨?_, ?_, ?_, ?_, ?_, ?_, ?_, ?_, ?_, ?_, ?_, ?_⟩
  · rw [parkOr_pending _ _ _ (by intro t; split <;> simp)]; simp
  · rw [parkOr_now _ _ _ (by intro t; split <;> simp)]; simp
  · rw [parkOr_powered _ _ _ (by intro t; split <;> simp)]; simp
  · rw [parkOr_coilOpen _ _ _ (by intro t; split <;> simp)]; simp
  · rw [parkOr_cfg _ _ _ (by intro t; split <;> simp)]; simp
  · rw [parkOr_qt _ _ _ (by intro t; split <;> simp)]; simp
  · rw [parkOr_ssu _ _ _ (by intro t; split <;> simp)]; simp
  · rw [parkOr_weu _ _ _ (by intro t; split <;> simp)]; simp
  · rw [parkOr_dtu _ _ _ (by intro t; split <;> simp)]; simp
  · rw [parkOr_anu _ _ _ (by intro t; split <;> simp)]; simp
  · rw [parkOr_psc _ _ _ (by intro t; split <;> simp)]; simp
  · rw [parkOr_cs _ _ _ (by intro t; split <;> simp)]; simp

@[simp] theorem endSearch_frame (g : Fin 6) (h : Homing) (s : State) :
    (endSearch g h s).pending = s.pending ∧ (endSearch g h s).now = s.now ∧ (endSearch g h s).powered = s.powered ∧
    (endSearch g h s).coilOpen = s.coilOpen ∧ (endSearch g h s).cfg = s.cfg ∧ (endSearch g h s).qt = s.qt ∧
    (endSearch g h s).ssu = s.ssu ∧ (endSearch g h s).weu = s.weu ∧ (endSearch g h s).dtu = s.dtu ∧
    (endSearch g h s).anu = s.anu ∧ (endSearch g h s).psc = s.psc ∧ (endSearch g h s).cs = s.cs := by
  simp only [endSearch]
  (repeat' split) <;> simp

@[simp] theorem searchStep_frame (g : Fin 6) (h : Homing) (stall : Bool) (s : State) :
    (searchStep g h stall s).pending = s.pending ∧ (searchStep g h stall s).now = s.now ∧
    (searchStep g h stall s).powered = s.powered ∧ (searchStep g h stall s).coilOpen = s.coilOpen ∧
    (searchStep g h stall s).cfg = s.cfg ∧ (searchStep g h stall s).qt = s.qt ∧
    (searchStep g h stall s).ssu = s.ssu ∧ (searchStep g h stall s).weu = s.weu ∧
    (searchStep g h stall s).dtu = s.dtu ∧ (searchStep g h stall s).anu = s.anu ∧
    (searchStep g h stall s).psc = s.psc ∧ (searchStep g h stall s).cs = s.cs := by
  simp only [searchStep]
  (repeat' split) <;> simp

@[simp] theorem finalStep_frame (g : Fin 6) (h : Homing) (position : Nat) (s : State) :
    (finalStep g h position s).pending = s.pending ∧ (finalStep g h position s).now = s.now ∧
    (finalStep g h position s).powered = s.powered ∧ (finalStep g h position s).coilOpen = s.coilOpen ∧
    (finalStep g h position s).cfg = s.cfg ∧ (finalStep g h position s).qt = s.qt ∧
    (finalStep g h position s).ssu = s.ssu ∧ (finalStep g h position s).weu = s.weu ∧
    (finalStep g h position s).dtu = s.dtu ∧ (finalStep g h position s).anu = s.anu ∧
    (finalStep g h position s).psc = s.psc ∧ (finalStep g h position s).cs = s.cs := by
  simp only [finalStep]
  (repeat' split) <;> simp

end Sys2Proof.Machine
end

