-- ==== Sys2Proof/Laws/ScanFrames.lean ====
section
/-! SUPPORT. What each operation of Machine/Scan.lean leaves as it was. -/
namespace Sys2Proof.Machine

@[simp] theorem startContinuous_frame (s : State) :
    (startContinuous s).pending = s.pending ∧ (startContinuous s).now = s.now ∧
    (startContinuous s).powered = s.powered ∧ (startContinuous s).coilOpen = s.coilOpen ∧
    (startContinuous s).cfg = s.cfg ∧ (startContinuous s).lp = s.lp ∧ (startContinuous s).qt = s.qt ∧
    (startContinuous s).gdu = s.gdu ∧ (startContinuous s).weu = s.weu ∧ (startContinuous s).dtu = s.dtu ∧
    (startContinuous s).anu = s.anu ∧ (startContinuous s).psc = s.psc ∧ (startContinuous s).cs = s.cs := by
  simp only [startContinuous]
  simp

@[simp] theorem startOnce_frame (first last : Nat) (s : State) :
    (startOnce first last s).pending = s.pending ∧ (startOnce first last s).now = s.now ∧
    (startOnce first last s).powered = s.powered ∧ (startOnce first last s).coilOpen = s.coilOpen ∧
    (startOnce first last s).cfg = s.cfg ∧ (startOnce first last s).lp = s.lp ∧
    (startOnce first last s).qt = s.qt ∧ (startOnce first last s).gdu = s.gdu ∧
    (startOnce first last s).weu = s.weu ∧ (startOnce first last s).dtu = s.dtu ∧
    (startOnce first last s).anu = s.anu ∧ (startOnce first last s).psc = s.psc ∧
    (startOnce first last s).cs = s.cs := by
  simp only [startOnce]
  simp

@[simp] theorem intervalExpired_frame (due : Nat) (s : State) :
    (intervalExpired due s).pending = s.pending ∧ (intervalExpired due s).now = s.now ∧
    (intervalExpired due s).powered = s.powered ∧ (intervalExpired due s).coilOpen = s.coilOpen ∧
    (intervalExpired due s).cfg = s.cfg ∧ (intervalExpired due s).lp = s.lp ∧ (intervalExpired due s).qt = s.qt ∧
    (intervalExpired due s).gdu = s.gdu ∧ (intervalExpired due s).weu = s.weu ∧
    (intervalExpired due s).dtu = s.dtu ∧ (intervalExpired due s).anu = s.anu ∧
    (intervalExpired due s).psc = s.psc ∧ (intervalExpired due s).cs = s.cs := by
  simp only [intervalExpired]
  simp

@[simp] theorem stopScan_frame (s : State) :
    (stopScan s).pending = s.pending ∧ (stopScan s).now = s.now ∧ (stopScan s).powered = s.powered ∧
    (stopScan s).coilOpen = s.coilOpen ∧ (stopScan s).cfg = s.cfg ∧ (stopScan s).gdu = s.gdu ∧
    (stopScan s).weu = s.weu ∧ (stopScan s).dtu = s.dtu ∧ (stopScan s).anu = s.anu ∧ (stopScan s).psc = s.psc ∧
    (stopScan s).cs = s.cs := by
  simp only [stopScan]
  simp

@[simp] theorem takeResult_frame (position : Nat) (e : ScanEntry) (raw : Nat) (s : State) :
    (takeResult position e raw s).pending = s.pending ∧ (takeResult position e raw s).now = s.now ∧
    (takeResult position e raw s).powered = s.powered ∧ (takeResult position e raw s).coilOpen = s.coilOpen ∧
    (takeResult position e raw s).cfg = s.cfg ∧ (takeResult position e raw s).gdu = s.gdu ∧
    (takeResult position e raw s).psc = s.psc ∧ (takeResult position e raw s).cs = s.cs := by
  simp only [takeResult]
  simp

@[simp] theorem moveRoundRobin_frame (position : Nat) (e : ScanEntry) (s : State) :
    (moveRoundRobin position e s).pending = s.pending ∧ (moveRoundRobin position e s).now = s.now ∧
    (moveRoundRobin position e s).powered = s.powered ∧ (moveRoundRobin position e s).coilOpen = s.coilOpen ∧
    (moveRoundRobin position e s).cfg = s.cfg ∧ (moveRoundRobin position e s).lp = s.lp ∧
    (moveRoundRobin position e s).qt = s.qt ∧ (moveRoundRobin position e s).gdu = s.gdu ∧
    (moveRoundRobin position e s).weu = s.weu ∧ (moveRoundRobin position e s).dtu = s.dtu ∧
    (moveRoundRobin position e s).anu = s.anu ∧ (moveRoundRobin position e s).psc = s.psc ∧
    (moveRoundRobin position e s).cs = s.cs := by
  simp only [moveRoundRobin]
  (repeat' split) <;> simp

@[simp] theorem nextConversion_frame (s : State) :
    (nextConversion s).pending = s.pending ∧ (nextConversion s).now = s.now ∧
    (nextConversion s).powered = s.powered ∧ (nextConversion s).coilOpen = s.coilOpen ∧
    (nextConversion s).cfg = s.cfg ∧ (nextConversion s).gdu = s.gdu ∧ (nextConversion s).weu = s.weu ∧
    (nextConversion s).dtu = s.dtu ∧ (nextConversion s).anu = s.anu ∧ (nextConversion s).psc = s.psc ∧
    (nextConversion s).cs = s.cs := by
  simp only [nextConversion]
  (repeat' split) <;> simp

@[simp] theorem completeConversion_frame (f : Flight) (raw : Nat) (s : State) :
    (completeConversion f raw s).pending = s.pending ∧ (completeConversion f raw s).now = s.now ∧
    (completeConversion f raw s).powered = s.powered ∧ (completeConversion f raw s).coilOpen = s.coilOpen ∧
    (completeConversion f raw s).cfg = s.cfg ∧ (completeConversion f raw s).gdu = s.gdu ∧
    (completeConversion f raw s).psc = s.psc ∧ (completeConversion f raw s).cs = s.cs := by
  simp only [completeConversion]
  (repeat' split) <;> simp

@[simp] theorem scanAtSleep_frame (s : State) :
    (scanAtSleep s).pending = s.pending ∧ (scanAtSleep s).now = s.now ∧ (scanAtSleep s).powered = s.powered ∧
    (scanAtSleep s).coilOpen = s.coilOpen ∧ (scanAtSleep s).cfg = s.cfg ∧ (scanAtSleep s).gdu = s.gdu ∧
    (scanAtSleep s).weu = s.weu ∧ (scanAtSleep s).dtu = s.dtu ∧ (scanAtSleep s).anu = s.anu ∧
    (scanAtSleep s).psc = s.psc ∧ (scanAtSleep s).cs = s.cs := by
  simp only [scanAtSleep]
  (repeat' split) <;> simp

@[simp] theorem autostart_frame (s : State) :
    (autostart s).pending = s.pending ∧ (autostart s).now = s.now ∧ (autostart s).powered = s.powered ∧
    (autostart s).coilOpen = s.coilOpen ∧ (autostart s).cfg = s.cfg ∧ (autostart s).lp = s.lp ∧
    (autostart s).qt = s.qt ∧ (autostart s).gdu = s.gdu ∧ (autostart s).weu = s.weu ∧ (autostart s).dtu = s.dtu ∧
    (autostart s).anu = s.anu ∧ (autostart s).psc = s.psc ∧ (autostart s).cs = s.cs := by
  simp only [autostart]
  (repeat' split) <;> simp

@[simp] theorem configureScan_frame (c : ScanSettings) (s : State) :
    (configureScan c s).pending = s.pending ∧ (configureScan c s).now = s.now ∧
    (configureScan c s).powered = s.powered ∧ (configureScan c s).coilOpen = s.coilOpen ∧
    (configureScan c s).lp = s.lp ∧ (configureScan c s).qt = s.qt ∧ (configureScan c s).gdu = s.gdu ∧
    (configureScan c s).weu = s.weu ∧ (configureScan c s).dtu = s.dtu ∧ (configureScan c s).anu = s.anu ∧
    (configureScan c s).psc = s.psc ∧ (configureScan c s).cs = s.cs := by
  simp only [configureScan]
  simp

end Sys2Proof.Machine
end

