-- ==== Sys2Proof/Laws/PowerFrames.lean ====
section
/-! SUPPORT. What each operation of Machine/Power.lean leaves as it was. -/
namespace Sys2Proof.Machine

@[simp] theorem State.setPower_frame (s : State) (state : PowerState) (proof : ProofTimer) :
    (State.setPower s state proof).pending = s.pending ∧ (State.setPower s state proof).now = s.now ∧
    (State.setPower s state proof).powered = s.powered ∧ (State.setPower s state proof).coilOpen = s.coilOpen ∧
    (State.setPower s state proof).cfg = s.cfg ∧ (State.setPower s state proof).lp = s.lp ∧
    (State.setPower s state proof).qt = s.qt ∧ (State.setPower s state proof).ssu = s.ssu ∧
    (State.setPower s state proof).gdu = s.gdu ∧ (State.setPower s state proof).weu = s.weu ∧
    (State.setPower s state proof).dtu = s.dtu ∧ (State.setPower s state proof).anu = s.anu ∧
    (State.setPower s state proof).cs = s.cs := by
  simp only [State.setPower]
  simp

@[simp] theorem handPowerState_frame (old : Nat) (cause : PowerCause) (s : State) :
    (handPowerState old cause s).pending = s.pending ∧ (handPowerState old cause s).now = s.now ∧
    (handPowerState old cause s).powered = s.powered ∧ (handPowerState old cause s).coilOpen = s.coilOpen ∧
    (handPowerState old cause s).cfg = s.cfg ∧ (handPowerState old cause s).qt = s.qt ∧
    (handPowerState old cause s).ssu = s.ssu ∧ (handPowerState old cause s).gdu = s.gdu ∧
    (handPowerState old cause s).weu = s.weu ∧ (handPowerState old cause s).dtu = s.dtu ∧
    (handPowerState old cause s).anu = s.anu ∧ (handPowerState old cause s).psc = s.psc ∧
    (handPowerState old cause s).cs = s.cs := by
  simp only [handPowerState]
  simp

@[simp] theorem lineAtProving_frame (s : State) :
    (lineAtProving s).pending = s.pending ∧ (lineAtProving s).now = s.now ∧ (lineAtProving s).powered = s.powered ∧
    (lineAtProving s).coilOpen = s.coilOpen ∧ (lineAtProving s).cfg = s.cfg ∧ (lineAtProving s).lp = s.lp ∧
    (lineAtProving s).qt = s.qt ∧ (lineAtProving s).ssu = s.ssu ∧ (lineAtProving s).gdu = s.gdu ∧
    (lineAtProving s).weu = s.weu ∧ (lineAtProving s).dtu = s.dtu ∧ (lineAtProving s).psc = s.psc ∧
    (lineAtProving s).cs = s.cs := by
  simp only [lineAtProving]
  simp

@[simp] theorem lineAtRun_frame (s : State) :
    (lineAtRun s).pending = s.pending ∧ (lineAtRun s).now = s.now ∧ (lineAtRun s).powered = s.powered ∧
    (lineAtRun s).coilOpen = s.coilOpen ∧ (lineAtRun s).cfg = s.cfg ∧ (lineAtRun s).qt = s.qt ∧
    (lineAtRun s).ssu = s.ssu ∧ (lineAtRun s).gdu = s.gdu ∧ (lineAtRun s).psc = s.psc ∧ (lineAtRun s).cs = s.cs := by
  simp only [lineAtRun]
  simp

@[simp] theorem lineAtSleep_frame (s : State) :
    (lineAtSleep s).pending = s.pending ∧ (lineAtSleep s).now = s.now ∧ (lineAtSleep s).powered = s.powered ∧
    (lineAtSleep s).coilOpen = s.coilOpen ∧ (lineAtSleep s).cfg = s.cfg ∧ (lineAtSleep s).qt = s.qt ∧
    (lineAtSleep s).ssu = s.ssu ∧ (lineAtSleep s).gdu = s.gdu ∧ (lineAtSleep s).weu = s.weu ∧
    (lineAtSleep s).dtu = s.dtu ∧ (lineAtSleep s).psc = s.psc ∧ (lineAtSleep s).cs = s.cs := by
  have h {β : Type} (g : State → β) (hg : ∀ e t, g (tellLink e t) = g t) :
      g (s.anu.entries.foldl (fun t e => tellLink e t) s) = g s :=
    foldl_same g _ (fun t e => hg e t) _ s
  simp only [lineAtSleep, renderLine_frame, State.setAnu_pending, State.setAnu_now, State.setAnu_powered, State.setAnu_coilOpen, State.setAnu_cfg, State.setAnu_qt, State.setAnu_ssu, State.setAnu_gdu, State.setAnu_weu, State.setAnu_dtu, State.setAnu_psc, State.setAnu_cs]
  simp [h]

@[simp] theorem enterProving_frame (old : Nat) (cause : PowerCause) (s : State) :
    (enterProving old cause s).pending = s.pending ∧ (enterProving old cause s).now = s.now ∧
    (enterProving old cause s).powered = s.powered ∧ (enterProving old cause s).coilOpen = s.coilOpen ∧
    (enterProving old cause s).cfg = s.cfg ∧ (enterProving old cause s).qt = s.qt ∧
    (enterProving old cause s).cs = s.cs := by
  simp only [enterProving]
  simp

@[simp] theorem finishProof_frame (s : State) :
    (finishProof s).pending = s.pending ∧ (finishProof s).now = s.now ∧ (finishProof s).powered = s.powered ∧
    (finishProof s).coilOpen = s.coilOpen ∧ (finishProof s).cfg = s.cfg ∧ (finishProof s).qt = s.qt ∧
    (finishProof s).ssu = s.ssu ∧ (finishProof s).gdu = s.gdu ∧ (finishProof s).cs = s.cs := by
  simp only [finishProof]
  simp

@[simp] theorem returnToRun_frame (cause : PowerCause) (s : State) :
    (returnToRun cause s).pending = s.pending ∧ (returnToRun cause s).now = s.now ∧
    (returnToRun cause s).powered = s.powered ∧ (returnToRun cause s).coilOpen = s.coilOpen ∧
    (returnToRun cause s).cfg = s.cfg ∧ (returnToRun cause s).qt = s.qt ∧ (returnToRun cause s).ssu = s.ssu ∧
    (returnToRun cause s).weu = s.weu ∧ (returnToRun cause s).dtu = s.dtu ∧ (returnToRun cause s).anu = s.anu ∧
    (returnToRun cause s).cs = s.cs := by
  simp only [returnToRun]
  simp

@[simp] theorem drivingNotice_frame (a : Activity) (s : State) :
    (drivingNotice a s).pending = s.pending ∧ (drivingNotice a s).now = s.now ∧
    (drivingNotice a s).powered = s.powered ∧ (drivingNotice a s).coilOpen = s.coilOpen ∧
    (drivingNotice a s).cfg = s.cfg ∧ (drivingNotice a s).qt = s.qt ∧ (drivingNotice a s).ssu = s.ssu ∧
    (drivingNotice a s).weu = s.weu ∧ (drivingNotice a s).dtu = s.dtu ∧ (drivingNotice a s).anu = s.anu ∧
    (drivingNotice a s).cs = s.cs := by
  simp only [drivingNotice]
  (repeat' split) <;> simp

@[simp] theorem keyOnEdge_frame (s : State) :
    (keyOnEdge s).pending = s.pending ∧ (keyOnEdge s).now = s.now ∧ (keyOnEdge s).powered = s.powered ∧
    (keyOnEdge s).coilOpen = s.coilOpen ∧ (keyOnEdge s).cfg = s.cfg ∧ (keyOnEdge s).qt = s.qt ∧
    (keyOnEdge s).cs = s.cs := by
  simp only [keyOnEdge]
  (repeat' split) <;> simp

@[simp] theorem sampleKey_frame (level : Bool) (due : Nat) (s : State) :
    (sampleKey level due s).pending = s.pending ∧ (sampleKey level due s).now = s.now ∧
    (sampleKey level due s).powered = s.powered ∧ (sampleKey level due s).coilOpen = s.coilOpen ∧
    (sampleKey level due s).cfg = s.cfg ∧ (sampleKey level due s).qt = s.qt ∧ (sampleKey level due s).cs = s.cs := by
  simp only [sampleKey]
  (repeat' split) <;> simp

@[simp] theorem enterSleep_frame (s : State) :
    (enterSleep s).pending = s.pending ∧ (enterSleep s).now = s.now ∧ (enterSleep s).powered = s.powered ∧
    (enterSleep s).coilOpen = s.coilOpen ∧ (enterSleep s).cfg = s.cfg ∧ (enterSleep s).cs = s.cs := by
  simp only [enterSleep]
  simp

@[simp] theorem judgePower_frame (s : State) :
    (judgePower s).pending = s.pending ∧ (judgePower s).now = s.now ∧ (judgePower s).powered = s.powered ∧
    (judgePower s).coilOpen = s.coilOpen ∧ (judgePower s).cfg = s.cfg ∧ (judgePower s).cs = s.cs := by
  simp only [judgePower]
  (repeat' split) <;> simp

@[simp] theorem enterParkingState_frame (s : State) :
    (enterParkingState s).pending = s.pending ∧ (enterParkingState s).now = s.now ∧
    (enterParkingState s).powered = s.powered ∧ (enterParkingState s).coilOpen = s.coilOpen ∧
    (enterParkingState s).cfg = s.cfg ∧ (enterParkingState s).cs = s.cs := by
  simp only [enterParkingState]
  simp

end Sys2Proof.Machine
end

