-- ==== Sys2Proof/Laws/EvaluationFamilyFrames.lean ====
section
/-! SUPPORT. What each operation of Machine/EvaluationFamily.lean leaves as it was. -/
namespace Sys2Proof.Machine

@[simp] theorem setEvalInterval_frame (interval : Nat) (s : State) :
    (setEvalInterval interval s).pending = s.pending ∧ (setEvalInterval interval s).now = s.now ∧
    (setEvalInterval interval s).powered = s.powered ∧ (setEvalInterval interval s).coilOpen = s.coilOpen ∧
    (setEvalInterval interval s).lp = s.lp ∧ (setEvalInterval interval s).qt = s.qt ∧
    (setEvalInterval interval s).ssu = s.ssu ∧ (setEvalInterval interval s).gdu = s.gdu ∧
    (setEvalInterval interval s).dtu = s.dtu ∧ (setEvalInterval interval s).anu = s.anu ∧
    (setEvalInterval interval s).psc = s.psc ∧ (setEvalInterval interval s).cs = s.cs := by
  simp only [setEvalInterval]
  simp

end Sys2Proof.Machine
end

