-- ==== Sys2Proof/Laws/GaugeFamilyFrames.lean ====
section
/-! SUPPORT. What each operation of Machine/GaugeFamily.lean leaves as it was. -/
namespace Sys2Proof.Machine

@[simp] theorem homeGauge_frame (g : Fin 6) (s : State) :
    (homeGauge g s).pending = s.pending ∧ (homeGauge g s).now = s.now ∧ (homeGauge g s).powered = s.powered ∧
    (homeGauge g s).coilOpen = s.coilOpen ∧ (homeGauge g s).cfg = s.cfg ∧ (homeGauge g s).cs = s.cs := by
  simp only [homeGauge]
  simp

@[simp] theorem positionGauge_frame (g : Fin 6) (p : Nat) (s : State) :
    (positionGauge g p s).pending = s.pending ∧ (positionGauge g p s).now = s.now ∧
    (positionGauge g p s).powered = s.powered ∧ (positionGauge g p s).coilOpen = s.coilOpen ∧
    (positionGauge g p s).cfg = s.cfg ∧ (positionGauge g p s).cs = s.cs := by
  simp only [positionGauge]
  simp

@[simp] theorem stepHoming_frame (g : Fin 6) (h : Homing) (stall : Bool) (s : State) :
    (stepHoming g h stall s).pending = s.pending ∧ (stepHoming g h stall s).now = s.now ∧
    (stepHoming g h stall s).powered = s.powered ∧ (stepHoming g h stall s).coilOpen = s.coilOpen ∧
    (stepHoming g h stall s).cfg = s.cfg ∧ (stepHoming g h stall s).qt = s.qt ∧
    (stepHoming g h stall s).ssu = s.ssu ∧ (stepHoming g h stall s).weu = s.weu ∧
    (stepHoming g h stall s).dtu = s.dtu ∧ (stepHoming g h stall s).anu = s.anu ∧
    (stepHoming g h stall s).psc = s.psc ∧ (stepHoming g h stall s).cs = s.cs := by
  simp only [stepHoming]
  (repeat' split) <;> simp

end Sys2Proof.Machine
end

