-- ==== Sys2Proof/Laws/LampFamilyFrames.lean ====
section
/-! SUPPORT. What each operation of Machine/LampFamily.lean leaves as it was. -/
namespace Sys2Proof.Machine

@[simp] theorem configureLamp_frame (l : Fin 32) (c : LampSettings) (s : State) :
    (configureLamp l c s).pending = s.pending ∧ (configureLamp l c s).now = s.now ∧
    (configureLamp l c s).powered = s.powered ∧ (configureLamp l c s).coilOpen = s.coilOpen ∧
    (configureLamp l c s).lp = s.lp ∧ (configureLamp l c s).qt = s.qt ∧ (configureLamp l c s).ssu = s.ssu ∧
    (configureLamp l c s).gdu = s.gdu ∧ (configureLamp l c s).dtu = s.dtu ∧ (configureLamp l c s).anu = s.anu ∧
    (configureLamp l c s).psc = s.psc ∧ (configureLamp l c s).cs = s.cs := by
  simp only [configureLamp]
  (repeat' split) <;> simp

@[simp] theorem lampSampled_frame (openLoads : BitVec 32) (due : Nat) (s : State) :
    (lampSampled openLoads due s).pending = s.pending ∧ (lampSampled openLoads due s).now = s.now ∧
    (lampSampled openLoads due s).powered = s.powered ∧ (lampSampled openLoads due s).coilOpen = s.coilOpen ∧
    (lampSampled openLoads due s).cfg = s.cfg ∧ (lampSampled openLoads due s).qt = s.qt ∧
    (lampSampled openLoads due s).ssu = s.ssu ∧ (lampSampled openLoads due s).gdu = s.gdu ∧
    (lampSampled openLoads due s).dtu = s.dtu ∧ (lampSampled openLoads due s).anu = s.anu ∧
    (lampSampled openLoads due s).psc = s.psc ∧ (lampSampled openLoads due s).cs = s.cs := by
  simp only [lampSampled]
  simp

end Sys2Proof.Machine
end

