-- ==== Sys2Proof/Laws/LineFamilyFrames.lean ====
section
/-! SUPPORT. What each operation of Machine/LineFamily.lean leaves as it was. -/
namespace Sys2Proof.Machine

@[simp] theorem renderIfOnLine_frame (m : Fin 64) (s : State) :
    (renderIfOnLine m s).pending = s.pending ∧ (renderIfOnLine m s).now = s.now ∧
    (renderIfOnLine m s).powered = s.powered ∧ (renderIfOnLine m s).coilOpen = s.coilOpen ∧
    (renderIfOnLine m s).cfg = s.cfg ∧ (renderIfOnLine m s).lp = s.lp ∧ (renderIfOnLine m s).qt = s.qt ∧
    (renderIfOnLine m s).ssu = s.ssu ∧ (renderIfOnLine m s).gdu = s.gdu ∧ (renderIfOnLine m s).weu = s.weu ∧
    (renderIfOnLine m s).dtu = s.dtu ∧ (renderIfOnLine m s).psc = s.psc ∧ (renderIfOnLine m s).cs = s.cs := by
  simp only [renderIfOnLine]
  (repeat' split) <;> simp

@[simp] theorem configureLine_frame (c : LineSettings) (s : State) :
    (configureLine c s).pending = s.pending ∧ (configureLine c s).now = s.now ∧
    (configureLine c s).powered = s.powered ∧ (configureLine c s).coilOpen = s.coilOpen ∧
    (configureLine c s).lp = s.lp ∧ (configureLine c s).qt = s.qt ∧ (configureLine c s).ssu = s.ssu ∧
    (configureLine c s).gdu = s.gdu ∧ (configureLine c s).weu = s.weu ∧ (configureLine c s).dtu = s.dtu ∧
    (configureLine c s).psc = s.psc ∧ (configureLine c s).cs = s.cs := by
  simp only [configureLine]
  simp

@[simp] theorem setPriorityMap_frame (m : Table 6 AnnClass) (s : State) :
    (setPriorityMap m s).pending = s.pending ∧ (setPriorityMap m s).now = s.now ∧
    (setPriorityMap m s).powered = s.powered ∧ (setPriorityMap m s).coilOpen = s.coilOpen ∧
    (setPriorityMap m s).lp = s.lp ∧ (setPriorityMap m s).qt = s.qt ∧ (setPriorityMap m s).ssu = s.ssu ∧
    (setPriorityMap m s).gdu = s.gdu ∧ (setPriorityMap m s).weu = s.weu ∧ (setPriorityMap m s).dtu = s.dtu ∧
    (setPriorityMap m s).psc = s.psc ∧ (setPriorityMap m s).cs = s.cs := by
  simp only [setPriorityMap]
  simp

@[simp] theorem setRestingPage_frame (page : Option (Fin 64)) (s : State) :
    (setRestingPage page s).pending = s.pending ∧ (setRestingPage page s).now = s.now ∧
    (setRestingPage page s).powered = s.powered ∧ (setRestingPage page s).coilOpen = s.coilOpen ∧
    (setRestingPage page s).lp = s.lp ∧ (setRestingPage page s).qt = s.qt ∧ (setRestingPage page s).ssu = s.ssu ∧
    (setRestingPage page s).gdu = s.gdu ∧ (setRestingPage page s).weu = s.weu ∧
    (setRestingPage page s).dtu = s.dtu ∧ (setRestingPage page s).psc = s.psc ∧
    (setRestingPage page s).cs = s.cs := by
  simp only [setRestingPage]
  (repeat' split) <;> simp

@[simp] theorem dwellElapsed_frame (sh : Shown) (s : State) :
    (dwellElapsed sh s).pending = s.pending ∧ (dwellElapsed sh s).now = s.now ∧
    (dwellElapsed sh s).powered = s.powered ∧ (dwellElapsed sh s).coilOpen = s.coilOpen ∧
    (dwellElapsed sh s).cfg = s.cfg ∧ (dwellElapsed sh s).qt = s.qt ∧ (dwellElapsed sh s).ssu = s.ssu ∧
    (dwellElapsed sh s).gdu = s.gdu ∧ (dwellElapsed sh s).psc = s.psc ∧ (dwellElapsed sh s).cs = s.cs := by
  simp only [dwellElapsed]
  simp

@[simp] theorem showTimeExpired_frame (sh : Shown) (s : State) :
    (showTimeExpired sh s).pending = s.pending ∧ (showTimeExpired sh s).now = s.now ∧
    (showTimeExpired sh s).powered = s.powered ∧ (showTimeExpired sh s).coilOpen = s.coilOpen ∧
    (showTimeExpired sh s).cfg = s.cfg ∧ (showTimeExpired sh s).qt = s.qt ∧ (showTimeExpired sh s).ssu = s.ssu ∧
    (showTimeExpired sh s).gdu = s.gdu ∧ (showTimeExpired sh s).psc = s.psc ∧ (showTimeExpired sh s).cs = s.cs := by
  simp only [showTimeExpired]
  simp

@[simp] theorem rotate_frame (s : State) :
    (rotate s).pending = s.pending ∧ (rotate s).now = s.now ∧ (rotate s).powered = s.powered ∧
    (rotate s).coilOpen = s.coilOpen ∧ (rotate s).cfg = s.cfg ∧ (rotate s).qt = s.qt ∧ (rotate s).ssu = s.ssu ∧
    (rotate s).gdu = s.gdu ∧ (rotate s).weu = s.weu ∧ (rotate s).dtu = s.dtu ∧ (rotate s).psc = s.psc ∧
    (rotate s).cs = s.cs := by
  simp only [rotate]
  (repeat' split) <;> simp

@[simp] theorem rotationExpired_frame (sh : Shown) (s : State) :
    (rotationExpired sh s).pending = s.pending ∧ (rotationExpired sh s).now = s.now ∧
    (rotationExpired sh s).powered = s.powered ∧ (rotationExpired sh s).coilOpen = s.coilOpen ∧
    (rotationExpired sh s).cfg = s.cfg ∧ (rotationExpired sh s).qt = s.qt ∧ (rotationExpired sh s).ssu = s.ssu ∧
    (rotationExpired sh s).gdu = s.gdu ∧ (rotationExpired sh s).weu = s.weu ∧ (rotationExpired sh s).dtu = s.dtu ∧
    (rotationExpired sh s).psc = s.psc ∧ (rotationExpired sh s).cs = s.cs := by
  simp only [rotationExpired]
  (repeat' split) <;> simp

end Sys2Proof.Machine
end

