-- ==== Sys2Proof/Laws/ResetsFrames.lean ====
section
/-! SUPPORT. What each operation of Machine/Resets.lean leaves as it was. -/
namespace Sys2Proof.Machine

@[simp] theorem choosePower_frame (cause : PowerCause) (s : State) :
    (choosePower cause s).pending = s.pending ∧ (choosePower cause s).now = s.now ∧
    (choosePower cause s).powered = s.powered ∧ (choosePower cause s).coilOpen = s.coilOpen ∧
    (choosePower cause s).cfg = s.cfg ∧ (choosePower cause s).qt = s.qt ∧ (choosePower cause s).cs = s.cs := by
  simp only [choosePower]
  (repeat' split) <;> simp

@[simp] theorem writeDerivedIfPresent_frame (i : Fin 2) (s : State) :
    (writeDerivedIfPresent i s).pending = s.pending ∧ (writeDerivedIfPresent i s).now = s.now ∧
    (writeDerivedIfPresent i s).powered = s.powered ∧ (writeDerivedIfPresent i s).coilOpen = s.coilOpen ∧
    (writeDerivedIfPresent i s).cfg = s.cfg ∧ (writeDerivedIfPresent i s).ssu = s.ssu ∧
    (writeDerivedIfPresent i s).gdu = s.gdu ∧ (writeDerivedIfPresent i s).psc = s.psc ∧
    (writeDerivedIfPresent i s).cs = s.cs := by
  simp only [writeDerivedIfPresent]
  (repeat' split) <;> simp

@[simp] theorem powerOn_frame (keyOn : Bool) (s : State) :
    (powerOn keyOn s).pending = s.pending ∧ (powerOn keyOn s).now = s.now ∧
    (powerOn keyOn s).coilOpen = s.coilOpen := by
  simp [powerOn, resetBlocks]

@[simp] theorem linkReset_frame (keyOn : Bool) (s : State) :
    (linkReset keyOn s).pending = s.pending ∧ (linkReset keyOn s).now = s.now ∧
    (linkReset keyOn s).coilOpen = s.coilOpen := by
  simp [linkReset, resetBlocks]

@[simp] theorem loseSupply_frame (s : State) :
    (loseSupply s).pending = s.pending ∧ (loseSupply s).now = s.now ∧ (loseSupply s).coilOpen = s.coilOpen := by
  simp [loseSupply, resetBlocks]

end Sys2Proof.Machine
end

