-- ==== Sys2Proof/Laws/LinkFamilyFrames.lean ====
section
/-! SUPPORT. What each operation of Machine/LinkFamily.lean leaves as it was. -/
namespace Sys2Proof.Machine

@[simp] theorem configureLink_frame (c : LinkSettings) (s : State) :
    (configureLink c s).pending = s.pending ∧ (configureLink c s).now = s.now ∧
    (configureLink c s).powered = s.powered ∧ (configureLink c s).coilOpen = s.coilOpen ∧
    (configureLink c s).qt = s.qt ∧ (configureLink c s).ssu = s.ssu ∧ (configureLink c s).gdu = s.gdu ∧
    (configureLink c s).weu = s.weu ∧ (configureLink c s).dtu = s.dtu ∧ (configureLink c s).anu = s.anu ∧
    (configureLink c s).psc = s.psc ∧ (configureLink c s).cs = s.cs := by
  simp only [configureLink]
  (repeat' split) <;> simp

@[simp] theorem beginLinkLost_frame (s : State) :
    (beginLinkLost s).pending = s.pending ∧ (beginLinkLost s).now = s.now ∧ (beginLinkLost s).powered = s.powered ∧
    (beginLinkLost s).coilOpen = s.coilOpen ∧ (beginLinkLost s).cfg = s.cfg ∧ (beginLinkLost s).qt = s.qt ∧
    (beginLinkLost s).ssu = s.ssu ∧ (beginLinkLost s).gdu = s.gdu ∧ (beginLinkLost s).psc = s.psc ∧
    (beginLinkLost s).cs = s.cs := by
  simp only [beginLinkLost]
  simp

@[simp] theorem replySent_frame (keyOn : Bool) (r : Reply) (s : State) :
    (replySent keyOn r s).pending = s.pending ∧ (replySent keyOn r s).now = s.now ∧
    (replySent keyOn r s).coilOpen = s.coilOpen := by
  simp only [replySent]
  (repeat' split) <;> simp

end Sys2Proof.Machine
end

