-- ==== Sys2Proof/Laws/QuantityFamilyFrames.lean ====
section
/-! SUPPORT. What each operation of Machine/QuantityFamily.lean leaves as it was. -/
namespace Sys2Proof.Machine

@[simp] theorem restartSwitchSample_frame (s : State) :
    (restartSwitchSample s).pending = s.pending ∧ (restartSwitchSample s).now = s.now ∧
    (restartSwitchSample s).powered = s.powered ∧ (restartSwitchSample s).coilOpen = s.coilOpen ∧
    (restartSwitchSample s).cfg = s.cfg ∧ (restartSwitchSample s).lp = s.lp ∧ (restartSwitchSample s).ssu = s.ssu ∧
    (restartSwitchSample s).gdu = s.gdu ∧ (restartSwitchSample s).weu = s.weu ∧
    (restartSwitchSample s).dtu = s.dtu ∧ (restartSwitchSample s).anu = s.anu ∧
    (restartSwitchSample s).psc = s.psc ∧ (restartSwitchSample s).cs = s.cs := by
  simp only [restartSwitchSample]
  simp

end Sys2Proof.Machine
end

