-- ==== Sys2Proof/Laws/StoreFamilyFrames.lean ====
section
/-! SUPPORT. What each operation of Machine/StoreFamily.lean leaves as it was. -/
namespace Sys2Proof.Machine

@[simp] theorem beginSave_frame (s : State) :
    (beginSave s).pending = s.pending ∧ (beginSave s).now = s.now ∧ (beginSave s).powered = s.powered ∧
    (beginSave s).coilOpen = s.coilOpen ∧ (beginSave s).cfg = s.cfg ∧ (beginSave s).lp = s.lp ∧
    (beginSave s).qt = s.qt ∧ (beginSave s).ssu = s.ssu ∧ (beginSave s).gdu = s.gdu ∧ (beginSave s).weu = s.weu ∧
    (beginSave s).dtu = s.dtu ∧ (beginSave s).anu = s.anu ∧ (beginSave s).psc = s.psc := by
  simp only [beginSave]
  simp

@[simp] theorem endSave_frame (written : Settings) (outcome : SaveOutcome) (s : State) :
    (endSave written outcome s).pending = s.pending ∧ (endSave written outcome s).now = s.now ∧
    (endSave written outcome s).powered = s.powered ∧ (endSave written outcome s).coilOpen = s.coilOpen ∧
    (endSave written outcome s).cfg = s.cfg ∧ (endSave written outcome s).qt = s.qt ∧
    (endSave written outcome s).ssu = s.ssu ∧ (endSave written outcome s).gdu = s.gdu ∧
    (endSave written outcome s).weu = s.weu ∧ (endSave written outcome s).dtu = s.dtu ∧
    (endSave written outcome s).anu = s.anu ∧ (endSave written outcome s).psc = s.psc := by
  simp only [endSave]
  (repeat' split) <;> simp

@[simp] theorem setLock_frame (s : State) :
    (setLock s).pending = s.pending ∧ (setLock s).now = s.now ∧ (setLock s).powered = s.powered ∧
    (setLock s).coilOpen = s.coilOpen ∧ (setLock s).cfg = s.cfg ∧ (setLock s).lp = s.lp ∧ (setLock s).qt = s.qt ∧
    (setLock s).ssu = s.ssu ∧ (setLock s).gdu = s.gdu ∧ (setLock s).weu = s.weu ∧ (setLock s).dtu = s.dtu ∧
    (setLock s).anu = s.anu ∧ (setLock s).psc = s.psc := by
  simp only [setLock]
  (repeat' split) <;> simp

end Sys2Proof.Machine
end

