-- ==== Sys2Proof/Laws/WarningFamilyFrames.lean ====
section
/-! SUPPORT. What each operation of Machine/WarningFamily.lean leaves as it was. -/
namespace Sys2Proof.Machine

@[simp] theorem reminderExpired_frame (w : Fin 48) (s : State) :
    (reminderExpired w s).pending = s.pending ∧ (reminderExpired w s).now = s.now ∧
    (reminderExpired w s).powered = s.powered ∧ (reminderExpired w s).coilOpen = s.coilOpen ∧
    (reminderExpired w s).cfg = s.cfg ∧ (reminderExpired w s).qt = s.qt ∧ (reminderExpired w s).ssu = s.ssu ∧
    (reminderExpired w s).gdu = s.gdu ∧ (reminderExpired w s).psc = s.psc ∧ (reminderExpired w s).cs = s.cs := by
  simp only [reminderExpired]
  simp

@[simp] theorem suppress_frame (w : Fin 48) (s : State) :
    (suppress w s).pending = s.pending ∧ (suppress w s).now = s.now ∧ (suppress w s).powered = s.powered ∧
    (suppress w s).coilOpen = s.coilOpen ∧ (suppress w s).cfg = s.cfg ∧ (suppress w s).qt = s.qt ∧
    (suppress w s).ssu = s.ssu ∧ (suppress w s).gdu = s.gdu ∧ (suppress w s).psc = s.psc ∧
    (suppress w s).cs = s.cs := by
  simp only [suppress]
  (repeat' split) <;> simp

end Sys2Proof.Machine
end

