-- ==== Sys2Proof/Laws/ReceiverFrames.lean ====
section
/-! SUPPORT. What each operation of Machine/Receiver.lean leaves as it was. -/
namespace Sys2Proof.Machine

@[simp] theorem huntAgain_frame (s : State) :
    (huntAgain s).pending = s.pending ∧ (huntAgain s).now = s.now ∧ (huntAgain s).powered = s.powered ∧
    (huntAgain s).coilOpen = s.coilOpen ∧ (huntAgain s).cfg = s.cfg ∧ (huntAgain s).qt = s.qt ∧
    (huntAgain s).ssu = s.ssu ∧ (huntAgain s).gdu = s.gdu ∧ (huntAgain s).weu = s.weu ∧ (huntAgain s).dtu = s.dtu ∧
    (huntAgain s).anu = s.anu ∧ (huntAgain s).psc = s.psc ∧ (huntAgain s).cs = s.cs := by
  simp only [huntAgain]
  simp

@[simp] theorem discardShort_frame (s : State) :
    (discardShort s).pending = s.pending ∧ (discardShort s).now = s.now ∧ (discardShort s).powered = s.powered ∧
    (discardShort s).coilOpen = s.coilOpen ∧ (discardShort s).cfg = s.cfg ∧ (discardShort s).qt = s.qt ∧
    (discardShort s).ssu = s.ssu ∧ (discardShort s).gdu = s.gdu ∧ (discardShort s).weu = s.weu ∧
    (discardShort s).dtu = s.dtu ∧ (discardShort s).anu = s.anu ∧ (discardShort s).psc = s.psc ∧
    (discardShort s).cs = s.cs := by
  simp only [discardShort]
  simp

@[simp] theorem discardMismatch_frame (tag : Byte) (s : State) :
    (discardMismatch tag s).pending = s.pending ∧ (discardMismatch tag s).now = s.now ∧
    (discardMismatch tag s).powered = s.powered ∧ (discardMismatch tag s).coilOpen = s.coilOpen ∧
    (discardMismatch tag s).cfg = s.cfg ∧ (discardMismatch tag s).qt = s.qt ∧ (discardMismatch tag s).ssu = s.ssu ∧
    (discardMismatch tag s).gdu = s.gdu ∧ (discardMismatch tag s).weu = s.weu ∧
    (discardMismatch tag s).dtu = s.dtu ∧ (discardMismatch tag s).anu = s.anu ∧
    (discardMismatch tag s).psc = s.psc ∧ (discardMismatch tag s).cs = s.cs := by
  simp only [discardMismatch]
  simp

@[simp] theorem awaitByte_frame (phase : Receiver) (s : State) :
    (awaitByte phase s).pending = s.pending ∧ (awaitByte phase s).now = s.now ∧
    (awaitByte phase s).powered = s.powered ∧ (awaitByte phase s).coilOpen = s.coilOpen ∧
    (awaitByte phase s).cfg = s.cfg ∧ (awaitByte phase s).qt = s.qt ∧ (awaitByte phase s).ssu = s.ssu ∧
    (awaitByte phase s).gdu = s.gdu ∧ (awaitByte phase s).weu = s.weu ∧ (awaitByte phase s).dtu = s.dtu ∧
    (awaitByte phase s).anu = s.anu ∧ (awaitByte phase s).psc = s.psc ∧ (awaitByte phase s).cs = s.cs := by
  simp only [awaitByte]
  simp

end Sys2Proof.Machine
end

