-- ==== Sys2Proof/Laws/Parts.lean ====
section
/-! SUPPORT. Parts and records: what two states share, part by part, and one record of a table after an update of another
or of itself. -/
namespace Sys2Proof.Machine

/-- What two states share, written out part by part. -/
theorem State.sameBut_parts (s t : State) (l : List Part) : s.sameBut t l ↔
    (.pending ∈ l ∨ t.pending = s.pending) ∧ (.now ∈ l ∨ t.now = s.now) ∧ (.powered ∈ l ∨ t.powered = s.powered) ∧
    (.coilOpen ∈ l ∨ t.coilOpen = s.coilOpen) ∧ (.cfg ∈ l ∨ t.cfg = s.cfg) ∧ (.lp ∈ l ∨ t.lp = s.lp) ∧
    (.qt ∈ l ∨ t.qt = s.qt) ∧ (.ssu ∈ l ∨ t.ssu = s.ssu) ∧ (.gdu ∈ l ∨ t.gdu = s.gdu) ∧ (.weu ∈ l ∨ t.weu = s.weu) ∧
    (.dtu ∈ l ∨ t.dtu = s.dtu) ∧ (.anu ∈ l ∨ t.anu = s.anu) ∧ (.psc ∈ l ∨ t.psc = s.psc) ∧ (.cs ∈ l ∨ t.cs = s.cs) := by
  constructor
  · intro h
    refine ⟨?_, ?_, ?_, ?_, ?_, ?_, ?_, ?_, ?_, ?_, ?_, ?_, ?_, ?_⟩ <;> exact or_iff_not_imp_left.mpr fun hn => h _ hn
  · rintro h p hp
    cases p <;> simp only [State.agreeOn] <;> simp_all

@[simp] theorem State.setEntry_entry (s : State) (q x : Fin 48) (r : Quantity) :
    (s.setEntry q r).entry x = if x = q then r else s.entry x := by
  by_cases h : x = q
  · subst h; simp [State.setEntry, State.entry]
  · simp [State.setEntry, State.entry, h, Table.get_set_ne]
@[simp] theorem State.setEntry_sampleDue (s : State) (q : Fin 48) (r : Quantity) : (s.setEntry q r).qt.sampleDue = s.qt.sampleDue := rfl
/-- A record is read from its own part alone. -/
theorem State.entry_of (s t : State) (h : t.qt = s.qt) (x : Fin 48) : t.entry x = s.entry x := by simp [State.entry, h]

@[simp] theorem State.setGauge_gauge (s : State) (g x : Fin 6) (r : Gauge) :
    (s.setGauge g r).gauge x = if x = g then r else s.gauge x := by
  by_cases h : x = g
  · subst h; simp [State.setGauge, State.gauge]
  · simp [State.setGauge, State.gauge, h, Table.get_set_ne]
/-- A record is read from its own part alone. -/
theorem State.gauge_of (s t : State) (h : t.gdu = s.gdu) (x : Fin 6) : t.gauge x = s.gauge x := by simp [State.gauge, h]

@[simp] theorem State.setWarning_warning (s : State) (w x : Fin 48) (r : Warning) :
    (s.setWarning w r).warning x = if x = w then r else s.warning x := by
  by_cases h : x = w
  · subst h; simp [State.setWarning, State.warning]
  · simp [State.setWarning, State.warning, h, Table.get_set_ne]
@[simp] theorem State.setWarning_inForce (s : State) (w : Fin 48) (r : Warning) : (s.setWarning w r).weu.inForce = s.weu.inForce := rfl
@[simp] theorem State.setWarning_strengths (s : State) (w : Fin 48) (r : Warning) : (s.setWarning w r).weu.strengths = s.weu.strengths := rfl
@[simp] theorem State.setWarning_passCount (s : State) (w : Fin 48) (r : Warning) : (s.setWarning w r).weu.passCount = s.weu.passCount := rfl
@[simp] theorem State.setWarning_evalDue (s : State) (w : Fin 48) (r : Warning) : (s.setWarning w r).weu.evalDue = s.weu.evalDue := rfl
@[simp] theorem State.setWarning_pass (s : State) (w : Fin 48) (r : Warning) : (s.setWarning w r).weu.pass = s.weu.pass := rfl
@[simp] theorem State.setWarning_lamps (s : State) (w : Fin 48) (r : Warning) : (s.setWarning w r).weu.lamps = s.weu.lamps := rfl
@[simp] theorem State.setWarning_driveLevel (s : State) (w : Fin 48) (r : Warning) : (s.setWarning w r).weu.driveLevel = s.weu.driveLevel := rfl
@[simp] theorem State.setWarning_flash (s : State) (w : Fin 48) (r : Warning) : (s.setWarning w r).weu.flash = s.weu.flash := rfl
@[simp] theorem State.setWarning_lampDue (s : State) (w : Fin 48) (r : Warning) : (s.setWarning w r).weu.lampDue = s.weu.lampDue := rfl
/-- A record is read from its own part alone. -/
theorem State.warning_of (s t : State) (h : t.weu = s.weu) (x : Fin 48) : t.warning x = s.warning x := by simp [State.warning, h]

@[simp] theorem State.setLamp_lamp (s : State) (l x : Fin 32) (r : Lamp) :
    (s.setLamp l r).lamp x = if x = l then r else s.lamp x := by
  by_cases h : x = l
  · subst h; simp [State.setLamp, State.lamp]
  · simp [State.setLamp, State.lamp, h, Table.get_set_ne]
@[simp] theorem State.setLamp_inForce (s : State) (l : Fin 32) (r : Lamp) : (s.setLamp l r).weu.inForce = s.weu.inForce := rfl
@[simp] theorem State.setLamp_strengths (s : State) (l : Fin 32) (r : Lamp) : (s.setLamp l r).weu.strengths = s.weu.strengths := rfl
@[simp] theorem State.setLamp_passCount (s : State) (l : Fin 32) (r : Lamp) : (s.setLamp l r).weu.passCount = s.weu.passCount := rfl
@[simp] theorem State.setLamp_evalDue (s : State) (l : Fin 32) (r : Lamp) : (s.setLamp l r).weu.evalDue = s.weu.evalDue := rfl
@[simp] theorem State.setLamp_pass (s : State) (l : Fin 32) (r : Lamp) : (s.setLamp l r).weu.pass = s.weu.pass := rfl
@[simp] theorem State.setLamp_warnings (s : State) (l : Fin 32) (r : Lamp) : (s.setLamp l r).weu.warnings = s.weu.warnings := rfl
@[simp] theorem State.setLamp_driveLevel (s : State) (l : Fin 32) (r : Lamp) : (s.setLamp l r).weu.driveLevel = s.weu.driveLevel := rfl
@[simp] theorem State.setLamp_flash (s : State) (l : Fin 32) (r : Lamp) : (s.setLamp l r).weu.flash = s.weu.flash := rfl
@[simp] theorem State.setLamp_lampDue (s : State) (l : Fin 32) (r : Lamp) : (s.setLamp l r).weu.lampDue = s.weu.lampDue := rfl
/-- A record is read from its own part alone. -/
theorem State.lamp_of (s t : State) (h : t.weu = s.weu) (x : Fin 32) : t.lamp x = s.lamp x := by simp [State.lamp, h]

@[simp] theorem State.setSlot_slot (s : State) (i x : Fin 2) (r : Slot) :
    (s.setSlot i r).slot x = if x = i then r else s.slot x := by
  by_cases h : x = i
  · subst h; simp [State.setSlot, State.slot]
  · simp [State.setSlot, State.slot, h, Table.get_set_ne]
@[simp] theorem State.setSlot_clock (s : State) (i : Fin 2) (r : Slot) : (s.setSlot i r).dtu.clock = s.dtu.clock := rfl
@[simp] theorem State.setSlot_minuteDue (s : State) (i : Fin 2) (r : Slot) : (s.setSlot i r).dtu.minuteDue = s.dtu.minuteDue := rfl
@[simp] theorem State.setSlot_mismatchCount (s : State) (i : Fin 2) (r : Slot) : (s.setSlot i r).dtu.mismatchCount = s.dtu.mismatchCount := rfl
@[simp] theorem State.setSlot_mismatch (s : State) (i : Fin 2) (r : Slot) : (s.setSlot i r).dtu.mismatch = s.dtu.mismatch := rfl
/-- A record is read from its own part alone. -/
theorem State.slot_of (s t : State) (h : t.dtu = s.dtu) (x : Fin 2) : t.slot x = s.slot x := by simp [State.slot, h]

/-! ### The stored image -/

@[simp] theorem StoredImage.read_absent : StoredImage.absent.read = none := rfl
@[simp] theorem StoredImage.read_written (c : Settings) : (StoredImage.written c).read = some c := by
  simp [StoredImage.written, StoredImage.read]
/-- An image whose check value does not match has no settings. -/
theorem StoredImage.read_mismatch (c : Settings) (check : BitVec 16) (h : check ≠ c.check) :
    (StoredImage.held c check).read = none := by
  simp [StoredImage.read, Ne.symm h]
/-- An image left broken off holds a check value other than its own. -/
theorem StoredImage.brokenOff_mismatch (c : Settings) :
    ∃ check, StoredImage.brokenOff c = .held c check ∧ check ≠ c.check := by
  refine ⟨_, rfl, fun h => ?_⟩
  have := congrArg BitVec.toNat h
  simp at this
  omega
@[simp] theorem StoredImage.read_brokenOff (c : Settings) : (StoredImage.brokenOff c).read = none := by
  obtain ⟨check, h, hne⟩ := StoredImage.brokenOff_mismatch c
  rw [h, StoredImage.read_mismatch c check hne]

/-! ### Reads of a record after an update of another part -/

@[simp] theorem State.setPending_reads (s : State) (x : List Instr) :
    (∀ q, (s.setPending x).entry q = s.entry q) ∧ (∀ g, (s.setPending x).gauge g = s.gauge g) ∧
    (∀ g, (s.setPending x).gaugeConfig g = s.gaugeConfig g) ∧ (∀ w, (s.setPending x).warning w = s.warning w) ∧
    (∀ l, (s.setPending x).lamp l = s.lamp l) ∧ (∀ i, (s.setPending x).slot i = s.slot i) ∧
    (∀ i, (s.setPending x).limits i = s.limits i) ∧ (s.setPending x).saving = s.saving ∧
    (s.setPending x).anyDriving = s.anyDriving ∧ (s.setPending x).gaugesReady = s.gaugesReady ∧
    (s.setPending x).gaugesParked = s.gaugesParked ∧ (s.setPending x).linkLost = s.linkLost ∧
    (∀ q, (s.setPending x).validValue q = s.validValue q) ∧ (s.setPending x).onLine = s.onLine ∧
    (s.setPending x).passPositions = s.passPositions := by
  refine ⟨?_, ?_, ?_, ?_, ?_, ?_, ?_, ?_, ?_, ?_, ?_, ?_, ?_, ?_, ?_⟩ <;> intros <;> rfl
@[simp] theorem State.setNow_reads (s : State) (x : Nat) :
    (∀ q, (s.setNow x).entry q = s.entry q) ∧ (∀ g, (s.setNow x).gauge g = s.gauge g) ∧
    (∀ g, (s.setNow x).gaugeConfig g = s.gaugeConfig g) ∧ (∀ w, (s.setNow x).warning w = s.warning w) ∧
    (∀ l, (s.setNow x).lamp l = s.lamp l) ∧ (∀ i, (s.setNow x).slot i = s.slot i) ∧
    (∀ i, (s.setNow x).limits i = s.limits i) ∧ (s.setNow x).saving = s.saving ∧
    (s.setNow x).anyDriving = s.anyDriving ∧ (s.setNow x).gaugesReady = s.gaugesReady ∧
    (s.setNow x).gaugesParked = s.gaugesParked ∧ (s.setNow x).linkLost = s.linkLost ∧
    (∀ q, (s.setNow x).validValue q = s.validValue q) ∧ (s.setNow x).onLine = s.onLine ∧
    (s.setNow x).passPositions = s.passPositions := by
  refine ⟨?_, ?_, ?_, ?_, ?_, ?_, ?_, ?_, ?_, ?_, ?_, ?_, ?_, ?_, ?_⟩ <;> intros <;> rfl
@[simp] theorem State.setCoilOpen_reads (s : State) (x : Table 6 Bool) :
    (∀ q, (s.setCoilOpen x).entry q = s.entry q) ∧ (∀ g, (s.setCoilOpen x).gauge g = s.gauge g) ∧
    (∀ g, (s.setCoilOpen x).gaugeConfig g = s.gaugeConfig g) ∧ (∀ w, (s.setCoilOpen x).warning w = s.warning w) ∧
    (∀ l, (s.setCoilOpen x).lamp l = s.lamp l) ∧ (∀ i, (s.setCoilOpen x).slot i = s.slot i) ∧
    (∀ i, (s.setCoilOpen x).limits i = s.limits i) ∧ (s.setCoilOpen x).saving = s.saving ∧
    (s.setCoilOpen x).anyDriving = s.anyDriving ∧ (s.setCoilOpen x).gaugesReady = s.gaugesReady ∧
    (s.setCoilOpen x).gaugesParked = s.gaugesParked ∧ (s.setCoilOpen x).linkLost = s.linkLost ∧
    (∀ q, (s.setCoilOpen x).validValue q = s.validValue q) ∧ (s.setCoilOpen x).onLine = s.onLine ∧
    (s.setCoilOpen x).passPositions = s.passPositions := by
  refine ⟨?_, ?_, ?_, ?_, ?_, ?_, ?_, ?_, ?_, ?_, ?_, ?_, ?_, ?_, ?_⟩ <;> intros <;> rfl
@[simp] theorem State.setCfg_reads (s : State) (x : Settings) :
    (∀ q, (s.setCfg x).entry q = s.entry q) ∧ (∀ g, (s.setCfg x).gauge g = s.gauge g) ∧
    (∀ w, (s.setCfg x).warning w = s.warning w) ∧ (∀ l, (s.setCfg x).lamp l = s.lamp l) ∧
    (∀ i, (s.setCfg x).slot i = s.slot i) ∧ (s.setCfg x).saving = s.saving ∧
    (s.setCfg x).anyDriving = s.anyDriving ∧ (s.setCfg x).gaugesReady = s.gaugesReady ∧
    (s.setCfg x).gaugesParked = s.gaugesParked ∧ (s.setCfg x).linkLost = s.linkLost ∧
    (∀ q, (s.setCfg x).validValue q = s.validValue q) := by
  refine ⟨?_, ?_, ?_, ?_, ?_, ?_, ?_, ?_, ?_, ?_, ?_⟩ <;> intros <;> rfl
@[simp] theorem State.setLp_reads (s : State) (x : LinkPort) :
    (∀ q, (s.setLp x).entry q = s.entry q) ∧ (∀ g, (s.setLp x).gauge g = s.gauge g) ∧
    (∀ g, (s.setLp x).gaugeConfig g = s.gaugeConfig g) ∧ (∀ w, (s.setLp x).warning w = s.warning w) ∧
    (∀ l, (s.setLp x).lamp l = s.lamp l) ∧ (∀ i, (s.setLp x).slot i = s.slot i) ∧
    (∀ i, (s.setLp x).limits i = s.limits i) ∧ (s.setLp x).saving = s.saving ∧
    (s.setLp x).anyDriving = s.anyDriving ∧ (s.setLp x).gaugesReady = s.gaugesReady ∧
    (s.setLp x).gaugesParked = s.gaugesParked ∧ (∀ q, (s.setLp x).validValue q = s.validValue q) ∧
    (s.setLp x).onLine = s.onLine ∧ (s.setLp x).passPositions = s.passPositions := by
  refine ⟨?_, ?_, ?_, ?_, ?_, ?_, ?_, ?_, ?_, ?_, ?_, ?_, ?_, ?_⟩ <;> intros <;> rfl
@[simp] theorem State.setQt_reads (s : State) (x : QuantityTable) :
    (∀ g, (s.setQt x).gauge g = s.gauge g) ∧ (∀ g, (s.setQt x).gaugeConfig g = s.gaugeConfig g) ∧
    (∀ w, (s.setQt x).warning w = s.warning w) ∧ (∀ l, (s.setQt x).lamp l = s.lamp l) ∧
    (∀ i, (s.setQt x).slot i = s.slot i) ∧ (∀ i, (s.setQt x).limits i = s.limits i) ∧
    (s.setQt x).saving = s.saving ∧ (s.setQt x).anyDriving = s.anyDriving ∧
    (s.setQt x).gaugesReady = s.gaugesReady ∧ (s.setQt x).gaugesParked = s.gaugesParked ∧
    (s.setQt x).linkLost = s.linkLost ∧ (s.setQt x).onLine = s.onLine ∧
    (s.setQt x).passPositions = s.passPositions := by
  refine ⟨?_, ?_, ?_, ?_, ?_, ?_, ?_, ?_, ?_, ?_, ?_, ?_, ?_⟩ <;> intros <;> rfl
@[simp] theorem State.setSsu_reads (s : State) (x : Scan) :
    (∀ q, (s.setSsu x).entry q = s.entry q) ∧ (∀ g, (s.setSsu x).gauge g = s.gauge g) ∧
    (∀ g, (s.setSsu x).gaugeConfig g = s.gaugeConfig g) ∧ (∀ w, (s.setSsu x).warning w = s.warning w) ∧
    (∀ l, (s.setSsu x).lamp l = s.lamp l) ∧ (∀ i, (s.setSsu x).slot i = s.slot i) ∧
    (∀ i, (s.setSsu x).limits i = s.limits i) ∧ (s.setSsu x).saving = s.saving ∧
    (s.setSsu x).anyDriving = s.anyDriving ∧ (s.setSsu x).gaugesReady = s.gaugesReady ∧
    (s.setSsu x).gaugesParked = s.gaugesParked ∧ (s.setSsu x).linkLost = s.linkLost ∧
    (∀ q, (s.setSsu x).validValue q = s.validValue q) ∧ (s.setSsu x).onLine = s.onLine := by
  refine ⟨?_, ?_, ?_, ?_, ?_, ?_, ?_, ?_, ?_, ?_, ?_, ?_, ?_, ?_⟩ <;> intros <;> rfl
@[simp] theorem State.setGdu_reads (s : State) (x : Table 6 Gauge) :
    (∀ q, (s.setGdu x).entry q = s.entry q) ∧ (∀ g, (s.setGdu x).gaugeConfig g = s.gaugeConfig g) ∧
    (∀ w, (s.setGdu x).warning w = s.warning w) ∧ (∀ l, (s.setGdu x).lamp l = s.lamp l) ∧
    (∀ i, (s.setGdu x).slot i = s.slot i) ∧ (∀ i, (s.setGdu x).limits i = s.limits i) ∧
    (s.setGdu x).saving = s.saving ∧ (s.setGdu x).anyDriving = s.anyDriving ∧ (s.setGdu x).linkLost = s.linkLost ∧
    (∀ q, (s.setGdu x).validValue q = s.validValue q) ∧ (s.setGdu x).onLine = s.onLine ∧
    (s.setGdu x).passPositions = s.passPositions := by
  refine ⟨?_, ?_, ?_, ?_, ?_, ?_, ?_, ?_, ?_, ?_, ?_, ?_⟩ <;> intros <;> rfl
@[simp] theorem State.setWeu_reads (s : State) (x : Evaluation) :
    (∀ q, (s.setWeu x).entry q = s.entry q) ∧ (∀ g, (s.setWeu x).gauge g = s.gauge g) ∧
    (∀ g, (s.setWeu x).gaugeConfig g = s.gaugeConfig g) ∧ (∀ i, (s.setWeu x).slot i = s.slot i) ∧
    (∀ i, (s.setWeu x).limits i = s.limits i) ∧ (s.setWeu x).saving = s.saving ∧
    (s.setWeu x).anyDriving = s.anyDriving ∧ (s.setWeu x).gaugesReady = s.gaugesReady ∧
    (s.setWeu x).gaugesParked = s.gaugesParked ∧ (s.setWeu x).linkLost = s.linkLost ∧
    (∀ q, (s.setWeu x).validValue q = s.validValue q) ∧ (s.setWeu x).onLine = s.onLine ∧
    (s.setWeu x).passPositions = s.passPositions := by
  refine ⟨?_, ?_, ?_, ?_, ?_, ?_, ?_, ?_, ?_, ?_, ?_, ?_, ?_⟩ <;> intros <;> rfl
@[simp] theorem State.setDtu_reads (s : State) (x : Duty) :
    (∀ q, (s.setDtu x).entry q = s.entry q) ∧ (∀ g, (s.setDtu x).gauge g = s.gauge g) ∧
    (∀ g, (s.setDtu x).gaugeConfig g = s.gaugeConfig g) ∧ (∀ w, (s.setDtu x).warning w = s.warning w) ∧
    (∀ l, (s.setDtu x).lamp l = s.lamp l) ∧ (∀ i, (s.setDtu x).limits i = s.limits i) ∧
    (s.setDtu x).saving = s.saving ∧ (s.setDtu x).gaugesReady = s.gaugesReady ∧
    (s.setDtu x).gaugesParked = s.gaugesParked ∧ (s.setDtu x).linkLost = s.linkLost ∧
    (∀ q, (s.setDtu x).validValue q = s.validValue q) ∧ (s.setDtu x).onLine = s.onLine ∧
    (s.setDtu x).passPositions = s.passPositions := by
  refine ⟨?_, ?_, ?_, ?_, ?_, ?_, ?_, ?_, ?_, ?_, ?_, ?_, ?_⟩ <;> intros <;> rfl
@[simp] theorem State.setAnu_reads (s : State) (x : Annunciation) :
    (∀ q, (s.setAnu x).entry q = s.entry q) ∧ (∀ g, (s.setAnu x).gauge g = s.gauge g) ∧
    (∀ g, (s.setAnu x).gaugeConfig g = s.gaugeConfig g) ∧ (∀ w, (s.setAnu x).warning w = s.warning w) ∧
    (∀ l, (s.setAnu x).lamp l = s.lamp l) ∧ (∀ i, (s.setAnu x).slot i = s.slot i) ∧
    (∀ i, (s.setAnu x).limits i = s.limits i) ∧ (s.setAnu x).saving = s.saving ∧
    (s.setAnu x).anyDriving = s.anyDriving ∧ (s.setAnu x).gaugesReady = s.gaugesReady ∧
    (s.setAnu x).gaugesParked = s.gaugesParked ∧ (s.setAnu x).linkLost = s.linkLost ∧
    (∀ q, (s.setAnu x).validValue q = s.validValue q) ∧ (s.setAnu x).passPositions = s.passPositions := by
  refine ⟨?_, ?_, ?_, ?_, ?_, ?_, ?_, ?_, ?_, ?_, ?_, ?_, ?_, ?_⟩ <;> intros <;> rfl
@[simp] theorem State.setPsc_reads (s : State) (x : Power) :
    (∀ q, (s.setPsc x).entry q = s.entry q) ∧ (∀ g, (s.setPsc x).gauge g = s.gauge g) ∧
    (∀ g, (s.setPsc x).gaugeConfig g = s.gaugeConfig g) ∧ (∀ w, (s.setPsc x).warning w = s.warning w) ∧
    (∀ l, (s.setPsc x).lamp l = s.lamp l) ∧ (∀ i, (s.setPsc x).slot i = s.slot i) ∧
    (∀ i, (s.setPsc x).limits i = s.limits i) ∧ (s.setPsc x).saving = s.saving ∧
    (s.setPsc x).anyDriving = s.anyDriving ∧ (s.setPsc x).gaugesReady = s.gaugesReady ∧
    (s.setPsc x).gaugesParked = s.gaugesParked ∧ (s.setPsc x).linkLost = s.linkLost ∧
    (∀ q, (s.setPsc x).validValue q = s.validValue q) ∧ (s.setPsc x).passPositions = s.passPositions := by
  refine ⟨?_, ?_, ?_, ?_, ?_, ?_, ?_, ?_, ?_, ?_, ?_, ?_, ?_, ?_⟩ <;> intros <;> rfl
@[simp] theorem State.setCs_reads (s : State) (x : Store) :
    (∀ q, (s.setCs x).entry q = s.entry q) ∧ (∀ g, (s.setCs x).gauge g = s.gauge g) ∧
    (∀ g, (s.setCs x).gaugeConfig g = s.gaugeConfig g) ∧ (∀ w, (s.setCs x).warning w = s.warning w) ∧
    (∀ l, (s.setCs x).lamp l = s.lamp l) ∧ (∀ i, (s.setCs x).slot i = s.slot i) ∧
    (∀ i, (s.setCs x).limits i = s.limits i) ∧ (s.setCs x).anyDriving = s.anyDriving ∧
    (s.setCs x).gaugesReady = s.gaugesReady ∧ (s.setCs x).gaugesParked = s.gaugesParked ∧
    (s.setCs x).linkLost = s.linkLost ∧ (∀ q, (s.setCs x).validValue q = s.validValue q) ∧
    (s.setCs x).onLine = s.onLine ∧ (s.setCs x).passPositions = s.passPositions := by
  refine ⟨?_, ?_, ?_, ?_, ?_, ?_, ?_, ?_, ?_, ?_, ?_, ?_, ?_, ?_⟩ <;> intros <;> rfl
@[simp] theorem handWith_reads (c : WarnClass) (o : Bool) (k : ReportKind) (a b : Nat) (s : State) :
    (∀ q, (handWith c o k a b s).entry q = s.entry q) ∧ (∀ g, (handWith c o k a b s).gauge g = s.gauge g) ∧
    (∀ g, (handWith c o k a b s).gaugeConfig g = s.gaugeConfig g) ∧
    (∀ w, (handWith c o k a b s).warning w = s.warning w) ∧ (∀ l, (handWith c o k a b s).lamp l = s.lamp l) ∧
    (∀ i, (handWith c o k a b s).slot i = s.slot i) ∧ (∀ i, (handWith c o k a b s).limits i = s.limits i) ∧
    (handWith c o k a b s).saving = s.saving ∧ (handWith c o k a b s).anyDriving = s.anyDriving ∧
    (handWith c o k a b s).gaugesReady = s.gaugesReady ∧ (handWith c o k a b s).gaugesParked = s.gaugesParked ∧
    (∀ q, (handWith c o k a b s).validValue q = s.validValue q) ∧ (handWith c o k a b s).onLine = s.onLine ∧
    (handWith c o k a b s).passPositions = s.passPositions := by
  simp [State.entry, State.gauge, State.gaugeConfig, State.warning, State.lamp, State.slot, State.limits, State.saving,
    State.anyDriving, State.gaugesReady, State.gaugesParked, State.validValue, State.onLine, State.page,
    State.passPositions]
@[simp] theorem hand_reads (k : ReportKind) (a b : Nat) (s : State) :
    (∀ q, (hand k a b s).entry q = s.entry q) ∧ (∀ g, (hand k a b s).gauge g = s.gauge g) ∧
    (∀ g, (hand k a b s).gaugeConfig g = s.gaugeConfig g) ∧ (∀ w, (hand k a b s).warning w = s.warning w) ∧
    (∀ l, (hand k a b s).lamp l = s.lamp l) ∧ (∀ i, (hand k a b s).slot i = s.slot i) ∧
    (∀ i, (hand k a b s).limits i = s.limits i) ∧ (hand k a b s).saving = s.saving ∧
    (hand k a b s).anyDriving = s.anyDriving ∧ (hand k a b s).gaugesReady = s.gaugesReady ∧
    (hand k a b s).gaugesParked = s.gaugesParked ∧ (∀ q, (hand k a b s).validValue q = s.validValue q) ∧
    (hand k a b s).onLine = s.onLine ∧ (hand k a b s).passPositions = s.passPositions := by
  simp [State.entry, State.gauge, State.gaugeConfig, State.warning, State.lamp, State.slot, State.limits, State.saving,
    State.anyDriving, State.gaugesReady, State.gaugesParked, State.validValue, State.onLine, State.page,
    State.passPositions]
@[simp] theorem releaseHeld_reads (w : Fin 48) (s : State) :
    (∀ q, (releaseHeld w s).entry q = s.entry q) ∧ (∀ g, (releaseHeld w s).gauge g = s.gauge g) ∧
    (∀ g, (releaseHeld w s).gaugeConfig g = s.gaugeConfig g) ∧ (∀ w, (releaseHeld w s).warning w = s.warning w) ∧
    (∀ l, (releaseHeld w s).lamp l = s.lamp l) ∧ (∀ i, (releaseHeld w s).slot i = s.slot i) ∧
    (∀ i, (releaseHeld w s).limits i = s.limits i) ∧ (releaseHeld w s).saving = s.saving ∧
    (releaseHeld w s).anyDriving = s.anyDriving ∧ (releaseHeld w s).gaugesReady = s.gaugesReady ∧
    (releaseHeld w s).gaugesParked = s.gaugesParked ∧ (∀ q, (releaseHeld w s).validValue q = s.validValue q) ∧
    (releaseHeld w s).onLine = s.onLine ∧ (releaseHeld w s).passPositions = s.passPositions := by
  simp [State.entry, State.gauge, State.gaugeConfig, State.warning, State.lamp, State.slot, State.limits, State.saving,
    State.anyDriving, State.gaugesReady, State.gaugesParked, State.validValue, State.onLine, State.page,
    State.passPositions]
@[simp] theorem beginReply_reads (tag kind : Byte) (status : Status) (body : List Byte) (s : State) :
    (∀ q, (beginReply tag kind status body s).entry q = s.entry q) ∧
    (∀ g, (beginReply tag kind status body s).gauge g = s.gauge g) ∧
    (∀ g, (beginReply tag kind status body s).gaugeConfig g = s.gaugeConfig g) ∧
    (∀ w, (beginReply tag kind status body s).warning w = s.warning w) ∧
    (∀ l, (beginReply tag kind status body s).lamp l = s.lamp l) ∧
    (∀ i, (beginReply tag kind status body s).slot i = s.slot i) ∧
    (∀ i, (beginReply tag kind status body s).limits i = s.limits i) ∧
    (beginReply tag kind status body s).saving = s.saving ∧
    (beginReply tag kind status body s).anyDriving = s.anyDriving ∧
    (beginReply tag kind status body s).gaugesReady = s.gaugesReady ∧
    (beginReply tag kind status body s).gaugesParked = s.gaugesParked ∧
    (∀ q, (beginReply tag kind status body s).validValue q = s.validValue q) ∧
    (beginReply tag kind status body s).onLine = s.onLine ∧
    (beginReply tag kind status body s).passPositions = s.passPositions := by
  simp [State.entry, State.gauge, State.gaugeConfig, State.warning, State.lamp, State.slot, State.limits, State.saving,
    State.anyDriving, State.gaugesReady, State.gaugesParked, State.validValue, State.onLine, State.page,
    State.passPositions]
@[simp] theorem goodFrame_reads (s : State) :
    (∀ q, (goodFrame s).entry q = s.entry q) ∧ (∀ g, (goodFrame s).gauge g = s.gauge g) ∧
    (∀ g, (goodFrame s).gaugeConfig g = s.gaugeConfig g) ∧ (∀ w, (goodFrame s).warning w = s.warning w) ∧
    (∀ l, (goodFrame s).lamp l = s.lamp l) ∧ (∀ i, (goodFrame s).slot i = s.slot i) ∧
    (∀ i, (goodFrame s).limits i = s.limits i) ∧ (goodFrame s).saving = s.saving ∧
    (goodFrame s).anyDriving = s.anyDriving ∧ (goodFrame s).gaugesReady = s.gaugesReady ∧
    (goodFrame s).gaugesParked = s.gaugesParked ∧ (∀ q, (goodFrame s).validValue q = s.validValue q) ∧
    (goodFrame s).onLine = s.onLine ∧ (goodFrame s).passPositions = s.passPositions := by
  simp [State.entry, State.gauge, State.gaugeConfig, State.warning, State.lamp, State.slot, State.limits, State.saving,
    State.anyDriving, State.gaugesReady, State.gaugesParked, State.validValue, State.onLine, State.page,
    State.passPositions]

end Sys2Proof.Machine
end

