-- ==== Sys2Proof/Laws/Requests.lean ====
section
/-! SUPPORT. What taking a request does, once for every request: the reply, the judging in the order of R175, and the
operations every request shares. -/
namespace Sys2Proof.Machine

/-! ### The Link Port's own record -/

@[simp] theorem handWith_keeps_lp (c : WarnClass) (o : Bool) (k : ReportKind) (a b : Nat) (s : State) :
    (handWith c o k a b s).lp.reply = s.lp.reply ∧ (handWith c o k a b s).lp.receiver = s.lp.receiver ∧
    (handWith c o k a b s).lp.byteDue = s.lp.byteDue ∧ (handWith c o k a b s).lp.lostSince = s.lp.lostSince ∧
    (handWith c o k a b s).lp.silenceDue = s.lp.silenceDue := by
  simp only [handWith, postRecord, judgeAttention, holdRecord]
  (repeat' split) <;> simp

@[simp] theorem hand_keeps_lp (k : ReportKind) (a b : Nat) (s : State) :
    (hand k a b s).lp.reply = s.lp.reply ∧ (hand k a b s).lp.receiver = s.lp.receiver ∧
    (hand k a b s).lp.byteDue = s.lp.byteDue ∧ (hand k a b s).lp.lostSince = s.lp.lostSince ∧
    (hand k a b s).lp.silenceDue = s.lp.silenceDue := by
  simp [hand]

/-- A report that is not a raised warning's never joins or leaves the held list. -/
@[simp] theorem hand_held (k : ReportKind) (a b : Nat) (s : State) : (hand k a b s).lp.held = s.lp.held := by
  simp only [hand, handWith, postRecord, judgeAttention]
  (repeat' split) <;> simp_all

@[simp] theorem releaseHeld_keeps_lp (w : Fin 48) (s : State) :
    (releaseHeld w s).lp.reply = s.lp.reply ∧ (releaseHeld w s).lp.receiver = s.lp.receiver ∧
    (releaseHeld w s).lp.byteDue = s.lp.byteDue ∧ (releaseHeld w s).lp.lostSince = s.lp.lostSince ∧
    (releaseHeld w s).lp.silenceDue = s.lp.silenceDue := by
  simp only [releaseHeld, postRecord, judgeAttention]
  (repeat' split) <;> simp

@[simp] theorem endLinkLost_lp (s : State) :
    (endLinkLost s).lp.reply = s.lp.reply ∧ (endLinkLost s).lp.receiver = s.lp.receiver ∧
    (endLinkLost s).lp.byteDue = s.lp.byteDue ∧ (endLinkLost s).lp.lostSince = none ∧
    (endLinkLost s).lp.silenceDue = s.lp.silenceDue ∧ (endLinkLost s).lp.held = s.lp.held := by
  simp only [endLinkLost]
  split <;> simp_all

@[simp] theorem restartSilence_lp (s : State) :
    (restartSilence s).lp.reply = s.lp.reply ∧ (restartSilence s).lp.receiver = s.lp.receiver ∧
    (restartSilence s).lp.byteDue = s.lp.byteDue ∧ (restartSilence s).lp.lostSince = s.lp.lostSince ∧
    (restartSilence s).lp.held = s.lp.held ∧ (restartSilence s).lp.queue = s.lp.queue ∧
    (restartSilence s).lp.overflow = s.lp.overflow ∧ (restartSilence s).lp.attention = s.lp.attention := by
  simp only [restartSilence]
  split <;> simp

/-- Step 1 of R175 leaves the receiver hunting, LINK LOST ended, and the reply in progress and the held list alone. -/
@[simp] theorem goodFrame_lp (s : State) :
    (goodFrame s).lp.reply = s.lp.reply ∧ (goodFrame s).lp.receiver = .hunting ∧ (goodFrame s).lp.byteDue = none ∧
    (goodFrame s).lp.lostSince = none ∧ (goodFrame s).lp.held = s.lp.held := by
  simp [goodFrame]

@[simp] theorem beginReply_lp (tag kind : Byte) (status : Status) (body : List Byte) (s : State) :
    (beginReply tag kind status body s).lp = { s.lp with reply := some ⟨tag, kind, status, sentBody body⟩ } := by
  simp [beginReply]

@[simp] theorem sentBody_short (body : List Byte) (h : body.length ≤ 240) : sentBody body = body := by
  simp [sentBody, h]

@[simp] theorem sentBody_nil : sentBody [] = [] := rfl

/-- A report joins the queue behind every record it holds, or not at all. -/
theorem hand_queue (k : ReportKind) (a b : Nat) (s : State) : s.lp.queue <+: (hand k a b s).lp.queue := by
  simp only [hand, handWith, postRecord, judgeAttention]
  (repeat' split) <;> simp_all

/-! ### Judging and taking -/

/-- A request that is not an overrun is judged on the state that step 1 leaves, and answered. -/
theorem Request.take_answers (r : Request) (tag : Byte) (body : List Byte) (s : State) (h : s.lp.reply = none) :
    r.take tag body s = beginReply tag r.kind (r.judge body (goodFrame s)).status (r.judge body (goodFrame s)).body
      (r.judge body (goodFrame s)).state := by
  simp [Request.take, h]

/-- A request whose body fits and that the power state admits is decided by its own rule. -/
theorem Request.judge_runs (r : Request) (body : List Byte) (s : State) (hf : r.fits body = true)
    (ha : s.psc.state ≠ .sleep ∨ r.inSleep = true) : r.judge body s = r.run body s := by
  rcases ha with ha | ha <;> simp [Request.judge, hf, ha]

/-- A request taken outside SLEEP with a body that fits. -/
theorem Request.take_runs (r : Request) (tag : Byte) (body : List Byte) (s : State) (h : s.lp.reply = none)
    (hf : r.fits body = true) (ha : s.psc.state ≠ .sleep ∨ r.inSleep = true) :
    r.take tag body s = beginReply tag r.kind (r.run body (goodFrame s)).status (r.run body (goodFrame s)).body
      (r.run body (goodFrame s)).state := by
  rw [r.take_answers tag body s h, r.judge_runs body (goodFrame s) hf (by simpa using ha)]

/-- The reply to a request that is taken. -/
theorem Request.take_reply (r : Request) (tag : Byte) (body : List Byte) (s : State) (h : s.lp.reply = none) :
    (r.take tag body s).lp.reply = some ⟨tag, r.kind, (r.judge body (goodFrame s)).status,
      sentBody (r.judge body (goodFrame s)).body⟩ := by
  simp [r.take_answers tag body s h]

@[simp] theorem event_powered (f : State → State) (s : State) (h : s.powered = true) : event f s = .next (f s) := by
  simp [event, h]

@[simp] theorem event_unpowered (f : State → State) (s : State) (h : s.powered = false) : event f s = .next s := by
  simp [event, h]

/-- A request whose body fits and that the power state admits, carried out with supply and no reply in progress. -/
theorem Request.take_next (r : Request) (tag : Byte) (body : List Byte) (s : State) (hp : s.powered = true)
    (h : s.lp.reply = none) (hf : r.fits body = true) (ha : s.psc.state ≠ .sleep ∨ r.inSleep = true) :
    event (r.take tag body) s = .next (beginReply tag r.kind (r.run body (goodFrame s)).status
      (r.run body (goodFrame s)).body (r.run body (goodFrame s)).state) := by
  rw [event_powered _ _ hp, r.take_runs tag body s h hf ha]

/-- A request is answered as its own rule says. -/
theorem answers_of (c : Instr) (r : Request) (tag : Byte) (body : List Byte) (s : State) (status : Status)
    (b : List Byte) (P : State → Prop) (hc : exec c s = event (r.take tag body) s) (hp : s.powered = true)
    (h : s.lp.reply = none) (hf : r.fits body = true) (ha : s.psc.state ≠ .sleep ∨ r.inSleep = true) (t : State)
    (hr : r.run body (goodFrame s) = ⟨t, status, b⟩) (hb : b.length ≤ 240)
    (hP : P (beginReply tag r.kind status b t)) : Answers c s tag r.kind status b P :=
  ⟨beginReply tag r.kind status b t, by rw [hc, r.take_next tag body s hp h hf ha, hr], by simp [hb], hP⟩

theorem configuring_accepts {α : Type} (read : Option α) (act : α → Answer) (s : State) (x : α)
    (hs : s.saving = false) (hr : read = some x) : configuring read act s = act x := by
  simp [configuring, hs, hr]

theorem configuring_busy {α : Type} (read : Option α) (act : α → Answer) (s : State) (hs : s.saving = true) :
    configuring read act s = Answer.refuse s .busy := by
  simp [configuring, hs]

theorem reading_accepts {α : Type} (read : Option α) (act : α → Answer) (s : State) (x : α) (hr : read = some x) :
    reading read act s = act x := by
  simp [reading, hr]

end Sys2Proof.Machine
end

