-- ==== Sys2Proof/Laws/Line.lean ====
section
/-! SUPPORT. The announcement queue and the line: joining and sorting the queue, the renumbering of its entries, what a
rendering keeps, and the decision of the line by case. -/
namespace Sys2Proof.Machine

/-- An entry that joins the queue is added to it. -/
theorem enqueue_perm (e : Entry) (q : List Entry) : (enqueue e q).Perm (e :: q) := by
  induction q with
  | nil => exact List.Perm.refl _
  | cons f rest ih =>
    simp only [enqueue]
    split
    · exact List.Perm.refl _
    · exact (List.Perm.cons f ih).trans (List.Perm.swap e f rest)

@[simp] theorem enqueue_length (e : Entry) (q : List Entry) : (enqueue e q).length = q.length + 1 :=
  (enqueue_perm e q).length_eq

@[simp] theorem mem_enqueue (e x : Entry) (q : List Entry) : x ∈ enqueue e q ↔ x = e ∨ x ∈ q := by
  rw [(enqueue_perm e q).mem_iff, List.mem_cons]

/-- Sorting keeps the entries. -/
theorem sortQueue_perm (q : List Entry) : (sortQueue q).Perm q := by
  induction q with
  | nil => exact List.Perm.refl _
  | cons e rest ih => exact (enqueue_perm e _).trans (List.Perm.cons e ih)

/-! ### Renumbering (R138) -/

/-- What passes a narrower test is shorter than what passes a wider one, where something passes the wider alone. -/
theorem filter_lt {α : Type} (p q : α → Bool) (l : List α) (hpq : ∀ x ∈ l, p x = true → q x = true) (b : α) (hb : b ∈ l)
    (hp : p b = false) (hq : q b = true) : (l.filter p).length < (l.filter q).length := by
  have hle : ∀ m : List α, (∀ x ∈ m, p x = true → q x = true) → (m.filter p).length ≤ (m.filter q).length := fun m h => by
    simpa [List.countP_eq_length_filter] using List.countP_mono_left h
  obtain ⟨u, v, rfl⟩ := List.append_of_mem hb
  have hu := hle u fun x hx => hpq x (by simp [hx])
  have hv := hle v fun x hx => hpq x (by simp [hx])
  simp only [List.filter_append, List.filter_cons, hp, hq, List.length_append]
  simp
  omega

/-- The place of each number of a list without repetitions, counted from 1 in rising order. -/
theorem place_perm (l : List Nat) (h : l.Nodup) :
    (l.map fun a => (l.filter fun b => decide (b ≤ a)).length).Perm (List.range' 1 l.length) := by
  have mono : ∀ a b, b ∈ l → a < b →
      (l.filter fun c => decide (c ≤ a)).length < (l.filter fun c => decide (c ≤ b)).length := fun a b hb hab =>
    filter_lt _ _ l (fun x _ hx => by simp only [decide_eq_true_eq] at hx ⊢; omega) b hb (by simpa using hab) (by simp)
  refine (List.subperm_of_subset ?_ ?_).perm_of_length_le (by simp)
  · refine List.Nodup.map_on ?_ h
    intro a ha b hb hab
    rcases Nat.lt_trichotomy a b with hl | hl | hl
    · have := mono a b hb hl
      omega
    · exact hl
    · have := mono b a ha hl
      omega
  · intro n hn
    obtain ⟨a, ha, rfl⟩ := List.mem_map.mp hn
    have hle := List.length_filter_le (fun b => decide (b ≤ a)) l
    have hpos : 0 < (l.filter fun b => decide (b ≤ a)).length := List.length_pos_of_mem (a := a) (by simp [ha])
    simp only [List.mem_range'_1]
    omega

/-- The held entries are renumbered by the place of their arrival numbers (R138). -/
theorem renumber_place (s : State) (h : (s.anu.entries.map Entry.arrival).Nodup) : ∃ place : Nat → Nat,
    (∀ a ∈ s.anu.entries, ∀ b ∈ s.anu.entries, a.arrival < b.arrival → place a.arrival < place b.arrival) ∧
    (s.anu.entries.map fun e => place e.arrival).Perm (List.range' 1 s.anu.entries.length) ∧
    renumber s = s.setAnu { s.anu with
      queue := s.anu.queue.map fun e => { e with arrival := place e.arrival }
      shown := s.anu.shown.map fun sh => { sh with entry := { sh.entry with arrival := place sh.entry.arrival } }
      arrivals := s.anu.entries.length } := by
  refine ⟨fun n => (s.anu.entries.filter fun f => decide (f.arrival ≤ n)).length, ?_, ?_, rfl⟩
  · intro a _ b hb hab
    exact filter_lt _ _ _ (fun x _ hx => by simp only [decide_eq_true_eq] at hx ⊢; omega) b hb (by simpa using hab) (by simp)
  · have := place_perm _ h
    simpa [List.map_map, List.filter_map, Function.comp_def] using this

/-- A rendering changes the content, the transfer and the owed mark alone. -/
@[simp] theorem renderLine_keeps (s : State) :
    (renderLine s).anu.queue = s.anu.queue ∧ (renderLine s).anu.shown = s.anu.shown ∧
    (renderLine s).anu.arrivals = s.anu.arrivals ∧ (renderLine s).anu.hostHold = s.anu.hostHold ∧
    (renderLine s).anu.proofHold = s.anu.proofHold ∧ (renderLine s).anu.refreshDue = s.anu.refreshDue ∧
    (renderLine s).anu.lastSent = s.anu.lastSent ∧ (renderLine s).anu.sounder = s.anu.sounder := by
  simp only [renderLine]
  (repeat' split) <;> simp

/-- A rendering puts on the line what it should show. -/
theorem renderLine_shows (s : State) : (renderLine s).anu.content = s.lineContent := by
  simp only [renderLine]
  (repeat' split) <;> simp

/-- What the line should show depends on the configuration, the quantities, the slots, the power state, the shown entry and
the proof hold alone. -/
theorem lineContent_congr (s t : State) (hc : t.cfg = s.cfg) (hq : t.qt = s.qt) (hd : t.dtu = s.dtu) (hp : t.psc = s.psc)
    (hs : t.anu.shown = s.anu.shown) (hh : t.anu.proofHold = s.anu.proofHold) : t.lineContent = s.lineContent := by
  have hf : ∀ p, t.fieldText p = s.fieldText p := by
    intro p
    simp only [State.fieldText, State.validValue, State.remaining, State.slot, State.entry, hc, hq, hd]
    cases p.field <;> rfl
  have hl : t.fill = s.fill := by
    funext chars p
    simp only [State.fill, hf]
  simp only [State.lineContent, State.onLine, State.page, State.rendered, hl, hc, hp, hs, hh]

/-- After a rendering the line content is what the line should show. -/
theorem renderLine_content (s : State) : (renderLine s).anu.content = (renderLine s).lineContent := by
  rw [lineContent_congr s (renderLine s) (by simp) (by simp) (by simp) (by simp) (by simp) (by simp), renderLine_shows]

/-- With a hold set, the line is not decided. -/
theorem decideLine_held (s : State) (h : s.anu.held = true) : decideLine s = s := by simp [decideLine, h]

/-- With nothing shown and nothing waiting, the line stays as it is. -/
theorem decideLine_empty (s : State) (h1 : s.anu.shown = none) (h2 : s.anu.queue = []) : decideLine s = s := by
  simp only [decideLine, h1, showHead, h2]
  split <;> rfl

/-- With no hold set and nothing shown, the head begins to be shown. -/
theorem decideLine_head (s : State) (e : Entry) (rest : List Entry) (h : s.anu.held = false) (h1 : s.anu.shown = none)
    (h2 : s.anu.queue = e :: rest) : decideLine s = beginShowing e (s.setQueue rest) := by
  simp [decideLine, h, h1, showHead, h2]

/-- An entry that begins to be shown is the shown entry, marked as shown before, and the line shows it. -/
theorem beginShowing_anu (e : Entry) (s : State) :
    (beginShowing e s).anu.queue = s.anu.queue ∧
    (beginShowing e s).anu.shown = some (s.beginTimers { e with shownBefore := true }) ∧
    (beginShowing e s).anu.arrivals = s.anu.arrivals ∧ (beginShowing e s).anu.hostHold = s.anu.hostHold ∧
    (beginShowing e s).anu.proofHold = s.anu.proofHold ∧
    (beginShowing e s).anu.content = (beginShowing e s).lineContent := by
  refine ⟨?_, ?_, ?_, ?_, ?_, renderLine_content _⟩ <;> simp [beginShowing, State.setShown]

end Sys2Proof.Machine
end

