-- ==== Sys2Proof/Laws/Reports.lean ====
section
/-! SUPPORT. What handing on reports does to the Link Port: the queue grows at its end alone, and the reply, the receiver and
the silence timer stay; and the record that a report handed on with route URGENT or POST leaves in the queue. -/
namespace Sys2Proof.Machine

/-- Between two states reports alone have been handed to the Link Port: no record has left the queue or moved in it, and
the reply, the receiver, LINK LOST and the silence timer are the same. -/
def LinkGrows (s t : State) : Prop :=
  s.lp.queue <+: t.lp.queue ∧ t.lp.reply = s.lp.reply ∧ t.lp.receiver = s.lp.receiver ∧ t.lp.byteDue = s.lp.byteDue ∧
  t.lp.lostSince = s.lp.lostSince ∧ t.lp.silenceDue = s.lp.silenceDue

theorem LinkGrows.of_lp {s t : State} (h : t.lp = s.lp) : LinkGrows s t := by simp [LinkGrows, h]

theorem LinkGrows.trans {a b c : State} (h : LinkGrows a b) (k : LinkGrows b c) : LinkGrows a c :=
  ⟨h.1.trans k.1, k.2.1.trans h.2.1, k.2.2.1.trans h.2.2.1, k.2.2.2.1.trans h.2.2.2.1,
    k.2.2.2.2.1.trans h.2.2.2.2.1, k.2.2.2.2.2.trans h.2.2.2.2.2⟩

theorem postRecord_link (r : Report) (s : State) : LinkGrows s (postRecord r s) := by
  simp only [LinkGrows, postRecord, judgeAttention]
  split <;> simp

theorem handWith_link (c : WarnClass) (o : Bool) (k : ReportKind) (a b : Nat) (s : State) :
    LinkGrows s (handWith c o k a b s) := by
  simp only [LinkGrows, handWith, postRecord, judgeAttention, holdRecord]
  (repeat' split) <;> simp_all

theorem hand_link (k : ReportKind) (a b : Nat) (s : State) : LinkGrows s (hand k a b s) := handWith_link _ _ k a b s

theorem releaseHeld_link (w : Fin 48) (s : State) : LinkGrows s (releaseHeld w s) := by
  simp only [releaseHeld]
  split
  · exact .of_lp rfl
  · simpa [LinkGrows] using postRecord_link _ (s.setLp { s.lp with
      held := s.lp.held.filter (fun h => decide (h.subject ≠ byte w.val)) })

theorem tellLink_link (e : Entry) (s : State) : LinkGrows s (tellLink e s) := by
  simp only [tellLink]
  (repeat' split) <;> first | exact .of_lp rfl | exact releaseHeld_link _ _

theorem tellOwner_lp (cause : EndCause) (e : Entry) (s : State) : (tellOwner cause e s).lp = s.lp := by
  simp only [tellOwner]
  (repeat' split) <;> simp [warningEntryEnded, State.setTrack]

theorem endEntry_link (cause : EndCause) (e : Entry) (s : State) : LinkGrows s (endEntry cause e s) :=
  (LinkGrows.of_lp (tellOwner_lp cause e s)).trans ((tellLink_link e _).trans (hand_link _ _ _ _))

theorem beginShowing_link (e : Entry) (s : State) : LinkGrows s (beginShowing e s) :=
  LinkGrows.trans (.of_lp (t := s.setShown (some (s.beginTimers e))) (by simp)) ((tellLink_link e _).trans
    ((show LinkGrows _ (handShown e _) from hand_link _ _ _ _).trans (.of_lp (by simp [beginShowing]))))

theorem showHead_link (s : State) : LinkGrows s (showHead s) := by
  simp only [showHead]
  split
  · exact .of_lp rfl
  · exact LinkGrows.trans (.of_lp (by simp)) (beginShowing_link _ _)

theorem displace_link (sh : Shown) (s : State) : LinkGrows s (displace sh s) := by
  have h : LinkGrows s (showHead (stopShown s)) := LinkGrows.trans (.of_lp (by simp)) (showHead_link _)
  simp only [displace]
  split
  · exact h.trans (.of_lp (by simp))
  · exact h.trans (endEntry_link _ _ _)

theorem decideLine_link (s : State) : LinkGrows s (decideLine s) := by
  simp only [decideLine]
  (repeat' split) <;> first | exact .of_lp rfl | exact showHead_link s | exact displace_link _ s

theorem decideAfterEnd_link (s : State) : LinkGrows s (decideAfterEnd s) :=
  (decideLine_link s).trans (.of_lp (by simp [decideAfterEnd]))

theorem joinQueue_link (o : Offer) (s : State) : LinkGrows s (joinQueue o s) :=
  LinkGrows.trans (.of_lp (by simp)) (decideLine_link _)

/-- An offer hands on reports alone (R139, R140). -/
theorem offer_link (o : Offer) (s : State) : LinkGrows s (offer o s) := by
  simp only [offer, updateShown, updateWaiting, offerOnFull]
  (repeat' split)
  · exact .of_lp (by simp)
  · exact .of_lp (by simp)
  · exact joinQueue_link o s
  · exact joinQueue_link o s
  · exact LinkGrows.trans (.of_lp (by simp)) ((endEntry_link .dropped _ (s.setQueue s.anu.queue.dropLast)).trans
      (joinQueue_link o _))
  · exact LinkGrows.trans (.of_lp (by simp)) (endEntry_link .dropped _ (gainArrival s))

/-- A withdrawal hands on reports alone (R141). -/
theorem withdraw_link (x : AnnSource) (s : State) : LinkGrows s (withdraw x s) := by
  simp only [withdraw]
  (repeat' split)
  · exact LinkGrows.trans (.of_lp (by simp)) (endEntry_link .withdrawn _ (s.setQueue _))
  · exact .of_lp rfl
  · exact LinkGrows.trans (.of_lp (by simp)) ((endEntry_link .withdrawn _ (stopShown s)).trans (decideAfterEnd_link _))
  · exact .of_lp rfl

/-- An acknowledgement hands on reports alone (R149). -/
theorem acknowledgeShown_link (s : State) : LinkGrows s (acknowledgeShown s) := by
  simp only [acknowledgeShown]
  split
  · exact .of_lp rfl
  · exact LinkGrows.trans (.of_lp (by simp)) ((endEntry_link .acknowledged _ (stopShown s)).trans (decideAfterEnd_link _))

theorem writeEntry_link (q : Fin 48) (e : Quantity) (s : State) : LinkGrows s (writeEntry q e s) := by
  simp only [writeEntry]
  split
  · exact LinkGrows.trans (.of_lp (t := s.setEntry q e) (by simp)) (acknowledgeShown_link _)
  · exact .of_lp (by simp)

theorem withdrawWarning_link (w : Fin 48) (s : State) : LinkGrows s (withdrawWarning w s) := by
  simp only [withdrawWarning]
  split
  · exact .of_lp rfl
  · exact LinkGrows.trans (.of_lp (t := s.setMark w .none) (by simp)) (withdraw_link _ _)

theorem offerWarning_link (w : Fin 48) (kind : AnnKind) (mark : AnnMark) (s : State) :
    LinkGrows s (offerWarning w kind mark s) := by
  simp only [offerWarning]
  split
  · exact .of_lp rfl
  · exact LinkGrows.trans (.of_lp (t := s.setMark w mark) (by simp)) (offer_link _ _)

theorem reofferWarning_link (w : Fin 48) (s : State) : LinkGrows s (reofferWarning w s) := by
  simp only [reofferWarning]
  split
  · exact offerWarning_link w _ _ s
  · exact .of_lp rfl

theorem reofferTrack_link (i : Fin 2) (k : Track) (s : State) : LinkGrows s (reofferTrack i k s) := by
  simp only [reofferTrack, offerTrack]
  (repeat' split)
  · exact .of_lp rfl
  · exact .of_lp rfl
  · exact LinkGrows.trans (.of_lp (by simp [State.setTrack])) (offer_link _ (s.setTrack i k _))
  · exact .of_lp rfl

theorem reofferSlot_link (i : Fin 2) (s : State) : LinkGrows s (reofferSlot i s) :=
  (reofferTrack_link i .continuous s).trans ((reofferTrack_link i .daily _).trans (reofferTrack_link i .weekly _))

theorem sampleLamp_link (openLoads : BitVec 32) (l : Fin 32) (s : State) : LinkGrows s (sampleLamp openLoads l s) := by
  simp only [sampleLamp]
  (repeat' split) <;>
    first | exact .of_lp (by simp) | exact LinkGrows.trans (.of_lp (by simp)) (hand_link _ _ _ (s.setLamp l _))

/-- The good frame takes no record out of the queue (step 1 of R175). -/
theorem goodFrame_queue (s : State) : s.lp.queue <+: (goodFrame s).lp.queue := by
  have h : ∀ u : State, u.lp.queue <+: (endLinkLost u).lp.queue := by
    intro u
    simp only [endLinkLost]
    split
    · exact List.prefix_rfl
    · exact hand_queue .linkRestored 0 _ (u.setLp { u.lp with lostSince := none })
  simpa [goodFrame] using h (s.setLp { s.lp with receiver := .hunting, byteDue := none })

/-- An operation made for every index hands on reports alone when each of its turns does. -/
theorem forEach_link {n : Nat} (f : Fin n → State → State) (hf : ∀ i t, LinkGrows t (f i t)) (s : State) :
    LinkGrows s (forEach f s) :=
  forEach_keeps (LinkGrows s) f (fun i t h => h.trans (hf i t)) s (.of_lp rfl)

/-- The gauges' part of the entry to PROVING hands on reports alone (R60). -/
theorem gaugesAtProving_link (s : State) : LinkGrows s (gaugesAtProving s) := by
  have hw : ∀ g t, LinkGrows t (watchCoil g t) := by
    intro g t
    simp only [watchCoil, enterFault]
    split
    · exact LinkGrows.trans (.of_lp (by simp)) (hand_link _ _ _ (t.setGauge g _))
    · exact .of_lp rfl
  have hp : ∀ g t, LinkGrows t (proofOrder g t) := by
    intro g t
    simp only [proofOrder, enterHoming, enterSweeping, enterTracking]
    (repeat' split) <;>
      first | exact .of_lp (by simp) | exact LinkGrows.trans (.of_lp (by simp)) (hw g (t.setGauge g _))
  exact LinkGrows.trans (.of_lp (t := startUpdates s) (by simp))
    ((forEach_link watchCoil hw _).trans (forEach_link proofOrder hp _))

/-- The warnings' part of the entry to PROVING hands on reports alone (R97). -/
theorem warningsAtProving_link (s : State) : LinkGrows s (warningsAtProving s) :=
  LinkGrows.trans (.of_lp (by simp)) (forEach_link reofferWarning reofferWarning_link _)

/-! ### The record of a report -/

/-- A report handed on leaves its record, given what stood in the queue before it and what may join it after. -/
theorem handWith_reported (c : WarnClass) (o : Bool) (k : ReportKind) (a b : Nat) (s u t : State)
    (hs : s.lp.queue <+: u.lp.queue) (hcfg : u.cfg.routes = s.cfg.routes) (hclock : t.dtu.clock = u.dtu.clock)
    (ht : (handWith c o k a b u).lp.queue <+: t.lp.queue) : Reported k c a b s t := by
  intro urgent hroute hroom
  have hlen : u.lp.queue.length < 32 :=
    Nat.lt_of_le_of_lt ((handWith_link c o k a b u).1.trans ht).length_le hroom
  obtain ⟨after, hafter⟩ := ht
  refine ⟨u.lp.queue, after, hs, ?_⟩
  rw [← hafter, hclock]
  cases urgent <;>
    simp_all [handWith, postRecord, judgeAttention, State.stamp, byte]

/-- A report of any kind but WARNING RAISED leaves its record. -/
theorem hand_reported (k : ReportKind) (a b : Nat) (s u t : State) (hs : s.lp.queue <+: u.lp.queue)
    (hcfg : u.cfg.routes = s.cfg.routes) (hclock : t.dtu.clock = u.dtu.clock)
    (ht : (hand k a b u).lp.queue <+: t.lp.queue) : Reported k .stop a b s t :=
  handWith_reported .stop false k a b s u t hs hcfg hclock ht

/-- A record left between two states is left between an earlier and a later one, where records alone have joined. -/
theorem Reported.widen {k : ReportKind} {c : WarnClass} {a b : Nat} {s u v t : State} (h : Reported k c a b u v)
    (hs : s.lp.queue <+: u.lp.queue) (hroutes : u.cfg.routes = s.cfg.routes) (hclock : t.dtu.clock = v.dtu.clock)
    (ht : v.lp.queue <+: t.lp.queue) : Reported k c a b s t := by
  intro urgent hroute hroom
  obtain ⟨before, after, hbefore, hqueue⟩ := h urgent (by rw [hroutes]; exact hroute) (Nat.lt_of_le_of_lt ht.length_le hroom)
  obtain ⟨more, hmore⟩ := ht
  exact ⟨before, after ++ more, hs.trans hbefore, by rw [← hmore, hqueue, hclock]; simp⟩

/-- A record that stands in the queue after step 1 of R175 has been left since before it. -/
theorem Reported.ofGoodFrame {k : ReportKind} {c : WarnClass} {a b : Nat} {s t : State}
    (h : Reported k c a b (goodFrame s) t) : Reported k c a b s t := by
  intro urgent hroute hroom
  obtain ⟨before, after, hbefore, hqueue⟩ := h urgent (by simpa using hroute) hroom
  exact ⟨before, after, (goodFrame_queue s).trans hbefore, hqueue⟩

/-- The reply to a request leaves the records where they are. -/
theorem Reported.beginReply {k : ReportKind} {c : WarnClass} {a b : Nat} {s t : State} (h : Reported k c a b s t)
    (tag kind : Byte) (status : Status) (body : List Byte) : Reported k c a b s (beginReply tag kind status body t) := by
  intro urgent hroute hroom
  obtain ⟨before, after, hbefore, hqueue⟩ := h urgent hroute (by simpa using hroom)
  exact ⟨before, after, hbefore, by simpa using hqueue⟩

end Sys2Proof.Machine
end

