-- ==== Sys2Proof/Laws/Announcements.lean ====
section
/-! SUPPORT. What offers, withdrawals, acknowledgements and the decision of the line leave of the Duty Time Unit: all of it
but the announcement marks, and at an acknowledgement the acknowledged mark of the track that was shown. -/
namespace Sys2Proof.Machine

/-- Two states have the same duty unit but for the announcement marks of the tracks and, unless `acks` holds, their
acknowledged marks. -/
def SameDuty (acks : Prop) (s t : State) : Prop :=
  t.dtu.clock = s.dtu.clock ∧ t.dtu.minuteDue = s.dtu.minuteDue ∧ t.dtu.mismatchCount = s.dtu.mismatchCount ∧
  t.dtu.mismatch = s.dtu.mismatch ∧ (∀ i, t.slot i = { s.slot i with tracks := (t.slot i).tracks }) ∧
  ∀ i k, (t.track i k).stage = (s.track i k).stage ∧ (acks → (t.track i k).acknowledged = (s.track i k).acknowledged)

theorem SameDuty.of_dtu (acks : Prop) (s t : State) (h : t.dtu = s.dtu) : SameDuty acks s t := by
  simp [SameDuty, h, State.slot_of s t h, State.track]

theorem SameDuty.trans {acks : Prop} {a b c : State} (h : SameDuty acks a b) (k : SameDuty acks b c) :
    SameDuty acks a c := by
  obtain ⟨h1, h2, h3, h4, h5, h6⟩ := h
  obtain ⟨k1, k2, k3, k4, k5, k6⟩ := k
  refine ⟨k1.trans h1, k2.trans h2, k3.trans h3, k4.trans h4, fun i => ?_, fun i k =>
    ⟨(k6 i k).1.trans (h6 i k).1, fun ha => ((k6 i k).2 ha).trans ((h6 i k).2 ha)⟩⟩
  rw [k5 i, h5 i]

@[simp] theorem Tracks.get_set (t : Tracks) (k j : Track) (r : TrackRecord) :
    (t.set k r).get j = if j = k then r else t.get j := by
  cases k <;> cases j <;> rfl

@[simp] theorem State.setTrack_track (s : State) (i j : Fin 2) (k l : Track) (r : TrackRecord) :
    (s.setTrack i k r).track j l = if j = i ∧ l = k then r else s.track j l := by
  simp only [State.setTrack, State.track, State.setSlot_slot]
  by_cases h : j = i
  · subst h; simp
  · simp [h]

/-- A change of a track's marks alone. -/
theorem SameDuty.setTrack (acks : Prop) (s : State) (i : Fin 2) (k : Track) (ack offered : Bool)
    (h : acks → ack = (s.track i k).acknowledged) :
    SameDuty acks s (s.setTrack i k ⟨(s.track i k).stage, ack, offered⟩) := by
  refine ⟨rfl, rfl, rfl, rfl, fun j => ?_, fun j l => ?_⟩
  · simp only [State.setTrack, State.setSlot_slot]
    split <;> simp_all
  · rw [State.setTrack_track]
    split
    · next hj => exact ⟨by rw [hj.1, hj.2], fun ha => by rw [hj.1, hj.2, h ha]⟩
    · exact ⟨rfl, fun _ => rfl⟩

theorem tellOwner_duty (cause : EndCause) (e : Entry) (s : State) :
    SameDuty (cause ≠ .acknowledged) s (tellOwner cause e s) := by
  simp only [tellOwner]
  split
  · exact .of_dtu _ _ _ rfl
  · exact .of_dtu _ _ _ rfl
  · exact .of_dtu _ _ _ (by simp [warningEntryEnded])
  · exact .of_dtu _ _ _ (by simp [warningEntryEnded])
  · exact .setTrack _ _ _ _ _ _ (fun h => absurd rfl h)
  · exact .setTrack _ _ _ _ _ _ (fun _ => rfl)

theorem endEntry_duty (cause : EndCause) (e : Entry) (s : State) :
    SameDuty (cause ≠ .acknowledged) s (endEntry cause e s) :=
  (tellOwner_duty cause e s).trans (.of_dtu _ _ _ (by simp [endEntry]))

theorem displace_duty (acks : Prop) (sh : Shown) (s : State) : SameDuty acks s (displace sh s) := by
  have h : SameDuty acks s (showHead (stopShown s)) := .of_dtu _ _ _ (by simp)
  simp only [displace]
  split
  · exact h.trans (.of_dtu _ _ _ (by simp))
  · obtain ⟨h1, h2, h3, h4, h5, h6⟩ := endEntry_duty .displaced sh.entry (showHead (stopShown s))
    exact h.trans ⟨h1, h2, h3, h4, h5, fun i k => ⟨(h6 i k).1, fun _ => (h6 i k).2 (by simp)⟩⟩

theorem decideLine_duty (acks : Prop) (s : State) : SameDuty acks s (decideLine s) := by
  simp only [decideLine]
  (repeat' split)
  · exact .of_dtu _ _ _ rfl
  · exact .of_dtu _ _ _ (by simp)
  · exact displace_duty acks _ s
  · exact .of_dtu _ _ _ rfl

theorem decideAfterEnd_duty (acks : Prop) (s : State) : SameDuty acks s (decideAfterEnd s) :=
  (decideLine_duty acks s).trans (.of_dtu _ _ _ (by simp [decideAfterEnd]))

theorem joinQueue_duty (acks : Prop) (o : Offer) (s : State) : SameDuty acks s (joinQueue o s) :=
  SameDuty.trans (.of_dtu _ s ((gainArrival s).setQueue
    (enqueue ((gainArrival s).newEntry o) (gainArrival s).anu.queue)) (by simp)) (decideLine_duty acks _)

/-- What ends an entry without an acknowledgement keeps the acknowledged marks. -/
theorem SameDuty.any {cause : EndCause} (acks : Prop) {s t : State} (h : SameDuty (cause ≠ .acknowledged) s t)
    (hc : cause ≠ .acknowledged) : SameDuty acks s t :=
  ⟨h.1, h.2.1, h.2.2.1, h.2.2.2.1, h.2.2.2.2.1, fun i k => ⟨(h.2.2.2.2.2 i k).1, fun _ => (h.2.2.2.2.2 i k).2 hc⟩⟩

/-- An offer leaves the duty unit as it is but for announcement marks (R139, R140). -/
theorem offer_duty (acks : Prop) (o : Offer) (s : State) : SameDuty acks s (offer o s) := by
  simp only [offer, updateShown, updateWaiting, offerOnFull]
  (repeat' split)
  · exact .of_dtu _ _ _ (by simp)
  · exact .of_dtu _ _ _ (by simp)
  · exact joinQueue_duty acks o s
  · exact joinQueue_duty acks o s
  · next low _ _ =>
    have h := (endEntry_duty .dropped low (s.setQueue s.anu.queue.dropLast)).any acks (by simp)
    exact (SameDuty.of_dtu _ _ _ (by simp)).trans (h.trans (joinQueue_duty acks o _))
  · have h := (endEntry_duty .dropped ((gainArrival s).newEntry o) (gainArrival s)).any acks (by simp)
    exact (SameDuty.of_dtu _ _ _ (by simp)).trans h

/-- A withdrawal leaves the duty unit as it is but for announcement marks (R141). -/
theorem withdraw_duty (acks : Prop) (x : AnnSource) (s : State) : SameDuty acks s (withdraw x s) := by
  simp only [withdraw]
  (repeat' split)
  · next e _ =>
    have h := (endEntry_duty .withdrawn e (s.setQueue (s.anu.queue.filter fun f => decide (f.source ≠ x)))).any acks (by simp)
    exact (SameDuty.of_dtu _ _ _ (by simp)).trans h
  · exact .of_dtu _ _ _ rfl
  · next sh _ _ =>
    have h := (endEntry_duty .withdrawn sh.entry (stopShown s)).any acks (by simp)
    exact (SameDuty.of_dtu _ _ _ (by simp)).trans (h.trans (decideAfterEnd_duty acks _))
  · exact .of_dtu _ _ _ rfl

/-- An acknowledgement leaves the duty unit as it is but for the marks of the tracks (R149). -/
theorem acknowledgeShown_duty (s : State) : SameDuty False s (acknowledgeShown s) := by
  simp only [acknowledgeShown]
  split
  · exact .of_dtu _ _ _ rfl
  · next sh _ =>
    obtain ⟨h1, h2, h3, h4, h5, h6⟩ := endEntry_duty .acknowledged sh.entry (stopShown s)
    have h : SameDuty False (stopShown s) (endEntry .acknowledged sh.entry (stopShown s)) :=
      ⟨h1, h2, h3, h4, h5, fun i k => ⟨(h6 i k).1, False.elim⟩⟩
    exact (SameDuty.of_dtu _ _ _ (by simp)).trans (h.trans (decideAfterEnd_duty False _))

/-- A write leaves the duty unit as it is but for the marks of the tracks (R1, R149). -/
theorem writeEntry_duty (q : Fin 48) (e : Quantity) (s : State) : SameDuty False s (writeEntry q e s) := by
  simp only [writeEntry]
  split
  · exact (SameDuty.of_dtu _ s (s.setEntry q e) (by simp)).trans (acknowledgeShown_duty _)
  · exact .of_dtu _ _ _ (by simp)

theorem withdrawWarning_duty (acks : Prop) (w : Fin 48) (s : State) : SameDuty acks s (withdrawWarning w s) := by
  simp only [withdrawWarning]
  split
  · exact .of_dtu _ _ _ rfl
  · exact (SameDuty.of_dtu _ s (s.setMark w .none) (by simp)).trans (withdraw_duty acks _ _)

theorem offerWarning_duty (acks : Prop) (w : Fin 48) (kind : AnnKind) (mark : AnnMark) (s : State) :
    SameDuty acks s (offerWarning w kind mark s) := by
  simp only [offerWarning]
  split
  · exact .of_dtu _ _ _ rfl
  · exact (SameDuty.of_dtu _ s (s.setMark w mark) (by simp)).trans (offer_duty acks _ _)

theorem reofferWarning_duty (acks : Prop) (w : Fin 48) (s : State) : SameDuty acks s (reofferWarning w s) := by
  simp only [reofferWarning]
  split
  · exact offerWarning_duty acks w _ _ s
  · exact .of_dtu _ _ _ rfl

theorem reofferTrack_duty (acks : Prop) (i : Fin 2) (k : Track) (s : State) : SameDuty acks s (reofferTrack i k s) := by
  simp only [reofferTrack, offerTrack]
  (repeat' split)
  · exact .of_dtu _ _ _ rfl
  · exact .of_dtu _ _ _ rfl
  · exact (SameDuty.setTrack acks s i k _ true (fun _ => rfl)).trans (offer_duty acks _ _)
  · exact .of_dtu _ _ _ rfl

theorem reofferSlot_duty (acks : Prop) (i : Fin 2) (s : State) : SameDuty acks s (reofferSlot i s) :=
  (reofferTrack_duty acks i .continuous s).trans
    ((reofferTrack_duty acks i .daily _).trans (reofferTrack_duty acks i .weekly _))

theorem forEach_duty {n : Nat} (acks : Prop) (f : Fin n → State → State) (hf : ∀ i t, SameDuty acks t (f i t)) (s : State) :
    SameDuty acks s (forEach f s) :=
  forEach_keeps (fun t => SameDuty acks s t) f (fun i t h => h.trans (hf i t)) s (.of_dtu _ _ _ rfl)

end Sys2Proof.Machine
end

