-- ==== Sys2Proof/Laws/Accounting.lean ====
section
/-! SUPPORT. The accounting of a slot: that it hands on reports alone, what it leaves of the other slot, and what its own slot
and limit set become. -/
namespace Sys2Proof.Machine

/-- Two states have the same duty clock and the same slots but for the records of the tracks. -/
def SameSlots (s t : State) : Prop :=
  t.dtu.clock = s.dtu.clock ∧ ∀ i, t.slot i = { s.slot i with tracks := (t.slot i).tracks }

theorem SameSlots.of_dtu {s t : State} (h : t.dtu = s.dtu) : SameSlots s t := by
  simp [SameSlots, h, State.slot_of s t h]

theorem SameDuty.slots {acks : Prop} {s t : State} (h : SameDuty acks s t) : SameSlots s t := ⟨h.1, h.2.2.2.2.1⟩

theorem SameSlots.trans {a b c : State} (h : SameSlots a b) (k : SameSlots b c) : SameSlots a c :=
  ⟨k.1.trans h.1, fun i => by rw [k.2 i, h.2 i]⟩

theorem setTrack_slots (s : State) (i : Fin 2) (k : Track) (r : TrackRecord) : SameSlots s (s.setTrack i k r) := by
  refine ⟨rfl, fun j => ?_⟩
  simp only [State.setTrack, State.setSlot_slot]
  split <;> simp_all

theorem State.limits_of {s t : State} (h : t.cfg = s.cfg) (i : Fin 2) : t.limits i = s.limits i := by
  simp [State.limits, h]

/-! ### Steps 1 to 4 -/

/-- In a minute that the rest run counts nothing is driven. -/
theorem minute_rest (l : LimitSet) (x : Slot) (h : 1 ≤ (x.minute l).restRun) : (x.minute l).daily = x.daily := by
  have : ∀ z : Slot, (z.earn l).restRun = z.restRun ∧ (z.earn l).daily = z.daily := by
    intro z; simp only [Slot.earn, Slot.completeBreak]; (repeat' split) <;> simp
  simp only [Slot.minute, this] at h ⊢
  simp only [Slot.advance] at h ⊢
  split <;> simp_all [Slot.breakRuns, Slot.total, Slot.adopt]

/-- Steps 1 to 4 neither read nor change the records of the tracks. -/
theorem minute_tracks (l : LimitSet) (x : Slot) (k : Tracks) :
    ({ x with tracks := k } : Slot).minute l = { x.minute l with tracks := k } := by
  have h1 : ∀ z : Slot, ({ z with tracks := k } : Slot).earn l = { z.earn l with tracks := k } := by
    intro z
    simp only [Slot.earn, Slot.completeBreak]
    (repeat' split) <;> rfl
  have h2 : ∀ z : Slot, ({ z with tracks := k } : Slot).advance = { z.advance with tracks := k } := by
    intro z
    obtain ⟨_, a, _⟩ := z
    cases a <;> rfl
  simp only [Slot.minute]
  rw [← h1, ← h2]; rfl

/-! ### Steps 7 to 9 -/

theorem withdrawTrack_slots (i : Fin 2) (k : Track) (s : State) : SameSlots s (withdrawTrack i k s) := by
  simp only [withdrawTrack]
  split
  · exact (setTrack_slots s i k _).trans (withdraw_duty True _ _).slots
  · exact .of_dtu rfl

theorem withdrawTrack_link (i : Fin 2) (k : Track) (s : State) : LinkGrows s (withdrawTrack i k s) := by
  simp only [withdrawTrack]
  split
  · exact LinkGrows.trans (.of_lp (by simp [State.setTrack])) (withdraw_link _ (s.setTrack i k _))
  · exact .of_lp rfl

theorem offerTrack_slots (i : Fin 2) (k : Track) (s : State) : SameSlots s (offerTrack i k s) := by
  simp only [offerTrack]
  (repeat' split)
  · exact .of_dtu rfl
  · exact .of_dtu rfl
  · exact (setTrack_slots s i k _).trans (offer_duty True _ _).slots

theorem offerTrack_link (i : Fin 2) (k : Track) (s : State) : LinkGrows s (offerTrack i k s) := by
  simp only [offerTrack]
  (repeat' split)
  · exact .of_lp rfl
  · exact .of_lp rfl
  · exact LinkGrows.trans (.of_lp (by simp [State.setTrack])) (offer_link _ (s.setTrack i k _))

theorem handStage_link (i : Fin 2) (k : Track) (old new : Stage) (s : State) : LinkGrows s (handStage i k old new s) :=
  hand_link _ _ _ s

theorem handStage_slots (i : Fin 2) (k : Track) (old new : Stage) (s : State) : SameSlots s (handStage i k old new s) :=
  .of_dtu (by simp)

/-- A recomputation of a track changes that track's record, and marks (R125 to R127). -/
theorem recomputeTrack_slots (i : Fin 2) (k : Track) (s : State) : SameSlots s (recomputeTrack i k s) := by
  simp only [recomputeTrack, riseTrack, fallTrack, State.setStage]
  (repeat' split)
  · exact .of_dtu rfl
  · exact (withdrawTrack_slots i k s).trans ((setTrack_slots _ i k _).trans ((offerTrack_slots i k _).trans
      (handStage_slots i k _ _ _)))
  · exact (withdrawTrack_slots i k s).trans ((setTrack_slots _ i k _).trans (handStage_slots i k _ _ _))

theorem recomputeTrack_link (i : Fin 2) (k : Track) (s : State) : LinkGrows s (recomputeTrack i k s) := by
  simp only [recomputeTrack, riseTrack, fallTrack]
  (repeat' split)
  · exact .of_lp rfl
  · exact (withdrawTrack_link i k s).trans (LinkGrows.trans (.of_lp (by simp)) ((offerTrack_link i k _).trans
      (handStage_link i k _ _ _)))
  · exact (withdrawTrack_link i k s).trans (LinkGrows.trans (.of_lp (by simp)) (handStage_link i k _ _
      ((withdrawTrack i k s).setStage i k _ _)))

theorem recomputeStages_slots (i : Fin 2) (s : State) : SameSlots s (recomputeStages i s) :=
  (recomputeTrack_slots i _ s).trans ((recomputeTrack_slots i _ _).trans (recomputeTrack_slots i _ _))

theorem recomputeStages_link (i : Fin 2) (s : State) : LinkGrows s (recomputeStages i s) :=
  (recomputeTrack_link i _ s).trans ((recomputeTrack_link i _ _).trans (recomputeTrack_link i _ _))

/-- The mismatch check changes the mismatch count and DUTY MISMATCH alone of the duty unit (R130). -/
theorem mismatchCheck_slots (s : State) : SameSlots s (mismatchCheck s) := by
  simp only [mismatchCheck]
  (repeat' split) <;> simp [SameSlots, State.slot]

theorem mismatchCheck_link (s : State) : LinkGrows s (mismatchCheck s) := by
  simp only [mismatchCheck]
  (repeat' split)
  · exact LinkGrows.trans (.of_lp (by simp)) (hand_link _ _ _ _)
  · exact .of_lp (by simp)
  · exact .of_lp (by simp)

theorem writeDerived_slots (i : Fin 2) (s : State) : SameSlots s (writeDerived i s) :=
  (writeEntry_duty _ _ s).slots.trans (writeEntry_duty _ _ _).slots

theorem writeDerived_link (i : Fin 2) (s : State) : LinkGrows s (writeDerived i s) :=
  (writeEntry_link _ _ s).trans (writeEntry_link _ _ _)

/-! ### Steps 5 and 6 -/

theorem loadStaged_link (i : Fin 2) (s : State) : LinkGrows s (loadStaged i s) := by
  simp only [loadStaged]
  split
  · exact .of_lp rfl
  · exact LinkGrows.trans (.of_lp (by simp)) (hand_link _ _ _ _)

theorem dayStart_link (i : Fin 2) (s : State) : LinkGrows s (dayStart i s) := by
  simp only [dayStart]
  split
  · exact LinkGrows.trans (.of_lp (by simp)) ((hand_link .dutyDayStart _ _ (s.setSlot i _)).trans (loadStaged_link i _))
  · exact .of_lp rfl

theorem weekStart_link (i : Fin 2) (s : State) : LinkGrows s (weekStart i s) := by
  simp only [weekStart]
  split
  · exact LinkGrows.trans (.of_lp (by simp)) (hand_link .dutyWeekStart _ _ (s.setSlot i _))
  · exact .of_lp rfl

/-- A staged set loaded: the slot's active set, and nothing else of the slots (R123). -/
theorem loadStaged_slots (i : Fin 2) (s : State) :
    (loadStaged i s).dtu.clock = s.dtu.clock ∧
    (∀ j, (loadStaged i s).slot j = if j = i then { s.slot i with staged := none } else s.slot j) ∧
    (∀ j, (loadStaged i s).limits j = if j = i then (s.slot i).staged.getD (s.limits i) else s.limits j) := by
  simp only [loadStaged]
  split
  · next h =>
    refine ⟨rfl, fun j => ?_, fun j => ?_⟩ <;> split <;> simp_all [State.limits]
    rw [← h]
  · next l h =>
    refine ⟨by simp, fun j => ?_, fun j => ?_⟩
    · simp
    · by_cases hj : j = i
      · subst hj
        simp [State.limits, h]
      · simp [State.limits, hj, Table.get_set_ne]

/-- What step 5 makes of the slots and the limit sets (R123). -/
theorem dayStart_slots (i : Fin 2) (s : State) :
    (dayStart i s).dtu.clock = s.dtu.clock ∧
    (∀ j, j ≠ i → (dayStart i s).slot j = s.slot j ∧ (dayStart i s).limits j = s.limits j) ∧
    ((s.slot i).restRun < (s.limits i).dailyRest ∨ (s.slot i).dayClosed = true → dayStart i s = s) ∧
    ((s.limits i).dailyRest ≤ (s.slot i).restRun → (s.slot i).dayClosed = false →
      (dayStart i s).limits i = (s.slot i).staged.getD (s.limits i) ∧
      (dayStart i s).slot i = { s.slot i with
        daily := 0, continuous := 0, credit := 0, totals := ⟨0, 0, 0, 0, 0⟩, dayBase := 0, dayStart := s.dtu.clock
        dayClosed := true, staged := none }) := by
  simp only [dayStart]
  by_cases h : (s.limits i).dailyRest ≤ (s.slot i).restRun ∧ (s.slot i).dayClosed = false
  · obtain ⟨hl, hc⟩ := h
    simp only [hl, hc, and_self, if_true]
    obtain ⟨h1, h2, h3⟩ := loadStaged_slots i (hand .dutyDayStart (slotNumber i) (s.slot i).daily
      (s.setSlot i { s.slot i with
        daily := 0, continuous := 0, credit := 0, totals := ⟨0, 0, 0, 0, 0⟩, dayBase := 0
        dayStart := s.dtu.clock, dayClosed := true }))
    refine ⟨by rw [h1]; simp, fun j hj => ⟨by rw [h2 j]; simp [hj], by rw [h3 j]; simp [hj, State.limits]⟩, ?_, ?_⟩
    · rintro (h | h)
      · exact absurd hl (by omega)
      · simp at h
    · exact fun _ _ => ⟨by rw [h3 i]; simp [State.limits], by rw [h2 i]; simp⟩
  · rw [if_neg h]
    refine ⟨rfl, fun _ _ => ⟨rfl, rfl⟩, fun _ => rfl, fun hl hc => absurd ⟨hl, hc⟩ h⟩

theorem weekStart_limits (i j : Fin 2) (s : State) : (weekStart i s).limits j = s.limits j :=
  State.limits_of (by simp) j

/-- What step 6 makes of the slots (R124). -/
theorem weekStart_slots (i : Fin 2) (s : State) :
    (weekStart i s).dtu.clock = s.dtu.clock ∧ (∀ j, j ≠ i → (weekStart i s).slot j = s.slot j) ∧
    (weekStart i s).slot i =
      if (s.limits i).weeklyRest ≤ (s.slot i).restRun ∧ (s.slot i).weekClosed = false then
        { s.slot i with weekly := 0, weekClosed := true }
      else s.slot i := by
  simp only [weekStart]
  split
  · refine ⟨by simp, fun j hj => by simp [hj], by simp⟩
  · exact ⟨rfl, fun _ _ => rfl, rfl⟩

/-- The report of a staged set that is loaded (R123). -/
theorem loadStaged_reports (i : Fin 2) (s : State) (h : (s.slot i).staged ≠ none) :
    Reported .dutyLimitsLoaded .stop (i.val + 1) 0 s (loadStaged i s) := by
  simp only [loadStaged]
  split
  · contradiction
  · refine hand_reported _ _ _ s _ _ ?_ ?_ ?_ List.prefix_rfl <;> simp

/-- The reports of step 5 (R123). -/
theorem dayStart_reports (i : Fin 2) (s : State) (hl : (s.limits i).dailyRest ≤ (s.slot i).restRun)
    (hc : (s.slot i).dayClosed = false) :
    Reported .dutyDayStart .stop (i.val + 1) (s.slot i).daily s (dayStart i s) ∧
    ((s.slot i).staged ≠ none → Reported .dutyLimitsLoaded .stop (i.val + 1) 0 s (dayStart i s)) := by
  simp only [dayStart, hl, hc, and_self, if_true, slotNumber]
  constructor
  · refine hand_reported _ _ _ s (s.setSlot i _) _ (by simp) (by simp) ?_ (loadStaged_link i _).1
    exact (loadStaged_slots i _).1.trans (by simp)
  · intro hs
    refine Reported.widen (s := s) (loadStaged_reports i _ (by simpa using hs)) ?_ (by simp) rfl List.prefix_rfl
    simpa using (hand_link .dutyDayStart (i.val + 1) (s.slot i).daily (s.setSlot i _)).1

/-- The report of step 6 (R124). -/
theorem weekStart_reports (i : Fin 2) (s : State) (hl : (s.limits i).weeklyRest ≤ (s.slot i).restRun)
    (hc : (s.slot i).weekClosed = false) :
    Reported .dutyWeekStart .stop (i.val + 1) (s.slot i).weekly s (weekStart i s) := by
  simp only [weekStart, hl, hc, and_self, if_true, slotNumber]
  exact hand_reported _ _ _ s (s.setSlot i _) _ (by simp) (by simp) (by simp) List.prefix_rfl

/-! ### One slot -/

/-- Steps 7 to 9 leave the slots but for the records of the tracks, hand on reports alone, and keep the configuration. -/
theorem accountEnd_keeps (i : Fin 2) (s : State) :
    let t := writeDerived i (if i = 0 then mismatchCheck (recomputeStages i s) else recomputeStages i s)
    SameSlots s t ∧ LinkGrows s t ∧ t.cfg = s.cfg := by
  refine ⟨?_, ?_, ?_⟩
  · refine (recomputeStages_slots i s).trans (SameSlots.trans ?_ (writeDerived_slots i _))
    split
    · exact mismatchCheck_slots _
    · exact .of_dtu rfl
  · refine (recomputeStages_link i s).trans (LinkGrows.trans ?_ (writeDerived_link i _))
    split
    · exact mismatchCheck_link _
    · exact .of_lp rfl
  · split <;> simp

/-- The accounting of a slot hands on reports alone. -/
theorem account_link (i : Fin 2) (s : State) : LinkGrows s (account i s) := by
  simp only [account]
  split
  · exact LinkGrows.trans (.of_lp (by simp)) ((dayStart_link i (s.setSlot i _)).trans
      ((weekStart_link i _).trans (accountEnd_keeps i _).2.1))
  · exact .of_lp rfl

/-- The accounting of a slot leaves the other slot, but for the marks of its tracks, and its limit set. -/
theorem account_other (i j : Fin 2) (s : State) (h : j ≠ i) :
    (account i s).dtu.clock = s.dtu.clock ∧ (account i s).slot j = { s.slot j with tracks := ((account i s).slot j).tracks } ∧
    (account i s).limits j = s.limits j := by
  simp only [account]
  split
  · obtain ⟨e1, -, e3⟩ := accountEnd_keeps i (weekStart i (dayStart i (s.setSlot i ((s.slot i).minute (s.limits i)))))
    obtain ⟨d1, d2, -, -⟩ := dayStart_slots i (s.setSlot i ((s.slot i).minute (s.limits i)))
    obtain ⟨w1, w2, -⟩ := weekStart_slots i (dayStart i (s.setSlot i ((s.slot i).minute (s.limits i))))
    refine ⟨e1.1.trans (w1.trans d1), ?_, ?_⟩
    · rw [e1.2 j, w2 j h, (d2 j h).1]
      simp [h]
    · rw [State.limits_of e3 j, weekStart_limits, (d2 j h).2]
      simp [State.limits]
  · exact ⟨rfl, rfl, rfl⟩

/-- What the accounting of a PRESENT slot makes of it and of its limit set (R109, R120 to R124), where step 5 has made `y`
and `l` of them. -/
theorem account_own (i : Fin 2) (s : State) (x y : Slot) (l : LimitSet) (hc : (s.slot i).card.isSome = true)
    (hx : x = (s.slot i).minute (s.limits i))
    (hkept : x.restRun < (s.limits i).dailyRest ∨ x.dayClosed = true → y = x ∧ l = s.limits i)
    (hmade : (s.limits i).dailyRest ≤ x.restRun → x.dayClosed = false → l = x.staged.getD (s.limits i) ∧
      y = { x with
        daily := 0, continuous := 0, credit := 0, totals := ⟨0, 0, 0, 0, 0⟩, dayBase := 0, dayStart := s.dtu.clock
        dayClosed := true, staged := none }) :
    (account i s).dtu.clock = s.dtu.clock ∧ (account i s).limits i = l ∧
    (account i s).slot i =
      { (if l.weeklyRest ≤ x.restRun ∧ x.weekClosed = false then { y with weekly := 0, weekClosed := true } else y) with
        tracks := ((account i s).slot i).tracks } := by
  simp only [account, hc, if_true]
  rw [← hx]
  obtain ⟨e1, -, e3⟩ := accountEnd_keeps i (weekStart i (dayStart i (s.setSlot i x)))
  obtain ⟨d1, -, d3, d4⟩ := dayStart_slots i (s.setSlot i x)
  obtain ⟨w1, -, w3⟩ := weekStart_slots i (dayStart i (s.setSlot i x))
  have hlim : (s.setSlot i x).limits i = s.limits i := by simp [State.limits]
  rw [hlim] at d3 d4
  simp only [State.setSlot_slot, if_true, State.setSlot_clock] at d1 d3 d4
  have hd : (dayStart i (s.setSlot i x)).slot i = y ∧ (dayStart i (s.setSlot i x)).limits i = l := by
    by_cases h : (s.limits i).dailyRest ≤ x.restRun ∧ x.dayClosed = false
    · obtain ⟨hl, hy⟩ := hmade h.1 h.2
      obtain ⟨a, b⟩ := d4 h.1 h.2
      exact ⟨b.trans hy.symm, a.trans hl.symm⟩
    · have h' : x.restRun < (s.limits i).dailyRest ∨ x.dayClosed = true := by
        cases hb : x.dayClosed <;> simp_all
      obtain ⟨hy, hl⟩ := hkept h'
      rw [d3 h']
      exact ⟨by simp [hy], by rw [hlim, hl]⟩
  have hrun : y.restRun = x.restRun ∧ y.weekClosed = x.weekClosed := by
    by_cases h : (s.limits i).dailyRest ≤ x.restRun ∧ x.dayClosed = false
    · rw [(hmade h.1 h.2).2]
      exact ⟨rfl, rfl⟩
    · rw [(hkept (by cases hb : x.dayClosed <;> simp_all)).1]
      exact ⟨rfl, rfl⟩
  rw [hd.1, hd.2, hrun.1, hrun.2] at w3
  refine ⟨e1.1.trans (w1.trans d1), ?_, ?_⟩
  · rw [State.limits_of e3 i, weekStart_limits, hd.2]
  · rw [e1.2 i, w3]

/-- The reports of the accounting of a PRESENT slot (R123, R124). -/
theorem account_reports (i : Fin 2) (s : State) (x : Slot) (hc : (s.slot i).card.isSome = true)
    (hx : x = (s.slot i).minute (s.limits i)) :
    ((s.limits i).dailyRest ≤ x.restRun → x.dayClosed = false →
      Reported .dutyDayStart .stop (i.val + 1) x.daily s (account i s) ∧
      (x.staged ≠ none → Reported .dutyLimitsLoaded .stop (i.val + 1) 0 s (account i s))) ∧
    (((dayStart i (s.setSlot i x)).limits i).weeklyRest ≤ x.restRun → x.weekClosed = false →
      Reported .dutyWeekStart .stop (i.val + 1) x.weekly s (account i s)) := by
  have hlim : (s.setSlot i x).limits i = s.limits i := by simp [State.limits]
  have ha : account i s = writeDerived i
      (if i = 0 then mismatchCheck (recomputeStages i (weekStart i (dayStart i (s.setSlot i x))))
      else recomputeStages i (weekStart i (dayStart i (s.setSlot i x)))) := by
    simp only [account, hc, if_true]
    rw [← hx]
  obtain ⟨e1, e2, e3⟩ := accountEnd_keeps i (weekStart i (dayStart i (s.setSlot i x)))
  rw [← ha] at e1 e2 e3
  obtain ⟨d1, -, d3, d4⟩ := dayStart_slots i (s.setSlot i x)
  obtain ⟨w1, -, w3⟩ := weekStart_slots i (dayStart i (s.setSlot i x))
  have hrun : ((dayStart i (s.setSlot i x)).slot i).restRun = x.restRun ∧
      ((dayStart i (s.setSlot i x)).slot i).weekClosed = x.weekClosed ∧
      ((dayStart i (s.setSlot i x)).slot i).weekly = x.weekly := by
    rw [hlim] at d3 d4
    by_cases h : (s.limits i).dailyRest ≤ x.restRun ∧ x.dayClosed = false
    · have := (d4 (by simpa using h.1) (by simpa using h.2)).2
      rw [this]; simp
    · rw [d3 (by simp; cases hb : x.dayClosed <;> simp_all)]; simp
  constructor
  · intro h1 h2
    obtain ⟨r1, r2⟩ := dayStart_reports i (s.setSlot i x) (by simpa [hlim] using h1) (by simpa using h2)
    simp only [State.setSlot_slot, if_true] at r1 r2
    have g := ((weekStart_link i (dayStart i (s.setSlot i x))).trans e2).1
    have c : (account i s).dtu.clock = (dayStart i (s.setSlot i x)).dtu.clock := e1.1.trans w1
    exact ⟨r1.widen (by simp) (by simp) c g, fun h => (r2 h).widen (by simp) (by simp) c g⟩
  · intro h1 h2
    have r := weekStart_reports i (dayStart i (s.setSlot i x)) (by rw [hrun.1]; exact h1) (by rw [hrun.2.1]; exact h2)
    rw [hrun.2.2] at r
    refine Reported.widen (s := s) r ?_ ?_ e1.1 e2.1
    · simpa using (dayStart_link i (s.setSlot i x)).1
    · simp only [dayStart, loadStaged]
      (repeat' split) <;> simp

end Sys2Proof.Machine
end

