-- ==== Sys2Proof/Laws/BeginShowing.lean ====
section
/-! SUPPORT. The beginning of showing: what `beginShowing` makes true, and what keeps it true after. -/
namespace Sys2Proof.Machine

/-- Handing on the notice of a warning's showing posts its held record (R181). -/
theorem releaseHeld_posts (w : Fin 48) (s : State) :
    (∀ h ∈ (releaseHeld w s).lp.held, h.subject ≠ BitVec.ofNat 8 w.val) ∧
    ∀ r, s.lp.held.find? (fun h => decide (h.subject = BitVec.ofNat 8 w.val)) = some r → s.lp.queue.length < 32 →
      (releaseHeld w s).lp.queue = s.lp.queue ++ [r] := by
  show (∀ h ∈ (releaseHeld w s).lp.held, h.subject ≠ byte w.val) ∧
    ∀ r, s.lp.held.find? (fun h => decide (h.subject = byte w.val)) = some r → s.lp.queue.length < 32 →
      (releaseHeld w s).lp.queue = s.lp.queue ++ [r]
  simp only [releaseHeld]
  cases hf : s.lp.held.find? fun h => decide (h.subject = byte w.val) with
  | none => exact ⟨fun h hh => by simpa using List.find?_eq_none.mp hf h hh, fun r hr => by cases hr⟩
  | some found =>
    refine ⟨fun h hh => ?_, fun r hr hroom => ?_⟩
    · simp only [postRecord, judgeAttention] at hh
      (repeat' split at hh) <;> simp_all
    · cases hr
      simp [postRecord, judgeAttention, hroom]

/-- An entry has begun to be shown after the operation that shows it (R145). -/
theorem beginShowing_began (e : Entry) (s : State) : BeganShowing e s (beginShowing e s) := by
  obtain ⟨u, hu⟩ : ∃ u, u = tellLink e (s.setShown (some (s.beginTimers e))) := ⟨_, rfl⟩
  have hlp : (beginShowing e s).lp = (handShown e u).lp := by simp [beginShowing, hu]
  have hs : s.lp.queue <+: u.lp.queue := by
    rw [hu]
    exact (LinkGrows.trans (.of_lp (by simp)) (tellLink_link e (s.setShown (some (s.beginTimers e))))).1
  refine ⟨⟨s.beginTimers { e with shownBefore := true }, (beginShowing_anu e s).2.1, rfl, ?_, ?_, ?_⟩, ?_, ?_, ?_,
    (beginShowing_anu e s).2.2.2.2.2⟩
  · simp [State.beginTimers, Config.ms]
  · simp [State.beginTimers, Config.sec]
  · simp [State.beginTimers, Config.sec]
  · intro w hw hb
    have hr := releaseHeld_posts w (s.setShown (some (s.beginTimers e)))
    have hue : u = releaseHeld w (s.setShown (some (s.beginTimers e))) := by rw [hu]; simp [tellLink, hw, hb]
    rw [← hue] at hr
    rw [hlp]
    refine ⟨by simpa [handShown] using hr.1, fun r hf hroom => ?_⟩
    have hgrow : u.lp.queue <+: (handShown e u).lp.queue := by simpa [handShown] using hand_queue _ _ _ u
    obtain ⟨after, hafter⟩ := hgrow
    have hlen : s.lp.queue.length < 32 := Nat.lt_of_le_of_lt (hs.trans ⟨after, hafter⟩).length_le hroom
    refine ⟨s.lp.queue, after, List.prefix_rfl, ?_⟩
    rw [← hafter, hr.2 r (by simpa using hf) (by simpa using hlen)]
    simp
  · exact hand_reported _ _ _ s u _ hs (by simp [hu]) (by simp [beginShowing, hu]) (by
      rw [hlp]
      exact List.prefix_rfl)
  · simp only [beginShowing, renderLine_keeps, renderLine_frame]
    cases e.chime <;>
      simp [Chime.sound, repeatPeriod, OneShot.length, Config.ms]

/-- What the line should show does not depend on the announcement marks of a track. -/
theorem lineContent_setTrack (s : State) (i : Fin 2) (k : Track) (r : TrackRecord) :
    (s.setTrack i k r).lineContent = s.lineContent := by
  have hslot : ∀ j, ((s.setTrack i k r).slot j).card = (s.slot j).card ∧
      ((s.setTrack i k r).slot j).activity = (s.slot j).activity ∧
      ((s.setTrack i k r).slot j).credit = (s.slot j).credit ∧
      ∀ x, ((s.setTrack i k r).slot j).counter x = (s.slot j).counter x := by
    intro j
    simp only [State.setTrack, State.setSlot_slot]
    split
    · subst j
      exact ⟨rfl, rfl, rfl, fun x => by cases x <;> rfl⟩
    · exact ⟨rfl, rfl, rfl, fun x => rfl⟩
  have hf : ∀ p, (s.setTrack i k r).fieldText p = s.fieldText p := by
    intro p
    have hrem : ∀ j x, (s.setTrack i k r).remaining j x = s.remaining j x := fun j x => by
      simp only [State.remaining, (hslot j).2.2.2 x]
      rfl
    have hval : ∀ q, (s.setTrack i k r).validValue q = s.validValue q ∧ (s.setTrack i k r).entry = s.entry := fun q =>
      ⟨rfl, rfl⟩
    simp only [State.fieldText, (hslot _).1, (hslot _).2.1, (hslot _).2.2.1, hrem, (hval _).1, (hval none).2]
  have hl : (s.setTrack i k r).fill = s.fill := by
    funext chars p
    simp only [State.fill, hf]
  simp only [State.lineContent, State.onLine, State.page, State.rendered, hl]
  rfl

/-- A beginning of showing stays one between an earlier and a later state that hold the same announcements to it: reports
alone have joined before and after, and the shown entry, the sounder, the time and the line are those it left. -/
theorem BeganShowing.keep {e : Entry} {s u v t : State} (h : BeganShowing e u v) (hs : s.lp.queue <+: u.lp.queue)
    (hheld : u.lp.held = s.lp.held) (hcfg : u.cfg = s.cfg) (ht : v.lp.queue <+: t.lp.queue)
    (hthen : ∀ x ∈ t.lp.held, x ∈ v.lp.held) (hnow : t.now = v.now) (hclock : t.dtu.clock = v.dtu.clock)
    (hshown : t.anu.shown = v.anu.shown) (hsounder : t.anu.sounder = v.anu.sounder)
    (hcontent : t.anu.content = v.anu.content) (hline : t.lineContent = v.lineContent) : BeganShowing e s t := by
  obtain ⟨h1, h2, h3, h4, h5⟩ := h
  refine ⟨?_, fun w hw hb => ⟨fun x hx => (h2 w hw hb).1 x (hthen x hx), fun r hr hroom => ?_⟩, ?_, ?_, ?_⟩
  · simpa only [hshown, hnow, hcfg] using h1
  · obtain ⟨before, after, hbefore, hqueue⟩ := (h2 w hw hb).2 r (by rw [hheld]; exact hr)
      (Nat.lt_of_le_of_lt ht.length_le hroom)
    obtain ⟨more, hmore⟩ := ht
    exact ⟨before, after ++ more, hs.trans hbefore, by rw [← hmore, hqueue]; simp⟩
  · exact h3.widen hs (by rw [hcfg]) hclock ht
  · simpa only [hsounder, hnow] using h4
  · rw [hcontent, h5, hline]

end Sys2Proof.Machine
end

