-- ==== Sys2Proof/Laws/Gauges.lean ====
section
/-! SUPPORT. Gauges: the two indications over all gauges, the judgement of the power state while nothing is due, what a
new target keeps, and what a park and a PARK GAUGE do. -/
namespace Sys2Proof.Machine

/-- A property of every gauge record is one of every gauge. -/
theorem all_gauges (p : Gauge → Bool) (s : State) : s.gdu.items.all p = true ↔ ∀ g, p (s.gauge g) = true := by
  rw [List.all_eq_true]
  constructor
  · intro h g
    exact h _ (by simp [State.gauge, Table.get])
  · intro h x hx
    obtain ⟨i, hi, rfl⟩ := List.getElem_of_mem hx
    exact h ⟨i, by rw [← s.gdu.size]; exact hi⟩

/-- GAUGES PARKED depends on the gauges' states alone. -/
theorem gaugesParked_congr (s t : State) (h : ∀ g, (t.gauge g).state = (s.gauge g).state) :
    t.gaugesParked = s.gaugesParked := by
  rw [Bool.eq_iff_iff]
  simp only [State.gaugesParked, all_gauges, h]

/-- GAUGES READY depends on the gauges' states alone. -/
theorem gaugesReady_congr (s t : State) (h : ∀ g, (t.gauge g).state = (s.gauge g).state) :
    t.gaugesReady = s.gaugesReady := by
  rw [Bool.eq_iff_iff]
  simp only [State.gaugesReady, all_gauges, h]

/-- Where no change of power state is due, the judgement makes none. -/
theorem judgePower_settled (s : State) (h : s.settled) : judgePower s = s := by
  simp only [judgePower]
  split
  · rw [if_neg]
    rintro ⟨a, b⟩
    have := h.1 (by assumption) a
    simp_all
  · rw [if_neg]
    have := h.2 (by assumption)
    simp_all
  · rfl
  · rfl

/-- No change of power state becomes due while the controller and the gauges' states stay as they are. -/
theorem settled_congr (s t : State) (hs : s.settled) (h : ∀ g, (t.gauge g).state = (s.gauge g).state)
    (hp : t.psc = s.psc) : t.settled := by
  simp only [State.settled, hp, gaugesReady_congr s t h, gaugesParked_congr s t h]
  exact hs

/-- A new target changes the move and the following target alone. -/
@[simp] theorem takeTarget_keeps (t : Nat) (r : Gauge) :
    (r.takeTarget t).state = r.state ∧ (r.takeTarget t).updateDue = r.updateDue ∧
    (r.takeTarget t).parkPending = r.parkPending ∧ (r.takeTarget t).position = r.position ∧
    (r.takeTarget t).homing = r.homing ∧ (r.takeTarget t).history = r.history := by
  simp only [Gauge.takeTarget]
  (repeat' split) <;> simp

/-- The entry to PARKING of one gauge leaves the others alone. -/
theorem enterParking_other (g x : Fin 6) (s : State) (h : x ≠ g) : (enterParking g s).gauge x = s.gauge x := by
  simp only [enterParking, arrivePark]
  split <;> simp [h]

/-- A gauge that enters PARKING is PARKING, or PARKED at once. -/
theorem enterParking_state (g : Fin 6) (s : State) :
    ((enterParking g s).gauge g).state ∈ [GaugeState.parking, .parked] ∧
    ((enterParking g s).gauge g).parkPending = (s.gauge g).parkPending ∧
    ((enterParking g s).gauge g).position = (s.gauge g).position ∧
    ((enterParking g s).gauge g).homing = (s.gauge g).homing := by
  simp only [enterParking, arrivePark]
  split <;> simp

/-- A park ordered for a gauge leaves the others alone. -/
theorem orderPark_other (g x : Fin 6) (s : State) (h : x ≠ g) : (orderPark g s).gauge x = s.gauge x := by
  simp only [orderPark]
  split <;> simp [h, enterParking_other]

/-- A park sends no gauge into or out of HOMING and SWEEPING. -/
theorem orderPark_homing (g x : Fin 6) (s : State) :
    ((orderPark g s).gauge x).state ∈ [GaugeState.homing, .sweeping] ↔ (s.gauge x).state ∈ [GaugeState.homing, .sweeping] := by
  by_cases hx : x = g
  · subst hx
    have hp := (enterParking_state x s).1
    simp only [orderPark]
    split <;> simp_all <;> rcases hp with hp | hp <;> simp [hp]
  · rw [orderPark_other g x s hx]

/-- Outside PARKING a park makes no change of power state due. -/
theorem orderPark_settled (g : Fin 6) (s : State) (hs : s.settled) (hp : s.psc.state ≠ .parking) :
    (orderPark g s).settled := by
  have hr : (orderPark g s).gaugesReady = s.gaugesReady := by
    rw [Bool.eq_iff_iff]
    simp only [State.gaugesReady, all_gauges]
    have := fun x => not_congr (orderPark_homing g x s)
    simp_all
  simp only [State.settled, orderPark_frame, hr]
  exact ⟨hs.1, fun h => absurd h hp⟩

/-- In PARKING a PARK GAUGE is accepted and changes nothing (R166). -/
theorem parkGauge_in_parking (g : Fin 6) (s : State) (h : s.psc.state = .parking) : parkGauge g s = Answer.ok s := by
  simp [parkGauge, h]

/-- Outside PARKING a PARK GAUGE is refused for an UNHOMED or FAULT gauge (R54, R59). -/
theorem parkGauge_refused (g : Fin 6) (s : State) (hp : s.psc.state ≠ .parking)
    (hg : (s.gauge g).state ∈ [GaugeState.unhomed, .fault]) : parkGauge g s = Answer.refuse s .state := by
  simp_all [parkGauge]

/-- Outside PARKING a PARK GAUGE orders every other gauge to park (R54). -/
theorem parkGauge_orders (g : Fin 6) (s : State) (hs : s.settled) (hp : s.psc.state ≠ .parking)
    (hg : (s.gauge g).state ∉ [GaugeState.unhomed, .fault]) : parkGauge g s = Answer.ok (orderPark g s) := by
  rw [parkGauge, judgePower_settled _ (orderPark_settled g s hs hp)]
  simp_all

/-- The entry to SLEEP ends each gauge's update timer and move and changes nothing else of it. -/
theorem enterSleep_gauge (s : State) (g : Fin 6) :
    (enterSleep s).gauge g = { s.gauge g with updateDue := none, move := none, following := none } := by
  simp only [enterSleep]
  simp [State.gauge, gaugesAtSleep]

/-- The judgement of the power state changes nothing of a gauge but its update timer and its move. -/
theorem judgePower_gauge (s : State) (g : Fin 6) :
    (judgePower s).gauge g = s.gauge g ∨
    (judgePower s).gauge g = { s.gauge g with updateDue := none, move := none, following := none } := by
  simp only [judgePower]
  (repeat' split)
  · exact Or.inl (State.gauge_of _ _ (by simp) g)
  · exact Or.inl rfl
  · exact Or.inr (enterSleep_gauge s g)
  all_goals exact Or.inl rfl

end Sys2Proof.Machine
end

