-- ==== Sys2Proof/Laws/LampDrive.lean ====
section
/-! SUPPORT. That the lamps keep the drives that the table of R100 gives them: what reads that table, and each shared
operation that changes a warning or the message line. -/
namespace Sys2Proof.Machine

/-- Two states agree on all that the table of R100 reads, and on the lamps. -/
def SameDrives (s t : State) : Prop :=
  t.psc.state = s.psc.state ∧ t.cfg.lamps = s.cfg.lamps ∧ t.cfg.warnings = s.cfg.warnings ∧
  (∀ w, (t.warning w).state = (s.warning w).state ∧ (t.warning w).acknowledged = (s.warning w).acknowledged) ∧
  t.weu.lamps = s.weu.lamps

theorem SameDrives.of_parts {s t : State} (hp : t.psc = s.psc) (hc : t.cfg = s.cfg) (hw : t.weu = s.weu) :
    SameDrives s t := by
  simp [SameDrives, hp, hc, hw, State.warning]

theorem SameDrives.trans {a b c : State} (h : SameDrives a b) (k : SameDrives b c) : SameDrives a c :=
  ⟨k.1.trans h.1, k.2.1.trans h.2.1, k.2.2.1.trans h.2.2.1,
    fun w => ⟨(k.2.2.2.1 w).1.trans (h.2.2.2.1 w).1, (k.2.2.2.1 w).2.trans (h.2.2.2.1 w).2⟩, k.2.2.2.2.trans h.2.2.2.2⟩

/-- What a warning with another announcement mark or other timers changes of the drives: nothing. -/
theorem SameDrives.setWarning (s : State) (w : Fin 48) (r : Warning) (hs : r.state = (s.warning w).state)
    (ha : r.acknowledged = (s.warning w).acknowledged) : SameDrives s (s.setWarning w r) := by
  refine ⟨rfl, rfl, rfl, fun x => ?_, rfl⟩
  rw [State.setWarning_warning]
  split <;> simp_all

/-- The drive of a lamp is read from its configuration, its host level, the warnings that name it and the power state. -/
theorem driveOf_congr (s t : State) (l : Fin 32) (hp : t.psc.state = s.psc.state) (hl : t.cfg.lamps.get l = s.cfg.lamps.get l)
    (hh : (t.lamp l).hostLevel = (s.lamp l).hostLevel)
    (hw : ∀ w, t.contributes l w = s.contributes l w ∧ t.flashes l w = s.flashes l w) : t.driveOf l = s.driveOf l := by
  have hr : t.ruleDrive l = s.ruleDrive l := by
    simp only [State.ruleDrive, show t.flashes l = s.flashes l from funext fun w => (hw w).2,
      show t.contributes l = s.contributes l from funext fun w => (hw w).1]
  simp only [State.driveOf, hp, hl, hh, hr]

theorem SameDrives.driveOf {s t : State} (h : SameDrives s t) (l : Fin 32) : t.driveOf l = s.driveOf l := by
  obtain ⟨hp, hl, hc, hw, hm⟩ := h
  refine driveOf_congr s t l hp (by rw [hl]) (by simp [State.lamp, hm]) fun w => ?_
  simp [State.flashes, State.contributes, hc, (hw w).1, (hw w).2]

/-- What the table does not read keeps the drives. -/
theorem SameDrives.kept {s t : State} (h : SameDrives s t) (k : s.lampsKept) : t.lampsKept := by
  intro l
  rw [h.driveOf l, ← k l]
  simp [State.lamp, h.2.2.2.2]

/-- A lamp given the drive of the table does not change what the table gives (R100). -/
theorem judgeLamp_driveOf (s : State) (l x : Fin 32) : (judgeLamp l s).driveOf x = s.driveOf x := by
  refine driveOf_congr s _ x (by simp [judgeLamp]) (by simp [judgeLamp]) ?_ fun w => ?_
  · simp only [judgeLamp, State.setLamp_lamp, Lamp.drivenAs]
    split <;> simp_all
  · simp only [State.flashes, State.contributes, judgeLamp, State.warning, State.setLamp]
    exact ⟨rfl, rfl⟩

/-- The re-judging of the one lamp that may be out of place puts every lamp right (R100). -/
theorem judgeLamp_kept (s : State) (l : Fin 32) (h : ∀ x, x ≠ l → (s.lamp x).drive = s.driveOf x) :
    (judgeLamp l s).lampsKept := by
  intro x
  rw [judgeLamp_driveOf]
  simp only [judgeLamp, State.setLamp_lamp]
  split
  · next hx => rw [hx]; rfl
  · next hx => exact h x hx

/-- Every lamp re-judged is right, whatever came before (R100). -/
theorem judgeLamps_kept (s : State) : (judgeLamps s).lampsKept := by
  intro l
  have hl : (judgeLamps s).lamp l = (s.lamp l).drivenAs (s.driveOf l) := by simp [judgeLamps, State.lamp]
  rw [hl]
  refine Eq.symm (driveOf_congr s _ l (by simp [judgeLamps]) (by simp [judgeLamps]) (by rw [hl]; rfl) fun w => ?_)
  simp only [State.flashes, State.contributes, judgeLamps, State.warning]
  exact ⟨rfl, rfl⟩

/-- A warning changed touches the lamp that it names alone (R100). -/
theorem setWarning_drive (s : State) (w : Fin 48) (r : Warning) (l : Fin 32)
    (h : (s.cfg.warnings.get w).lamp ≠ some l) : (s.setWarning w r).driveOf l = s.driveOf l := by
  refine driveOf_congr s _ l (by simp) (by simp) (by simp [State.lamp]) fun x => ?_
  by_cases hx : x = w
  · subst hx
    simp [State.flashes, State.contributes, h]
  · simp [State.flashes, State.contributes, hx]

/-- A warning changed, with anything that the table does not read, and its lamp re-judged, leaves every lamp right. -/
theorem judgeLampOf_kept (s t : State) (w : Fin 48) (r : Warning) (k : s.lampsKept) (h : SameDrives (s.setWarning w r) t) :
    (judgeLampOf w t).lampsKept := by
  have hc : (t.cfg.warnings.get w).lamp = (s.cfg.warnings.get w).lamp := by
    rw [h.2.2.1]
    simp
  have hx : ∀ l, (s.cfg.warnings.get w).lamp ≠ some l → (t.lamp l).drive = t.driveOf l := by
    intro l hl
    rw [h.driveOf l, setWarning_drive s w r l hl, ← k l]
    simp [State.lamp, h.2.2.2.2]
  simp only [judgeLampOf, hc]
  split
  · next hn => exact fun l => hx l (by simp [hn])
  · next l hl => exact judgeLamp_kept t l fun x hne => hx x (by simpa [hl] using Ne.symm hne)

/-! ### The message line -/

theorem tellLink_drives (e : Entry) (s : State) : SameDrives s (tellLink e s) := .of_parts (by simp) (by simp) (by simp)

theorem acknowledgeWarning_kept (w : Fin 48) (s : State) (k : s.lampsKept) : (acknowledgeWarning w s).lampsKept := by
  simp only [acknowledgeWarning]
  split
  · exact judgeLampOf_kept s _ w _ k (.of_parts rfl rfl rfl)
  · exact judgeLampOf_kept s _ w _ k (.of_parts rfl rfl rfl)
  all_goals exact k

theorem warningEntryEnded_drives (w : Fin 48) (s : State) : SameDrives s (warningEntryEnded w s) :=
  SameDrives.setWarning s w { s.warning w with mark := .none } rfl rfl

theorem tellOwner_drives (cause : EndCause) (e : Entry) (s : State) (h : cause ≠ .acknowledged) :
    SameDrives s (tellOwner cause e s) := by
  simp only [tellOwner]
  split
  · exact .of_parts rfl rfl rfl
  · exact .of_parts rfl rfl rfl
  · contradiction
  · exact warningEntryEnded_drives _ s
  · contradiction
  · exact .of_parts (by simp [State.setTrack]) (by simp [State.setTrack]) (by simp [State.setTrack])

theorem endEntry_drives (cause : EndCause) (e : Entry) (s : State) (h : cause ≠ .acknowledged) :
    SameDrives s (endEntry cause e s) :=
  (tellOwner_drives cause e s h).trans (.of_parts (by simp [endEntry]) (by simp [endEntry]) (by simp [endEntry]))

/-- The end of an entry keeps the drives, an acknowledged warning's lamp re-judged (R92, R142). -/
theorem endEntry_kept (cause : EndCause) (e : Entry) (s : State) (k : s.lampsKept) : (endEntry cause e s).lampsKept := by
  refine (SameDrives.of_parts (s := tellOwner cause e s) (by simp [endEntry]) (by simp [endEntry]) (by simp [endEntry])).kept ?_
  simp only [tellOwner]
  split
  · exact k
  · exact k
  · exact acknowledgeWarning_kept _ _ ((warningEntryEnded_drives _ s).kept k)
  · exact (warningEntryEnded_drives _ s).kept k
  · exact (SameDrives.of_parts (by simp [State.setTrack]) (by simp [State.setTrack]) (by simp [State.setTrack])).kept k
  · exact (SameDrives.of_parts (by simp [State.setTrack]) (by simp [State.setTrack]) (by simp [State.setTrack])).kept k

theorem displace_drives (sh : Shown) (s : State) : SameDrives s (displace sh s) := by
  have h : SameDrives s (showHead (stopShown s)) := .of_parts (by simp) (by simp) (by simp)
  simp only [displace]
  split
  · exact h.trans (.of_parts (by simp) (by simp) (by simp))
  · exact h.trans (endEntry_drives _ _ _ (by simp))

theorem decideLine_drives (s : State) : SameDrives s (decideLine s) := by
  simp only [decideLine]
  (repeat' split)
  · exact .of_parts rfl rfl rfl
  · exact .of_parts (by simp) (by simp) (by simp)
  · exact displace_drives _ s
  · exact .of_parts rfl rfl rfl

theorem decideAfterEnd_drives (s : State) : SameDrives s (decideAfterEnd s) :=
  (decideLine_drives s).trans (.of_parts (by simp [decideAfterEnd]) (by simp [decideAfterEnd]) (by simp [decideAfterEnd]))

theorem joinQueue_drives (o : Offer) (s : State) : SameDrives s (joinQueue o s) :=
  SameDrives.trans (.of_parts (by simp) (by simp) (by simp)) (decideLine_drives _)

/-- An offer leaves what the drives are read from (R139, R140). -/
theorem offer_drives (o : Offer) (s : State) : SameDrives s (offer o s) := by
  simp only [offer, updateShown, updateWaiting, offerOnFull]
  (repeat' split)
  · exact .of_parts (by simp) (by simp) (by simp)
  · exact .of_parts (by simp) (by simp) (by simp)
  · exact joinQueue_drives o s
  · exact joinQueue_drives o s
  · exact SameDrives.trans (.of_parts (by simp) (by simp) (by simp))
      ((endEntry_drives .dropped _ (s.setQueue s.anu.queue.dropLast) (by simp)).trans (joinQueue_drives o _))
  · exact SameDrives.trans (.of_parts (by simp) (by simp) (by simp)) (endEntry_drives .dropped _ (gainArrival s) (by simp))

/-- A withdrawal leaves what the drives are read from (R141). -/
theorem withdraw_drives (x : AnnSource) (s : State) : SameDrives s (withdraw x s) := by
  simp only [withdraw]
  (repeat' split)
  · exact SameDrives.trans (.of_parts (by simp) (by simp) (by simp)) (endEntry_drives .withdrawn _ (s.setQueue _) (by simp))
  · exact .of_parts rfl rfl rfl
  · exact SameDrives.trans (.of_parts (by simp) (by simp) (by simp))
      ((endEntry_drives .withdrawn _ (stopShown s) (by simp)).trans (decideAfterEnd_drives _))
  · exact .of_parts rfl rfl rfl

/-- An acknowledgement keeps the drives (R149, R92). -/
theorem acknowledgeShown_kept (s : State) (k : s.lampsKept) : (acknowledgeShown s).lampsKept := by
  simp only [acknowledgeShown]
  split
  · exact k
  · exact (decideAfterEnd_drives _).kept (endEntry_kept .acknowledged _ (stopShown s)
      ((SameDrives.of_parts (s := s) (by simp) (by simp) (by simp)).kept k))

theorem writeEntry_kept (q : Fin 48) (e : Quantity) (s : State) (k : s.lampsKept) : (writeEntry q e s).lampsKept := by
  have h : (s.setEntry q e).lampsKept := (SameDrives.of_parts (by simp) (by simp) (by simp)).kept k
  simp only [writeEntry]
  split
  · exact acknowledgeShown_kept _ h
  · exact h

/-! ### The warnings -/

theorem setMark_drives (w : Fin 48) (mark : AnnMark) (s : State) : SameDrives s (s.setMark w mark) :=
  SameDrives.setWarning s w { s.warning w with mark := mark } rfl rfl

theorem offerWarning_drives (w : Fin 48) (kind : AnnKind) (mark : AnnMark) (s : State) :
    SameDrives s (offerWarning w kind mark s) := by
  simp only [offerWarning]
  split
  · exact .of_parts rfl rfl rfl
  · exact (setMark_drives w mark s).trans (offer_drives _ _)

theorem withdrawWarning_drives (w : Fin 48) (s : State) : SameDrives s (withdrawWarning w s) := by
  simp only [withdrawWarning]
  split
  · exact .of_parts rfl rfl rfl
  · exact (setMark_drives w .none s).trans (withdraw_drives _ _)

theorem handWarningEnded_drives (w : Fin 48) (cause : WarnEnd) (s : State) : SameDrives s (handWarningEnded w cause s) :=
  .of_parts (by simp) (by simp) (by simp)

/-- The entry to ACTIVE_NEW keeps the drives (R88). -/
theorem enterActiveNew_kept (w : Fin 48) (fromLatched : Bool) (s : State) (k : s.lampsKept) :
    (enterActiveNew w fromLatched s).lampsKept := by
  refine judgeLampOf_kept s _ w
    { s.warning w with state := .activeNew, acknowledged := false, raiseDue := none, reminderDue := none } k ?_
  split
  · exact SameDrives.trans (.of_parts (by simp) (by simp) (by simp)) (offerWarning_drives w .normal .normal
      (handWarningRaised w (s.cfg.warnings.get w).cls fromLatched (s.offersAtRaise w) (s.setWarning w _)))
  · exact .of_parts (by simp) (by simp) (by simp)

/-- A warning's end keeps the drives (R89, R93, R96). -/
theorem goOff_kept (w : Fin 48) (cause : WarnEnd) (s : State) (k : s.lampsKept) : (goOff w cause s).lampsKept :=
  judgeLampOf_kept s _ w ((s.warning w).restedIn .off) k
    ((withdrawWarning_drives w _).trans (handWarningEnded_drives w cause _))

/-- A warning's strength keeps the drives (R86). -/
theorem actOnStrength_kept (w : Fin 48) (strength : Nat) (s : State) (k : s.lampsKept) :
    (actOnStrength w strength s).lampsKept := by
  have he : (endAtStrength w s).lampsKept := by
    simp only [endAtStrength]
    split
    · refine judgeLampOf_kept s _ w { s.warning w with state := .latched, reminderDue := none } k ?_
      split
      · exact withdrawWarning_drives w _
      · exact .of_parts rfl rfl rfl
    · exact goOff_kept w .strength s k
  simp only [actOnStrength]
  split
  · exact k
  · exact k
  · split
    · split
      · exact enterActiveNew_kept w false s k
      · exact judgeLampOf_kept s _ w _ k (.of_parts rfl rfl rfl)
    · exact k
  · split
    · exact judgeLampOf_kept s _ w _ k (.of_parts rfl rfl rfl)
    · exact k
  · split
    · exact he
    · exact k
  · split
    · exact he
    · exact k
  · split
    · split
      · exact judgeLampOf_kept s _ w _ k (.of_parts rfl rfl rfl)
      · exact enterActiveNew_kept w true s k
    · exact k

theorem judgeLamp?_kept (l : Option (Fin 32)) (s : State) (k : s.lampsKept) : (judgeLamp? l s).lampsKept := by
  cases l with
  | none => exact k
  | some l => exact judgeLamp_kept s l fun x _ => k x

/-- A reconfigured warning keeps the drives: its old lamp and its new one are re-judged (R96). -/
theorem reconfigureWarning_kept (w : Fin 48) (c : WarnSettings) (s : State) (k : s.lampsKept) :
    (reconfigureWarning w c s).lampsKept := by
  have hp : (putOff w s).lampsKept := by
    simp only [putOff]
    split
    · exact k
    · exact k
    all_goals exact goOff_kept w .reconfigured s k
  have hcfg : (putOff w s).cfg = s.cfg := by simp
  simp only [reconfigureWarning]
  generalize putOff w s = u at hp hcfg
  rw [← hcfg]
  have other : ∀ (v : State) (l : Fin 32),
      v = ((u.setWarnSettings w c).setWarning w
        (((u.setWarnSettings w c).warning w).restedIn (if c.enabled then .off else .disabled))) →
      (u.cfg.warnings.get w).lamp ≠ some l → (v.lamp l).drive = v.driveOf l := by
    intro v l hv hl
    have hd : v.driveOf l = u.driveOf l := by
      refine driveOf_congr u v l (by simp [hv, State.setWarnSettings]) (by simp [hv, State.setWarnSettings])
        (by simp [hv, State.lamp, State.setWarnSettings]) fun x => ?_
      by_cases hx : x = w
      · subst hx
        have he : (v.warning x).state.engaged = false := by
          simp only [hv, State.setWarning_warning, if_true, Warning.restedIn]
          split <;> rfl
        simp [State.flashes, State.contributes, hl, he]
      · simp [State.flashes, State.contributes, hv, hx, State.setWarnSettings, Table.get_set_ne]
    rw [hd, ← hp l]
    simp [hv, State.lamp, State.setWarnSettings]
  generalize hv : ((u.setWarnSettings w c).setWarning w _) = v at *
  have first : (judgeLamp? (u.cfg.warnings.get w).lamp v).lampsKept := by
    simp only [judgeLamp?]
    split
    · next h => exact fun l => other v l rfl (by simp [h])
    · next l h => exact judgeLamp_kept v l fun x hx => other v x rfl (by simpa [h] using Ne.symm hx)
  exact judgeLamp?_kept _ _ first

end Sys2Proof.Machine
end

