-- ==== Sys2Proof/Laws/PowerChanges.lean ====
section
/-! SUPPORT. The stop of the scan and the changes of power state: the entries and the reports of a stop, and the POWER STATE
record that each change hands on first. -/
namespace Sys2Proof.Machine

/-! ### The stop of the scan -/

/-- One entry at a stop of the scan (R9). -/
theorem scanStopped_entry (q : Fin 48) (s : State) :
    (∀ f, s.cfg.sources.get q = .scan f → (scanStopped q s).entry q = { s.entry q with
      status := if (s.entry q).status = .valid then .stale else (s.entry q).status, outRun := 0, inRun := 0 }) ∧
    ((∀ f, s.cfg.sources.get q ≠ .scan f) → scanStopped q s = s) ∧
    (∀ x, x ≠ q → (scanStopped q s).entry x = s.entry x) := by
  refine ⟨fun f hf => ?_, fun h => ?_, fun x hx => ?_⟩
  · simp only [scanStopped, hf]
    split <;> simp_all
  · simp only [scanStopped]
    split
    · exact absurd (by assumption) (h _)
    all_goals rfl
  · simp only [scanStopped]
    (repeat' split) <;> simp [hx]

theorem scanStopped_link (q : Fin 48) (s : State) : LinkGrows s (scanStopped q s) := by
  simp only [scanStopped]
  (repeat' split)
  · exact LinkGrows.trans (.of_lp (by simp)) (hand_link _ _ _ (s.setEntry q _))
  · exact .of_lp (by simp)
  all_goals exact .of_lp rfl

/-- A VALID scan-sourced entry is STALE with its report (R9). -/
theorem scanStopped_reported (q : Fin 48) (s : State) (f : ScanFields) (hf : s.cfg.sources.get q = .scan f)
    (hv : (s.entry q).status = .valid) : Reported .quantityStale .stop q.val 1 s (scanStopped q s) := by
  simp only [scanStopped, hf, hv, if_true]
  exact hand_reported _ _ _ s (s.setEntry q _) _ (by simp) (by simp) (by simp) List.prefix_rfl

/-- The stop of the scan (R9, R29). -/
theorem stopScan_stops (s : State) : ScanHasStopped s.entry s (stopScan s) := by
  obtain ⟨z, hz⟩ : ∃ z, z = s.setSsu { s.ssu with mode := .stopped, flight := none, remaining := [], intervalDue := none } :=
    ⟨_, rfl⟩
  have hstop : stopScan s = forEach scanStopped z := by rw [hz]; rfl
  have others : ∀ (q : Fin 48) (l : List (Fin 48)) (u : State), q ∉ l →
      (l.foldl (fun t i => scanStopped i t) u).entry q = u.entry q := by
    intro q l
    induction l with
    | nil => exact fun _ _ => rfl
    | cons i l ih =>
      intro u hq
      simp only [List.mem_cons, not_or] at hq
      rw [List.foldl_cons, ih _ hq.2, (scanStopped_entry i u).2.2 q hq.1]
  have grows : ∀ (l : List (Fin 48)) (u : State), LinkGrows u (l.foldl (fun t i => scanStopped i t) u) := fun l u =>
    foldl_keeps (LinkGrows u) _ (fun t i h => h.trans (scanStopped_link i t)) l u (.of_lp rfl)
  have cfgs : ∀ (l : List (Fin 48)) (u : State), (l.foldl (fun t i => scanStopped i t) u).cfg = u.cfg ∧
      (l.foldl (fun t i => scanStopped i t) u).dtu = u.dtu := fun l u =>
    ⟨foldl_same State.cfg (fun t i => scanStopped i t) (fun t i => by simp) l u,
      foldl_same State.dtu (fun t i => scanStopped i t) (fun t i => by simp) l u⟩
  refine ⟨fun q f hf => ?_, fun q hq => ?_⟩
  · obtain ⟨before, after, hb, ha, hcut⟩ := forEach_cut scanStopped q z
    obtain ⟨u, hu⟩ : ∃ u, u = before.foldl (fun t i => scanStopped i t) z := ⟨_, rfl⟩
    have hue : u.entry q = s.entry q := by rw [hu, others q before z hb, hz]; rfl
    have huf : u.cfg = s.cfg := by rw [hu, (cfgs before z).1, hz]; rfl
    rw [hstop, hcut, ← hu]
    refine ⟨?_, fun hv => ?_⟩
    · rw [others q after _ ha, (scanStopped_entry q u).1 f (by rw [huf]; exact hf), hue]
    · refine (scanStopped_reported q u f (by rw [huf]; exact hf) (by rw [hue]; exact hv)).widen ?_ (by rw [huf])
        (by rw [(cfgs after _).2]) (grows after _).1
      rw [hu]
      exact LinkGrows.trans (.of_lp (by rw [hz]; rfl)) (grows before z) |>.1
  · obtain ⟨before, after, hb, ha, hcut⟩ := forEach_cut scanStopped q z
    rw [hstop, hcut, others q after _ ha, (scanStopped_entry q _).2.1, others q before z hb, hz]
    · rfl
    · rw [(cfgs before z).1, hz]
      exact hq

theorem stopScan_queue (s : State) : s.lp.queue <+: (stopScan s).lp.queue := by
  simp only [stopScan]
  exact (LinkGrows.trans (.of_lp (by simp)) (forEach_link scanStopped scanStopped_link _)).1

/-- At the entry to SLEEP the scan has stopped, and where it stood STOPPED no quantity and no report has changed (R29). -/
theorem scanAtSleep_stops (s : State) :
    (s.ssu.mode ≠ .stopped → ScanHasStopped s.entry s (scanAtSleep s)) ∧
    (s.ssu.mode = .stopped → (scanAtSleep s).qt = s.qt) ∧ s.lp.queue <+: (scanAtSleep s).lp.queue := by
  refine ⟨fun h => ?_, fun h => ?_, ?_⟩
  · simpa [scanAtSleep, h, ScanHasStopped, Reported, State.entry] using stopScan_stops s
  · simp [scanAtSleep, h]
  · simp only [scanAtSleep]
    split
    · simp
    · simpa using stopScan_queue s

/-! ### POWER STATE -/

/-- A report handed on stands right behind those that were there (R179). -/
theorem hand_first (k : ReportKind) (a b : Nat) (s u t : State) (hlp : u.lp.queue = s.lp.queue)
    (hroutes : u.cfg.routes = s.cfg.routes) (hclock : u.dtu.clock = s.dtu.clock)
    (ht : (hand k a b u).lp.queue <+: t.lp.queue) : ReportedFirst k a b s t := by
  intro urgent hroute hroom
  have h : (hand k a b u).lp.queue = s.lp.queue ++
      [⟨k, BitVec.ofNat 8 a, BitVec.ofNat 16 b, BitVec.ofNat 16 s.dtu.clock, urgent⟩] := by
    cases urgent <;>
      simp_all [hand, handWith, postRecord, judgeAttention, State.stamp, byte]
  rwa [← h]

/-- A report that stands first is one that has been left. -/
theorem ReportedFirst.reported {k : ReportKind} {a b : Nat} {s t : State} (h : ReportedFirst k a b s t)
    (hclock : t.dtu.clock = s.dtu.clock) (hgrow : s.lp.queue <+: t.lp.queue) : Reported k .stop a b s t := by
  intro urgent hroute hroom
  obtain ⟨after, hafter⟩ := h urgent hroute (Nat.lt_of_le_of_lt hgrow.length_le hroom)
  exact ⟨s.lp.queue, after, List.prefix_rfl, by rw [← hafter, hclock]; simp⟩

/-- Reports that join behind a first one leave it first. -/
theorem ReportedFirst.before {k : ReportKind} {a b : Nat} {s u t : State} (h : ReportedFirst k a b s u)
    (ht : u.lp.queue <+: t.lp.queue) : ReportedFirst k a b s t :=
  fun urgent hroute hroom => (h urgent hroute hroom).trans ht

theorem handPowerState_first (old : Nat) (cause : PowerCause) (s u t : State) (hlp : u.lp.queue = s.lp.queue)
    (hroutes : u.cfg.routes = s.cfg.routes) (hclock : u.dtu.clock = s.dtu.clock)
    (ht : (handPowerState old cause u).lp.queue <+: t.lp.queue) :
    ReportedFirst .powerState (code PowerState.list u.psc.state) (old + 256 * code PowerCause.list cause) s t :=
  hand_first _ _ _ s u t hlp hroutes hclock ht

/-- The return to RUN releases the gauges and hands on POWER STATE (R167). -/
theorem returnToRun_spec (cause : PowerCause) (s : State) :
    GaugesReleased s (returnToRun cause s) ∧ (returnToRun cause s).psc = { s.psc with state := .run, proof := .stopped } ∧
    ReportedFirst .powerState 2 (3 + 256 * code PowerCause.list cause) s (returnToRun cause s) ∧
    LinkGrows s (returnToRun cause s) := by
  have hg : ∀ g, (returnToRun cause s).gauge g = (s.gauge g).released := fun g => by
    simp [returnToRun, State.gauge]
  refine ⟨fun g => ?_, by simp [returnToRun, State.setPower], ?_, ?_⟩
  · rw [hg g]
    simp only [Gauge.released, Gauge.track]
    refine ⟨fun h => ?_, fun h => ?_, fun h => ?_⟩ <;> cases hs : (s.gauge g).state <;> simp_all
  · have := handPowerState_first 3 cause s (s.setPower .run .stopped) (returnToRun cause s) (by simp) (by simp) (by simp)
      (by simp [returnToRun, PowerState.number, show code PowerState.list .parking = 3 from rfl])
    simpa [State.setPower, show code PowerState.list .run = 2 from rfl] using this
  · exact LinkGrows.trans (.of_lp (t := s.setPower .run .stopped) (by simp)) (LinkGrows.trans
      (show LinkGrows _ (handPowerState PowerState.parking.number cause _) from hand_link _ _ _ _)
      (.of_lp (by simp [returnToRun])))

/-- The completion of the proof hands on POWER STATE before every other report (R164). -/
theorem finishProof_first (s : State) :
    ReportedFirst .powerState 2 0x0401 s (finishProof s) ∧ s.lp.queue <+: (finishProof s).lp.queue := by
  have hrest : ∀ u : State, u.lp.queue <+: (judgeLamps (lineAtRun u)).lp.queue := fun u => by
    simpa [lineAtRun] using (decideLine_link (u.setAnu { u.anu with proofHold := false })).1
  refine ⟨?_, ?_⟩
  · have := handPowerState_first 1 .proofDone s (s.setPower .run .stopped) (finishProof s) (by simp) (by simp) (by simp)
      (hrest _)
    simpa [State.setPower, show code PowerState.list .run = 2 from rfl, show code PowerCause.list .proofDone = 4 from rfl]
      using this
  · refine List.IsPrefix.trans ?_ (hrest _)
    simpa using (show LinkGrows _ (handPowerState _ _ _) from hand_link _ _ _ (s.setPower .run .stopped)).1

/-- The entry to SLEEP hands on POWER STATE before every other report, and stops the scan (R168, R29). -/
theorem enterSleep_spec (s : State) :
    ReportedFirst .powerState 0 0x0703 s (enterSleep s) ∧ s.lp.queue <+: (enterSleep s).lp.queue ∧
    (s.ssu.mode ≠ .stopped → ScanHasStopped s.entry s (enterSleep s)) ∧
    (s.ssu.mode = .stopped → (enterSleep s).qt = s.qt) := by
  obtain ⟨u, hu⟩ : ∃ u, u = handPowerState PowerState.parking.number .gaugesParked (s.setPower .sleep .stopped) :=
    ⟨_, rfl⟩
  have hus : s.lp.queue <+: u.lp.queue := by
    rw [hu]
    simpa using (show LinkGrows _ (handPowerState _ _ _) from hand_link _ _ _ (s.setPower .sleep .stopped)).1
  have hline : ∀ v : State, v.lp.queue <+: (lineAtSleep v).lp.queue := fun v => by
    have := foldl_keeps (LinkGrows v) (fun t e => tellLink e t) (fun t e h => h.trans (tellLink_link e t)) v.anu.entries v
      (.of_lp rfl)
    simpa [lineAtSleep] using this.1
  have hrest : (scanAtSleep u).lp.queue <+: (enterSleep s).lp.queue := by
    simpa [enterSleep, judgeAttention, hu] using hline (warningsAtSleep (gaugesAtSleep (scanAtSleep u)))
  have hqt : (enterSleep s).qt = (scanAtSleep u).qt := by simp [enterSleep, judgeAttention, hu]
  have hscan := scanAtSleep_stops u
  refine ⟨?_, hus.trans (hscan.2.2.trans hrest), fun h => ?_, fun h => ?_⟩
  · have := handPowerState_first 3 .gaugesParked s (s.setPower .sleep .stopped) (enterSleep s) (by simp) (by simp) (by simp)
      (by
        have := hscan.2.2.trans hrest
        rwa [hu] at this)
    simpa [State.setPower, show code PowerState.list .sleep = 0 from rfl, show code PowerCause.list .gaugesParked = 7 from rfl]
      using this
  · obtain ⟨h1, h2⟩ := hscan.1 (by simpa [hu] using h)
    have hentry : ∀ q, u.entry q = s.entry q := fun q => by simp [State.entry, hu]
    have hcfg : u.cfg = s.cfg := by simp [hu]
    refine ⟨fun q f hf => ⟨?_, fun hv => ?_⟩, fun q hq => ?_⟩
    · rw [show (enterSleep s).entry q = (scanAtSleep u).entry q by simp [State.entry, hqt], ← hentry]
      exact (h1 q f (by rw [hcfg]; exact hf)).1
    · exact ((h1 q f (by rw [hcfg]; exact hf)).2 (by rw [hentry]; exact hv)).widen hus (by rw [hcfg])
        (by simp [enterSleep, judgeAttention, Duty.unmarked, hu]) hrest
    · rw [show (enterSleep s).entry q = (scanAtSleep u).entry q by simp [State.entry, hqt], ← hentry]
      exact h2 q (by rw [hcfg]; exact hq)
  · rw [hqt, hscan.2.1 (by simpa [hu] using h), hu]
    simp

/-- The judgement of the power state takes no record out of the queue. -/
theorem judgePower_queue (s : State) : s.lp.queue <+: (judgePower s).lp.queue := by
  simp only [judgePower]
  (repeat' split)
  · exact (finishProof_first s).2
  · exact List.prefix_rfl
  · exact (enterSleep_spec s).2.1
  all_goals exact List.prefix_rfl

end Sys2Proof.Machine
end

