-- ==== Sys2Proof/Laws/Rendering.lean ====
section
/-! SUPPORT. Rendering: decimal texts digit by digit, what a placeholder writes, and what each column of a rendered message
holds. -/
namespace Sys2Proof.Machine

/-! ### Decimal texts -/

/-- The digits of a number stand before those gathered already. -/
theorem toDigitsCore_append (fuel n : Nat) (ds : List Char) :
    Nat.toDigitsCore 10 fuel n ds = Nat.toDigitsCore 10 fuel n [] ++ ds := by
  induction fuel generalizing n ds with
  | zero => simp [Nat.toDigitsCore]
  | succ f ih =>
    simp only [Nat.toDigitsCore]
    split
    · simp
    · rw [ih, ih (n / 10) [_]]
      simp

/-- Any fuel above the number gives its digits. -/
theorem toDigitsCore_fuel (f g n : Nat) (hf : n < f) (hg : n < g) :
    Nat.toDigitsCore 10 f n [] = Nat.toDigitsCore 10 g n [] := by
  induction f generalizing n g with
  | zero => omega
  | succ f ih =>
    cases g with
    | zero => omega
    | succ g =>
      simp only [Nat.toDigitsCore]
      split
      · rfl
      · rw [toDigitsCore_append, toDigitsCore_append g, ih g (n / 10) (by omega) (by omega)]

theorem digitChar_byte (n : Nat) (h : n < 10) : byte (Nat.digitChar n).toNat = byte (48 + n) := by
  have all : ∀ n : Fin 10, byte (Nat.digitChar n.val).toNat = byte (48 + n.val) := by decide
  exact all ⟨n, h⟩

/-- A number in decimal is its tenth in decimal, where that is not 0, and its last digit (R135). -/
theorem decimal_step (n : Nat) : decimal n = (if n < 10 then [] else decimal (n / 10)) ++ [byte (48 + n % 10)] := by
  simp only [decimal, Nat.toDigits]
  conv => lhs; rw [Nat.toDigitsCore]
  rw [← digitChar_byte _ (Nat.mod_lt _ (by decide))]
  by_cases h : n < 10
  · simp [h, show n / 10 = 0 by omega]
  · simp only [show n / 10 ≠ 0 by omega, if_false, h]
    rw [toDigitsCore_append, List.map_append, toDigitsCore_fuel n (n / 10 + 1) (n / 10) (by omega) (by omega)]
    rfl

/-! ### Columns -/

/-- A placeholder occupies a column (R134). -/
def Placeholder.covers (p : Placeholder) (j : Fin 16) : Prop := p.start ≤ j.val + 1 ∧ j.val + 1 < p.start + p.width

@[simp] theorem fitted_length (width : Nat) (text : Option (List Byte)) : (fitted width text).length = width := by
  unfold fitted
  split
  · simp
  · split <;> simp
    omega

/-- Each column of a fitted text: a dash, a star, a space, or the character of the text set to the right (R135). -/
theorem fitted_get (width : Nat) (text : Option (List Byte)) (n : Nat) (h : n < width) :
    (fitted width text).getD n 0 =
      match text with
      | none => 0x2D#8
      | some bytes =>
        if width < bytes.length then 0x2A#8
        else if n + bytes.length < width then 0x20#8 else bytes.getD (n + bytes.length - width) 0 := by
  unfold fitted
  split
  · simp [h, minusSign]
  · next bytes =>
    by_cases hw : width < bytes.length
    · simp [hw, h]
    · simp only [hw, if_false]
      by_cases hn : n + bytes.length < width
      · simp [hn, List.getElem?_append_left, show n < width - bytes.length by omega, space]
      · rw [List.getD_eq_getElem?_getD, List.getElem?_append_right (by simp; omega)]
        simp [hn, show n - (width - bytes.length) = n + bytes.length - width by omega]

/-- What writing one placeholder leaves in each column. -/
theorem fill_get (s : State) (chars : Table 16 Byte) (p : Placeholder) (j : Fin 16) :
    (p.covers j → (s.fill chars p).get j = (fitted p.width (s.fieldText p)).getD (j.val + 1 - p.start) 0) ∧
    (¬p.covers j → (s.fill chars p).get j = chars.get j) := by
  have hl := fitted_length p.width (s.fieldText p)
  simp only [State.fill, Table.get_mapIdx, Placeholder.covers]
  constructor
  · rintro ⟨h1, h2⟩
    rw [if_pos h1, List.getD_eq_getElem?_getD, List.getD_eq_getElem?_getD, List.getElem?_eq_getElem (by omega)]
    simp
  · intro h
    by_cases h1 : p.start ≤ j.val + 1
    · rw [if_pos h1, List.getD_eq_getElem?_getD, List.getElem?_eq_none (by omega)]
      simp
    · rw [if_neg h1]

/-- A column that no placeholder occupies keeps the message's own character (R135). -/
theorem rendered_free (s : State) (m : Fin 64) (j : Fin 16)
    (h : ∀ p ∈ (s.cfg.messages.get m).placeholders, ¬p.covers j) :
    (s.rendered m).get j = (s.cfg.messages.get m).chars.get j := by
  have all : ∀ (ps : List Placeholder) (chars : Table 16 Byte), (∀ p ∈ ps, ¬p.covers j) →
      (ps.foldl s.fill chars).get j = chars.get j := by
    intro ps
    induction ps with
    | nil => intro _ _; rfl
    | cons p ps ih =>
      intro chars hp
      rw [List.foldl_cons, ih _ fun q hq => hp q (List.mem_cons_of_mem _ hq)]
      exact (fill_get s chars p j).2 (hp p List.mem_cons_self)
  exact all _ _ h

/-- A column that one placeholder alone occupies holds that placeholder's fitted text (R135). -/
theorem rendered_covered (s : State) (m : Fin 64) (j : Fin 16) (p : Placeholder)
    (hp : p ∈ (s.cfg.messages.get m).placeholders) (hj : p.covers j)
    (hq : ∀ q ∈ (s.cfg.messages.get m).placeholders, q = p ∨ ¬q.covers j) :
    (s.rendered m).get j = (fitted p.width (s.fieldText p)).getD (j.val + 1 - p.start) 0 := by
  have all : ∀ (ps : List Placeholder) (chars : Table 16 Byte), (∀ q ∈ ps, q = p ∨ ¬q.covers j) →
      p ∈ ps ∨ chars.get j = (fitted p.width (s.fieldText p)).getD (j.val + 1 - p.start) 0 →
      (ps.foldl s.fill chars).get j = (fitted p.width (s.fieldText p)).getD (j.val + 1 - p.start) 0 := by
    intro ps
    induction ps with
    | nil =>
      intro chars _ h
      exact h.resolve_left List.not_mem_nil
    | cons q ps ih =>
      intro chars hqs h
      rw [List.foldl_cons]
      refine ih _ (fun r hr => hqs r (List.mem_cons_of_mem _ hr)) ?_
      by_cases hqp : q = p
      · subst hqp
        exact Or.inr ((fill_get s chars q j).1 hj)
      · have hn := (hqs q List.mem_cons_self).resolve_left hqp
        rw [(fill_get s chars q j).2 hn]
        exact h.imp_left fun hm => (List.mem_cons.mp hm).resolve_left fun e => hqp e.symm
  exact all _ _ hq (Or.inl hp)

end Sys2Proof.Machine
end

