-- ==== Sys2Proof/Laws/Resets.lean ====
section
/-! SUPPORT. The load that a reset makes: what the store gives, and the settings and the store that the resets leave. -/
namespace Sys2Proof.Machine

/-- The load of a reset takes the image when it may, and the defaults otherwise (R190, R191). -/
theorem afterReset_loads (s : State) : s.resetLoads s.cs.afterReset.loaded s.cs.afterReset.invalid := by
  refine ⟨fun c h1 h2 => ⟨?_, ?_⟩, fun h => ?_⟩
  · simp [Store.afterReset, Store.abandoned, h1, h2, Store.loadFails, StoredImage.read]
  · simp only [Store.afterReset, Store.abandoned, h1, h2, Store.loaded, StoredImage.read, Store.locked]
    cases s.cs.lock <;> simp
  · have hread : s.cs.abandoned.image.read = none ∧ s.cs.abandoned.lock = s.cs.lock := by
      cases hs : s.cs.saving with
      | some x => simp [Store.abandoned, hs]
      | none =>
        simp only [Store.abandoned, hs]
        rcases h with h | h | ⟨c, k, h, hk⟩
        · exact absurd hs h
        · simp [h, StoredImage.read]
        · simp [h, StoredImage.read, Ne.symm hk]
    refine ⟨by simp [Store.afterReset, Store.loadFails, hread.1], ?_⟩
    simp only [Store.afterReset, Store.loaded, hread.1, hread.2, Store.locked]
    cases s.cs.lock <;> rfl

/-- LINK RESET loads, and keeps the active limit sets (R188, R112). -/
theorem linkReset_loads (keyOn : Bool) (s : State) : (linkReset keyOn s).cs = s.cs.afterReset ∧
    (linkReset keyOn s).cfg =
      { s.cs.afterReset.loaded with duty := { s.cs.afterReset.loaded.duty with limits := s.cfg.duty.limits } } := by
  simp only [linkReset, choosePower, writeDerivedIfPresent]
  (repeat' split) <;> simp [resetBlocks]

/-- POWER-ON loads (R190). -/
theorem powerOn_loads (keyOn : Bool) (s : State) :
    (powerOn keyOn s).cs = s.cs.afterReset ∧ (powerOn keyOn s).cfg = s.cs.afterReset.loaded := by
  simp only [powerOn, choosePower]
  split <;> simp [resetBlocks]

end Sys2Proof.Machine
end

