-- ==== Sys2Proof/Tests/Slice0.lean ====
section
/-! SUPPORT. The model's own tests: the well-formedness smoke, values that the manual works out, and for every statement of
Certificates/Slice0/Obligations.lean a concrete state and operands that meet its hypotheses, at the boundaries of its
clauses. -/
set_option Elab.async false
namespace Sys2Proof.Machine.Tests

/-! ### States -/

/-- The state after reset in a power state, with an empty report queue. -/
def at_ (p : PowerState) : State :=
  (State.reset.setPsc ⟨p, if p = .proving then .running 3000000 else .stopped, true, true, 3, 10000⟩).setLp
    { State.reset.lp with queue := [], attention := false }

/-- RUN, with the settings changed. -/
def runWith (f : Settings → Settings) : State := (at_ .run).setCfg (f (at_ .run).cfg)

/-- Every gauge given one state and a position. -/
def allGauges (x : GaugeState) (p : Option Nat) (s : State) : State :=
  s.setGdu (.replicate 6 { s.gauge 0 with state := x, position := p })

/-- Slot 1 with a card, DRIVING. -/
def withCard (a : Activity) (s : State) : State := s.setSlot 0 { s.slot 0 with card := some 7#32, activity := a }

/-- An entry of host announcement 0. -/
def hostEntry (h : Fin 8) (level arrival : Nat) : Entry := ⟨.host h, .hostMessage, level, 0, .none, .normal, arrival, false⟩

/-- A shown entry without timers. -/
def shownAs (e : Entry) (s : State) : State := s.setShown (some ⟨e, none, none, none⟩)

/-- A sixteen-entry queue of warnings' entries. -/
def fullQueue : List Entry :=
  (List.finRange 48).take 16 |>.map fun w => ⟨.warning w, .infoWarning, 5, 0, .none, .normal, w.val + 1, false⟩

/-- A report record for queues. -/
def aReport : Report := ⟨.saveDone, 0, 0, 0, false⟩

/-- The next state of an outcome, compared as data. -/
def nextOf : Host.Outcome State Fault Refusal → Option State
  | .next t => some t
  | _ => none

/-- The records in the queue after a command. -/
def recordsOf (o : Host.Outcome State Fault Refusal) : List (ReportKind × Byte × BitVec 16) :=
  match o with
  | .next t => t.lp.queue.map fun r => (r.kind, r.subject, r.detail)
  | _ => []

/-- The part is powered and no reply is being sent. -/
def runs (s : State) : Bool := s.powered && decide (s.lp.reply = none)

/-! ### Well-formedness: an ill-formed command for each check -/

theorem test_wf_body_of_241_bytes : wellFormed (.status 0 (List.replicate 241 0)) = false := by decide +kernel
theorem test_wf_body_of_240_bytes : wellFormed (.status 0 (List.replicate 240 0)) = true := by decide +kernel
theorem test_wf_length_byte_in_range : wellFormed (.badLengthByte 2) = false ∧ wellFormed (.badLengthByte 242) = false := by
  decide +kernel
theorem test_wf_length_byte_out_of_range : wellFormed (.badLengthByte 1) = true ∧ wellFormed (.badLengthByte 243) = true := by
  decide +kernel
theorem test_wf_known_kind_as_unknown : wellFormed (.unknownRequest 0 0x53) = false := by decide +kernel
theorem test_wf_unknown_kind : wellFormed (.unknownRequest 0 0x07) = true := by decide +kernel

/-! ### Tables of the manual -/

theorem test_requests_follow_the_kinds : requests.map Request.kind = requestKinds := by decide +kernel
theorem test_kinds_are_distinct : requestKinds.Nodup ∧ requestKinds.length = 58 := by decide +kernel
theorem test_no_word_spells_a_command : decodeTableWord 8 0x01 = none ∧ State.reset.withFetchWord 8 1 = State.reset := by
  decide +kernel

/-- POWER_ON of the machine after reset, with the key off, is the state after reset. -/
theorem test_power_on_gives_the_reset_state : nextOf (exec (.powerOn false) State.reset) = some State.reset := by decide +kernel

/-- The four computations of R7's table. -/
theorem test_r7_table :
    (⟨0, 0, 1023, 3, 2048, -100⟩ : ScanFields).scaled 512 = 924 ∧ (⟨0, 0, 1023, 3, -700, 0⟩ : ScanFields).scaled 3 = -2 ∧
    (⟨0, 0, 1023, 3, 32767, 500⟩ : ScanFields).scaled 1000 = 32499 ∧
    (⟨0, 0, 1023, 3, 32767, 32767⟩ : ScanFields).scaled 1023 = 32767 := by decide +kernel

/-- The mapping that follows R39. -/
theorem test_r39_example : (⟨[(0, 100), (2700, 2800)], 100, 2800⟩ : Calibration).map 1100 = 1200 := by decide +kernel

/-- The filter of depth 4 in chapter 2, conversions 4 and 5. -/
theorem test_filter_of_depth_4 :
    filteredValue (joinFilter 4 496 [500, 508, 1023]) = 631 ∧ filteredValue (joinFilter 4 504 [500, 508, 1023, 496]) = 632 := by
  decide +kernel

/-- The stopping distances of chapter 3's worked sequence. -/
theorem test_stopping_distances : stoppingDistance 10000 1000000 = 51 ∧ stoppingDistance 6000 360000 = 31 := by decide +kernel

/-- The texts of R135's table. -/
theorem test_r135_table :
    fitted 5 (some (hoursText 135)) = word " 2:15" ∧ fitted 5 (some (hoursText (-20))) = word "-0:20" ∧
    fitted 6 (some (hoursText 32767)) = word "546:07" ∧ fitted 5 (some (hoursText 32767)) = word "*****" ∧
    fitted 3 (some (integerText (-5))) = word " -5" ∧ fitted 4 (some (integerText 12345)) = word "****" ∧
    fitted 4 (some Activity.available.word) = word "****" ∧ fitted 3 none = word "---" := by decide +kernel

/-- The cyclic check with polynomial 0x1021 and preset 0xFFFF over the digits 1 to 9. -/
theorem test_check_value : checkValue (word "123456789") = 0x29B1#16 := by decide +kernel

/-- The bytes of a STATUS request, one after another, begin its reply. -/
theorem test_status_frame_received :
    ((requestFrame 9 0x02 []).foldl (fun t b => receiveByte b t) (at_ .run)).lp.reply =
      some ⟨9, 0x02, .ok, (at_ .run).statusReadout⟩ := by decide +kernel

/-! ### Witnesses: the queue, supply and the link -/

/-- A pass under way at W0 with a criterion of three terms, of which some have been read. -/
def reading (values : List Nat) : State :=
  let s := runWith fun c => { c with
    criteria := c.criteria.set 0 [[⟨.constant 9, false⟩, ⟨.constant 7, true⟩], [⟨.constant 3, false⟩]] }
  s.setWeu { s.weu with pass := some ⟨0, 20, false, values⟩ }

/-- The values read in one criterion stand clause by clause, those read before as they were read. -/
theorem test_w2_w38_read : (reading [1]).weu.pass = some ⟨0, 20, false, [1]⟩ ∧ (reading [1]).pending = [] ∧
    ((reading [1]).readOn ((reading [1]).cfg.criteria.get 0) [1] 1) = [1, 248] ∧
    ([1] : List Nat).length ≤ ((reading [1]).cfg.criteria.get 0).flatten.length ∧
    (match exec .criterionEvaluation (reading [1]) with
      | .next t => t.weu.strengths.get 0
      | _ => .notEvaluated) = ⟨true, 3, [1, 3], [[1, 248], [3]], 0⟩ := by decide +kernel

theorem test_w1_w2_queue : (State.reset.setPending [.lineRefresh, .passStart]).pending = [.lineRefresh, .passStart] ∧
    State.reset.pending = [] := by decide +kernel

/-- A store that saves and one without an image. -/
theorem test_w4_stores : ((at_ .run).setCs ⟨.absent, none, true, some .builtIn⟩).cs.saving = some .builtIn ∧
    State.reset.cs.image = .absent ∧ State.reset.cs.saving = none ∧ State.reset.powered = true ∧
    (powerOn false State.reset).cfg.routes.get 20 = .urgent := by decide +kernel
/-- A store whose image matches, and one whose image does not; only the first loads. -/
theorem test_w4_images :
    ((at_ .run).setCs ⟨.written .builtIn, none, false, none⟩).cs.image = .held .builtIn Settings.builtIn.check ∧
    ((at_ .run).setCs ⟨.written .builtIn, none, false, none⟩).cs.loadFails = false ∧
    (∃ c k, ((at_ .run).setCs ⟨.brokenOff .builtIn, none, true, none⟩).cs.image = .held c k ∧ k ≠ c.check) ∧
    ((at_ .run).setCs ⟨.brokenOff .builtIn, none, true, none⟩).cs.loadFails = true := by
  refine ⟨rfl, by simp [Store.loadFails], ?_, by simp [Store.loadFails]⟩
  obtain ⟨k, h⟩ := StoredImage.brokenOff_mismatch .builtIn
  exact ⟨.builtIn, k, h⟩

/-- A loss of supply leaves a machine without supply, on which a command other than POWER_ON has no effect. -/
theorem test_w4_without_supply : (loseSupply (at_ .run)).powered = false ∧
    nextOf (exec .lineRefresh (loseSupply (at_ .run))) = some (loseSupply (at_ .run)) := by decide +kernel

def routed (r : Route) : State := runWith fun c => { c with routes := .replicate 27 r }

theorem test_w5_routes :
    (routed .off).cfg.routes.get (routeIndex .saveDone .stop) = .off ∧
    (routed .afterShown).cfg.routes.get (routeIndex .warningRaised .info) = .afterShown ∧
    (at_ .run).cfg.routes.get (routeIndex .saveDone .stop) = .post ∧
    (at_ .run).cfg.routes.get (routeIndex .gaugeFault .stop) = .urgent := by decide +kernel

/-- A queue of 31 records has room and one of 32 has none; a held record is found by its warning. -/
theorem test_w5_queue_bounds :
    (hand .saveDone 0 0 ((at_ .run).setLp { (at_ .run).lp with queue := List.replicate 31 aReport })).lp.queue.length = 32 ∧
    (hand .saveDone 0 0 ((at_ .run).setLp { (at_ .run).lp with queue := List.replicate 32 aReport })).lp.overflow = true ∧
    [(⟨.warningRaised, 47, 0, 0, false⟩ : Report)].find? (fun h => decide (h.subject = BitVec.ofNat 8 (47 : Fin 48).val)) =
      some ⟨.warningRaised, 47, 0, 0, false⟩ := by decide +kernel

/-- LINK LOST ends at a good frame. -/
theorem test_w6_link_lost :
    ((at_ .run).setLp { (at_ .run).lp with lostSince := some 0 }).linkLost = true ∧
    (goodFrame ((at_ .run).setLp { (at_ .run).lp with lostSince := some 0 })).linkLost = false := by decide +kernel

theorem test_w7_w8_frames : frame (.status 1 []) = some (1, 2, []) ∧ (at_ .run).powered = true ∧
    (at_ .run).lp.receiver = .hunting ∧ (List.replicate 240 (0 : Byte)).length ≤ 240 := by decide +kernel

/-- The phases of the receiver, the bounds of LENGTH, and a frame whose CHECK matches and one whose does not. -/
theorem test_w9_phases :
    (receiveByte 0xC5 (at_ .run)).lp.receiver = .length ∧ (receiveByte 0xC4 (at_ .run)).lp.receiver = .hunting ∧
    (receiveByte 2 (receiveByte 0xC5 (at_ .run))).lp.receiver = .frame 2 [] ∧
    (receiveByte 242 (receiveByte 0xC5 (at_ .run))).lp.receiver = .frame 242 [] ∧
    (receiveByte 1 (receiveByte 0xC5 (at_ .run))).lp.receiver = .hunting ∧
    (receiveByte 243 (receiveByte 0xC5 (at_ .run))).lp.receiver = .hunting := by decide +kernel
theorem test_w9_check : checkValue [2, 1, 2] = (checkValue [2, 1, 2]).extractLsb' 8 8 ++ (checkValue [2, 1, 2]).extractLsb' 0 8 ∧
    checkValue [2, 1, 2] ≠ (0#8 ++ 0#8 : BitVec 16) ∧ ([1, 2, 0] ++ [0] : List Byte) = 1 :: 2 :: [] ++ [0, 0] := by
  decide +kernel

theorem test_w10_discards : ((0 : Byte).toNat < 2 ∨ 242 < (0 : Byte).toNat) ∧ ((255 : Byte).toNat < 2 ∨ 242 < (255 : Byte).toNat) ∧
    (receiveByte 0xC5 (at_ .run)).lp.byteDue = some 10000 ∧
    ((at_ .run).setLp { (at_ .run).lp with reply := some ⟨1, 2, .ok, []⟩ }).lp.reply = some ⟨1, 2, .ok, []⟩ := by
  decide +kernel

/-- Kinds and bodies for each check of R175, and a refusal. -/
theorem test_w11_checks : (0x07#8 ∉ requestKinds) ∧ statusRequest.fits [0] = false ∧ scanStartRequest.fits [] = true ∧
    runs (at_ .sleep) = true ∧
    scanStartRequest.kind ∉ [0x01#8, 0x02#8, 0x03#8, 0x06#8, 0x09#8, 0x42#8, 0x43#8, 0x44#8, 0x45#8] ∧
    (fetchReportsRequest.judge [33] (at_ .run)).status.refusal = true := by decide +kernel
theorem test_w11_membership : statusRequest ∈ requests ∧ scanStartRequest ∈ requests ∧ fetchReportsRequest ∈ requests := by
  simp [requests]
theorem test_w11_saving : ((at_ .run).setCs ⟨.absent, none, true, some .builtIn⟩).saving = true ∧
    configurePowerRequest.fits [3, 255] = true ∧ runs (at_ .run) = true := by decide +kernel

theorem test_w12_silence : ((at_ .run).setLp { (at_ .run).lp with silenceDue := some 500000 }).lp.silenceDue = some 500000 ∧
    ((runWith fun c => { c with lamps := c.lamps.set 0 ⟨.host, false⟩ }).cfg.lamps.get 0).mode = .host := by decide +kernel
/-- LINK LOST with the default timeout of 500 ms, in units of 10 ms. -/
theorem test_w12_report : (at_ .run).cfg.routes.get (routeIndex .linkLost .stop) = .post ∧
    (match exec .silenceExpiry ((at_ .run).setLp { (at_ .run).lp with silenceDue := some 500000 }) with
      | .next t => t.lp.queue
      | _ => []) = [⟨.linkLost, 0, 50, 0, false⟩] := by decide +kernel
theorem test_w12_kept : (at_ .run).announcementsKept := by
  unfold State.announcementsKept
  decide +kernel

theorem test_w13_replies :
    ((at_ .run).setLp { (at_ .run).lp with reply := some ⟨1, 0x06, .ok, []⟩ }).lp.reply = some ⟨1, 0x06, .ok, []⟩ ∧
    (withCard .driving (at_ .run)).anyDriving = true ∧ (at_ .run).anyDriving = false := by decide +kernel

/-- A LINK RESET in RUN with a card in slot 1, from a store that holds an image. -/
def relinked (image : StoredImage) : State := linkReset true ((withCard .rest (at_ .run)).setCs ⟨image, none, false, none⟩)

/-- The defaults where there is no image, and the derived quantities of the PRESENT slot. -/
theorem test_w13_defaults : (relinked .absent).cs.invalid = true ∧
    ((relinked .absent).entry 44).status = .valid ∧ ((relinked .absent).entry 44).value = 270 ∧
    ((relinked .absent).entry 45).status = .valid ∧ ((relinked .absent).entry 46).status = .absent := by decide +kernel
/-- The image where its check value matches, and the defaults where it does not. -/
theorem test_w13_images (x : Settings) : (relinked (.written x)).cfg.power = x.power ∧
    (relinked (.written x)).cs.invalid = false ∧ (relinked (.brokenOff x)).cfg.power = Settings.builtIn.power ∧
    (relinked (.brokenOff x)).cs.invalid = true := by
  simp only [relinked, linkReset_loads]
  simp [Store.afterReset, Store.abandoned, Store.loadFails, Store.loaded, Store.locked]

theorem test_w14_counts : 1 ≤ (1 : Byte).toNat ∧ (32 : Byte).toNat ≤ 32 ∧ (0 : Byte).toNat = 0 ∧ 32 < (33 : Byte).toNat ∧
    runs (at_ .run) = true := by decide +kernel

/-- The part listens, is awake and may be configured. -/
theorem test_w_configurable : (at_ .run).configurable := ⟨⟨⟨rfl, rfl⟩, by decide⟩, rfl⟩

/-- A list of bytes with one changed. -/
def but (l : List Byte) (i : Nat) (b : Byte) : List Byte := l.set i b

/-- Fields outside what their rules allow, each at its bound, are not read. -/
theorem test_w15_unreadable : readRouteChange [0, 0, 0] = none ∧ readRouteChange [26, 0, 0] = none ∧
    readRouteChange [1, 0, 4] = none ∧ readRouteChange [7, 3, 0] = none ∧ readRouteChange [6, 0, 3] = none ∧
    readPowerSettings [0, 255] = none ∧ readPowerSettings [6, 255] = none ∧ readPowerSettings [5, 64] = none ∧
    readPowerSettings [5, 254] = none ∧ readLinkSettings [1, 1] = none ∧ readLinkSettings [9, 1] = none ∧
    readLinkSettings [201, 1] = none ∧ readLinkSettings [0, 0] = none ∧ readLinkSettings [0, 33] = none ∧
    readOptIndex 48 48 = none ∧ readOptIndex 48 254 = none ∧ readShape (32 :: Shape.builtIn.bytes) = none ∧
    readShape (but (0 :: Shape.builtIn.bytes) 1 48) = none ∧ readShape (but (0 :: Shape.builtIn.bytes) 10 4) = none ∧
    readShape (0 :: (⟨none, 1, 0, 0, 0, false, false, 0⟩ : Shape).bytes) = none ∧
    readDutyMessages (but (List.replicate 32 0) 30 64) = none ∧ readDutyMessages (but (List.replicate 32 0) 31 5) = none := by
  decide +kernel

theorem test_w15_bodies : readRouteChange [0x07, 0, 3] = some (6, .afterShown) ∧ readPowerSettings [5, 255] = some ⟨5, none⟩ ∧
    readShape (31 :: Shape.builtIn.bytes) = some (31, .builtIn) ∧ readOptIndex 48 47 = some (some 47) ∧
    readDutyMessages (List.replicate 32 0) = some (.replicate 16 ⟨some 0, .none⟩) ∧
    readLinkSettings [0, 1] = some ⟨0, 1⟩ ∧ readLinkSettings [10, 32] = some ⟨100, 32⟩ ∧
    readLinkSettings [200, 1] = some ⟨2000, 1⟩ := by decide +kernel

/-! ### Witnesses: power states and the store -/

theorem test_w16_states : (at_ .sleep).psc.state = .sleep ∧ (at_ .proving).psc.state = .proving ∧
    (at_ .parking).psc.state = .parking ∧ (withCard .driving (at_ .run)).anyDriving = true ∧
    ((allGauges .tracking (some 5) (at_ .run)).gauge 0).state = .tracking ∧
    ((allGauges .homing none (at_ .run)).gauge 0).state = .homing ∧
    (enterParkingState (at_ .run)).psc.state = .sleep ∧
    (enterParkingState (allGauges .tracking (some 5) (at_ .run))).psc.state = .parking := by decide +kernel

/-- The records of a SLEEP that finds GAUGES PARKED, of the wakings from SLEEP and of the return to RUN. -/
theorem test_w16_records :
    recordsOf (exec (.sleep 1 []) (at_ .run)) = [(.powerState, 3, 0x0502), (.powerState, 0, 0x0703)] ∧
    recordsOf (exec (.sleep 1 []) (allGauges .tracking (some 5) (at_ .run))) = [(.powerState, 3, 0x0502)] ∧
    recordsOf (exec (.wake 1 []) (at_ .sleep)) = [(.powerState, 1, 0x0300)] ∧
    recordsOf (exec (.wake 1 []) (at_ .parking)) = [(.powerState, 2, 0x0303)] := by decide +kernel
theorem test_w19_records :
    recordsOf (exec (.keySample true) ((at_ .sleep).setPsc ⟨.sleep, .stopped, false, true, 2, 10000⟩)) =
      [(.powerState, 1, 0x0200)] ∧
    recordsOf (exec (.keySample true) ((at_ .parking).setPsc ⟨.parking, .stopped, false, true, 2, 10000⟩)) =
      [(.powerState, 2, 0x0203)] := by decide +kernel
theorem test_w20_records :
    recordsOf (exec .proofTimerExpiry (at_ .proving)) = [(.powerState, 2, 0x0401)] ∧
    recordsOf (exec .entryToSleep (at_ .parking)) = [(.powerState, 0, 0x0703)] ∧
    recordsOf (exec (.dutyActivity 1 [1, 0]) (withCard .rest (at_ .parking))) = [(.powerState, 2, 0x0603)] := by
  decide +kernel

theorem test_w17_wake : (at_ .sleep).cfg.routes.get 20 = .urgent ∧ (goodFrame (at_ .sleep)).lp.queue.length < 32 ∧
    ((allGauges .parking (some 5) (at_ .parking)).gauge 0).state = .parking ∧
    (returnToRun .wake (allGauges .parking (some 5) (at_ .parking))).psc.state = .run := by decide +kernel

/-- The entry to PROVING with an autostart, a proved lamp and nothing shown. -/
theorem test_w18_proving :
    let s := (at_ .sleep).setCfg { (at_ .sleep).cfg with
      scan := ⟨[⟨0, .fast, 1⟩], 5, true⟩, lamps := (at_ .sleep).cfg.lamps.set 31 ⟨.off, true⟩ }
    s.anu.shown = none ∧ s.cfg.scan.autostart = true ∧ s.cfg.scan.list ≠ [] ∧ s.ssu.mode = .stopped ∧
    (s.cfg.lamps.get 31).proved = true ∧ (enterProving 0 .wake s).ssu.mode = .continuous := by decide +kernel

/-- Gauge 5 after the entry to PROVING, from a state and position, with its rehome and sweep flags and its coil-open
level. -/
def proved (x : GaugeState) (p : Nat) (rehome sweep coil : Bool) : Gauge :=
  let s := (at_ .sleep).setCfg { (at_ .sleep).cfg with
    gauges := .replicate 6 { GaugeSettings.builtIn with rehome := rehome, sweepAtProof := sweep } }
  (enterProving 0 .wake ((allGauges x (some p) s).setCoilOpen (.replicate 6 coil))).gauge 5

/-- The table of R60, with a sweep from below and from the maximum position, and the coil-open input of each state. -/
theorem test_w18_gauges : (proved .unhomed 0 false true false).state = .homing ∧
    (proved .parked 7 true true false).state = .homing ∧ (proved .fault 0 true true false).state = .homing ∧
    (proved .fault 0 false true false).state = .fault ∧ (proved .parked 7 false false false).state = .tracking ∧
    (proved .parked 7 false true false).move = some ⟨3000, 2500⟩ ∧
    (proved .parked 3000 false true false).move = some ⟨0, 2500⟩ ∧ (proved .parked 3000 false true false).sweepBack = true ∧
    (proved .unhomed 0 false true true).faultDetail = some .coilOpen ∧
    (proved .parked 7 false true true).faultDetail = some .coilOpen ∧
    (proved .fault 0 true true true).faultDetail = some .coilOpen := by decide +kernel

/-- The third sample in a row of a key turned on, in SLEEP and in PARKING, and of a key turned off. -/
theorem test_w19_key :
    nextOf (exec (.keySample true) ((at_ .sleep).setPsc ⟨.sleep, .stopped, false, true, 2, 10000⟩)) =
      some (keyOnEdge (((at_ .sleep).setPsc ⟨.sleep, .stopped, true, true, 3, 20000⟩).setNow 10000)) ∧
    nextOf (exec (.keySample false) ((at_ .parking).setPsc ⟨.parking, .stopped, true, false, 2, 10000⟩)) =
      some (((at_ .parking).setPsc ⟨.parking, .stopped, false, false, 3, 20000⟩).setNow 10000) := by decide +kernel

theorem test_w20_proof : (at_ .proving).psc.proof = .running 3000000 ∧ (at_ .proving).gaugesReady = true ∧
    (allGauges .homing none (at_ .proving)).gaugesReady = false ∧
    ((at_ .proving).setPsc ⟨.proving, .expired, true, true, 3, 10000⟩).psc.proof = .expired ∧
    (at_ .parking).gaugesParked = true ∧ (allGauges .tracking none (at_ .parking)).gaugesParked = false := by decide +kernel

theorem test_w21_store : ((at_ .run).setCs ⟨.absent, none, true, some .builtIn⟩).cs.saving = some .builtIn ∧
    (at_ .run).cs.invalid = true ∧ (at_ .run).cs.lock = none ∧
    ((at_ .run).setCs ⟨.absent, some Settings.builtIn.calibrationPart, false, none⟩).cs.lock.isSome = true := by
  decide +kernel

/-- What a failed save leaves, by the command's operand. -/
theorem test_w21_failed_saves : ImageLeft.image .previous .absent .builtIn = .absent ∧
    ImageLeft.image .written .absent .builtIn = .held .builtIn Settings.builtIn.check ∧
    ImageLeft.image .broken .absent .builtIn = .brokenOff .builtIn := ⟨rfl, rfl, rfl⟩

theorem test_w22_reads : (at_ .run).configurationItem 0 63 ≠ none ∧ (at_ .run).configurationItem 0 64 = none ∧
    (at_ .run).configurationItem 9 0 ≠ none ∧ (at_ .run).configurationItem 10 0 = none ∧
    (47 : Byte).toNat = (47 : Fin 48).val ∧ 48 ≤ (48 : Byte).toNat ∧ (5 : Byte).toNat = (5 : Fin 6).val ∧ 6 ≤ (6 : Byte).toNat ∧
    (2 : Byte).toNat = (1 : Fin 2).val + 1 ∧ 2 < (3 : Byte).toNat ∧ ([47] : List (Fin 48)).length = 1 ∧
    (List.replicate 16 (47 : Fin 48)).length = 16 := by decide +kernel

/-- READ DUTY in SLEEP. -/
theorem test_w22_asleep : runs (at_ .sleep) = true ∧ readDutyRequest.inSleep = true ∧
    (readDutyRequest.judge [2] (at_ .sleep)).status = .ok ∧ (readDutyRequest.judge [3] (at_ .sleep)).status = .range := by
  decide +kernel

/-! ### Witnesses: quantities and the scan -/

/-- Quantity 3 bound to input 2 with limits 20-1000 and a confirm count of 3. -/
def scanned : State := runWith fun c => { c with sources := c.sources.set 3 (.scan ⟨2, 20, 1000, 3, 1024, 0⟩) }
def scannedAs (st : QStatus) (out inn : Nat) : State :=
  scanned.setEntry 3 { scanned.entry 3 with status := st, outRun := out, inRun := inn }

theorem test_w23_scaled : scanned.cfg.sources.get 3 = .scan ⟨2, 20, 1000, 3, 1024, 0⟩ ∧
    ((deliver 2 20 20 3 scanned).entry 3).value = 20 ∧ ((deliver 2 1000 1000 3 (scannedAs .fault 3 2)).entry 3).value = 1000 ∧
    ((scannedAs .fault 3 2).entry 3).status = .fault := by decide +kernel

/-- Deliveries of chapter 1's worked sequence: a sample above the high limit, the third of a run, one below the low limit,
and the in-limit samples of a FAULT. -/
theorem test_w24_deliveries :
    ((deliver 2 1001 1001 3 (scannedAs .valid 1 0)).entry 3).status = .valid ∧
    ((deliver 2 1001 1001 3 (scannedAs .valid 2 0)).entry 3).status = .fault ∧
    ((deliver 2 19 19 3 (scannedAs .absent 2 0)).entry 3).status = .fault ∧
    ((deliver 2 500 500 3 (scannedAs .fault 3 1)).entry 3).status = .fault ∧
    ((deliver 2 500 500 3 (scannedAs .fault 3 2)).entry 3).status = .valid ∧
    ((deliver 2 500 500 3 (scannedAs .stale 0 0)).entry 3).status = .valid ∧
    ((deliver 2 1001 1001 3 (scannedAs .fault 3 2)).entry 3).inRun = 0 := by decide +kernel

/-- Quantity 5 written by the host, VALID since a time. -/
def linked (limit restarted : Nat) (st : QStatus) : State :=
  let s := runWith fun c => { c with sources := c.sources.set 5 (.link limit) }
  s.setEntry 5 { s.entry 5 with status := st, restarted := restarted }

theorem test_w25_bodies : readQuantityConfig (List.replicate 15 255) = none ∧
    readQuantityConfig (5 :: (QSource.link 20).bytes) = some (5, .link 20) ∧
    readQuantityConfig (3 :: (QSource.scan ⟨2, 20, 1000, 3, 1024, 0⟩).bytes) = some (3, .scan ⟨2, 20, 1000, 3, 1024, 0⟩) ∧
    (5 :: (QSource.link 20).bytes).length = 15 := by decide +kernel
theorem test_w25_clauses :
    (scanned.setCs ⟨.absent, some Settings.builtIn.calibrationPart, true, none⟩).sourceLocked 3 .none = true ∧
    scanned.sourceLocked 3 .none = false ∧ (QSource.link 0).same (.link 20) = true ∧ (QSource.none).same (.link 20) = false ∧
    ((linked 0 0 .valid).setNow 19999).now < 0 + 20 * 1000 ∧ 0 + 20 * 1000 ≤ ((linked 0 0 .valid).setNow 20000).now := by
  decide +kernel

theorem test_w26_pairs : (applyPair 48 0 (linked 0 0 .absent)).2 = .range ∧ (applyPair 0 0 (linked 0 0 .absent)).2 = .conflict ∧
    (applyPair 5 7 (linked 20 0 .fault)).2 = .ok ∧ (applyPair 133 7 (linked 20 0 .valid)).2 = .ok ∧
    (133 : Byte).toNat % 128 = (5 : Fin 48).val ∧ (applyPair 5 7 (linked 20 0 .fault)).1.lp.queue.length = 1 := by
  decide +kernel

def switched (st : QStatus) (run : Nat) : State :=
  let s := runWith fun c => { c with sources := c.sources.set 20 (.switch 3 20) }
  s.setEntry 20 { s.entry 20 with status := st, candidate := some true, candidateRun := run }

theorem test_w27_samples :
    ((linked 20 0 .valid).setEntry 5 { (linked 20 0 .valid).entry 5 with refreshDue := some 20000 }).entry 5 =
      ⟨0, .valid, 0, some 20000, 0, 0, none, 0⟩ ∧
    ((sampleSwitch 8 20 (switched .absent 1)).entry 20).status = .valid ∧
    ((sampleSwitch 8 20 (switched .absent 0)).entry 20).status = .absent ∧
    ((sampleSwitch 0 20 (switched .valid 2)).entry 20).candidateRun = 1 := by decide +kernel

/-- A list of a FAST and a SLOW entry. -/
def twoEntries : ScanSettings := ⟨[⟨0, .fast, 3⟩, ⟨15, .slow, 16⟩], 5, false⟩
def scanning (m : ScanMode) (remaining : List Nat) : State :=
  let s := runWith fun c => { c with scan := { twoEntries with list := twoEntries.list.map fun e => { e with depth := 1 } } }
  s.setSsu { s.ssu with
    mode := m, filters := [[], []], roundRobin := some 2, flight := some ⟨1, 50⟩, remaining := remaining, intervalDue := some 5000 }

theorem test_w28_scan_requests :
    readScanSettings (countedList ScanEntry.bytes twoEntries.list ++ [5, 0]) = some twoEntries ∧
    scanBodyFits (countedList ScanEntry.bytes twoEntries.list ++ [5, 0]) = true ∧
    coercedPositions twoEntries.list = [1] ∧ readScanSettings (17 :: List.replicate 53 0) = none ∧
    scanBodyFits (17 :: List.replicate 53 0) = true ∧ readScanSettings [0, 4, 0] = none ∧
    ((configureScanRequest.take 1 (countedList ScanEntry.bytes twoEntries.list ++ [5, 0]) (at_ .run)).lp.reply.map fun r =>
      (r.status, r.body)) = some (.coerced, [1, 1]) ∧
    (scanning (.once 1 2) []).ssu.mode = .once 1 2 ∧ (scanning .continuous []).ssu.mode ≠ .stopped ∧
    (at_ .run).cfg.scan.list = [] ∧ (scanning .stopped []).cfg.scan.list.length = 2 ∧ (scanning .stopped []).cfg.scan.list ≠ [] := by
  decide +kernel

/-- A scan that runs over a quantity that is VALID, and one that stands STOPPED. -/
def scannedIn (p : PowerState) (m : ScanMode) : State :=
  ((scannedAs .valid 2 1).setSsu { scanned.ssu with mode := m }).setPsc (at_ p).psc

/-- Quantity 3 after a command: its status and its run of out-of-limit samples. -/
def thirdOf (o : Host.Outcome State Fault Refusal) : QStatus × Nat :=
  match o with
  | .next t => ((t.entry 3).status, (t.entry 3).outRun)
  | _ => (.absent, 0)

/-- SCAN STOP and the entry to SLEEP, with the scan running and with it STOPPED. -/
theorem test_w28_w20_stops :
    thirdOf (exec (.scanStop 1 []) (scannedIn .run .continuous)) = (.stale, 0) ∧
    recordsOf (exec (.scanStop 1 []) (scannedIn .run .continuous)) = [(.quantityStale, 3, 1)] ∧
    thirdOf (exec .entryToSleep (scannedIn .parking .continuous)) = (.stale, 0) ∧
    recordsOf (exec .entryToSleep (scannedIn .parking .continuous)) = [(.powerState, 0, 0x0703), (.quantityStale, 3, 1)] ∧
    thirdOf (exec .entryToSleep (scannedIn .parking .stopped)) = (.valid, 2) := by decide +kernel

theorem test_w29_conversions :
    ((scanning .continuous []).setSsu { (scanning .continuous []).ssu with flight := none }).ssu.intervalDue = some 5000 ∧
    entryAt (scanning .continuous [2]).cfg.scan.list 1 = some ⟨0, .fast, 1⟩ ∧ (scanning .continuous [2]).ssu.remaining = 2 :: [] ∧
    (scanning (.once 1 1) []).ssu.remaining = [] ∧ (scanning .continuous [2]).ssu.flight = some ⟨1, 50⟩ := by decide +kernel

/-! ### Witnesses: gauges -/

theorem test_w30_breakpoints : strictlyIncreasing (GaugeSettings.builtIn.calibration.breakpoints.map Prod.fst) = true ∧
    GaugeSettings.builtIn.calibration.minPos < GaugeSettings.builtIn.calibration.maxPos ∧
    GaugeSettings.builtIn.calibration.map (-5) = 0 ∧ GaugeSettings.builtIn.calibration.map 3000 = 3000 ∧
    GaugeSettings.builtIn.calibration.map 4000 = 3000 ∧ GaugeSettings.builtIn.calibration.map 1 = 1 := by decide +kernel

/-- A gauge at 1000, at rest or moving up at 1000 microsteps/s. -/
def needle (m : Option Move) : Gauge :=
  { Gauge.afterReset ⟨1000, 10000⟩ with state := .tracking, position := some 1000, move := m }

/-- The cases of R44, at the nearest target that the stopping distance of 51 allows and one short of it. -/
theorem test_w31_targets : (needle none).takeTarget 1000 = needle none ∧
    (needle none).takeTarget 1001 = needle (some ⟨1001, 2500⟩) ∧
    (needle (some ⟨2000, 1000000⟩)).takeTarget 1051 = needle (some ⟨1051, 1000000⟩) ∧
    (needle (some ⟨2000, 1000000⟩)).takeTarget 1050 =
      { needle (some ⟨1051, 1000000⟩) with following := some 1050 } := by decide +kernel

def gaugeBody (c : GaugeSettings) : List Byte := 0x02#8 :: c.bytes
def changed : GaugeSettings := { GaugeSettings.builtIn with calibration := ⟨[(0, 0), (3000, 3000)], 1, 3000⟩, rest := 1, damping := 3 }

theorem test_w32_configure_gauge : readGaugeSettings (gaugeBody changed) = some (2, changed) ∧
    gaugeBodyFits (gaugeBody changed) = true ∧ changed.calibration ≠ ((at_ .run).cfg.gauges.get 2).calibration ∧
    (allGauges .tracking (some 0) (at_ .run)).rangeForbidden 2 changed = true ∧
    (allGauges .tracking (some 1) (at_ .run)).rangeForbidden 2 changed = false ∧
    (at_ .run).calibrationLocked 2 changed = false ∧ readGaugeSettings (6 :: changed.bytes) = none ∧
    gaugeBodyFits (6 :: changed.bytes) = true ∧
    ((configureGaugeRequest.take 1 (gaugeBody changed) (at_ .run)).lp.reply.map fun r => (r.status, r.body)) =
      some (.coerced, [1]) := by decide +kernel

theorem test_w33_gauge_requests : (at_ .run).coilOpen.get 5 = false ∧
    ((at_ .run).setCoilOpen (.replicate 6 true)).coilOpen.get 5 = true ∧
    ((allGauges .tracking (some 0) (at_ .run)).gauge 5).position = some ((at_ .run).gaugeConfig 5).rest ∧
    ((allGauges .tracking (some 1) (at_ .run)).gauge 5).position ≠ some ((at_ .run).gaugeConfig 5).rest ∧
    ((at_ .run).gaugeConfig 5).calibration.minPos ≤ (0x0B : Byte).toNat * 256 + (0xB8 : Byte).toNat ∧
    (0x0B : Byte).toNat * 256 + (0xB8 : Byte).toNat ≤ ((at_ .run).gaugeConfig 5).calibration.maxPos ∧
    ((at_ .run).gaugeConfig 5).calibration.maxPos < (0x0B : Byte).toNat * 256 + (0xB9 : Byte).toNat := by decide +kernel
theorem test_w33_no_gauge : 6 ≤ (6 : Byte).toNat ∧ (releaseGaugeRequest.judge [6] (at_ .run)).status = .range ∧
    (releaseGaugeRequest.judge [6] (at_ .parking)).status = .state ∧
    (positionGaugeRequest.judge [6, 0, 0] (at_ .run)).status = .range := by decide +kernel
/-- Every gauge PARKING at 1, but for gauge 5 in the state given. -/
def fifthGauge (x : GaugeState) (p : PowerState) : State :=
  let s := allGauges .parking (some 1) (at_ p)
  s.setGauge 5 { s.gauge 5 with state := x }

/-- What PARK GAUGE for gauge 5 makes of that state, and its status. -/
def parkFifth (x : GaugeState) (p : PowerState) : State × Status :=
  let a := parkGaugeRequest.judge [5] (fifthGauge x p)
  (a.state, a.status)

/-- R166 in PARKING, and the table of R54 in RUN. -/
theorem test_w33_park_gauge :
    parkFifth .fault .parking = (fifthGauge .fault .parking, .ok) ∧
    parkFifth .homing .parking = (fifthGauge .homing .parking, .ok) ∧
    parkFifth .fault .run = (fifthGauge .fault .run, .state) ∧
    ((parkFifth .homing .run).1.gauge 5).parkPending = true ∧
    (parkGaugeRequest.judge [6] (fifthGauge .fault .parking)).status = .range := by decide +kernel
theorem test_w33_park_settled : (fifthGauge .fault .parking).settled ∧ (fifthGauge .homing .parking).settled := by
  unfold State.settled
  decide +kernel
theorem test_w33_settled : (at_ .run).settled ∧ (allGauges .tracking (some 0) (at_ .parking)).settled := by
  unfold State.settled
  decide +kernel

/-- Every gauge in a state at 1, moving to 0 or to 2. -/
def moving (x : GaugeState) (back : Bool) (target : Nat) (p : PowerState) : State :=
  (at_ p).setGdu (.replicate 6 { (at_ p).gauge 0 with
    state := x, position := some 1, move := some ⟨target, 2500⟩, sweepBack := back })

theorem test_w34_moves : nextOf (step ((moving .tracking false 3 .run).setPending [.gaugeStep 0])) =
      some ((moving .tracking false 3 .run).setGauge 0 { (moving .tracking false 3 .run).gauge 0 with
        position := some 2, move := some ⟨3, 2500⟩ }) ∧
    ((moving .parking false 0 .parking).gauge 0).state = .parking ∧ ((moving .parking false 0 .run).gaugeConfig 0).rest = 0 ∧
    ((moving .sweeping true 0 .run).gauge 0).sweepBack = true ∧
    (2 : Nat) ≠ ((moving .sweeping false 2 .run).gaugeConfig 0).calibration.minPos := by decide +kernel
/-- The last gauge PARKED in PARKING, and the last sweep ended after the proof timer, with the records of the change. -/
theorem test_w34_changes :
    recordsOf (exec (.gaugeStep 0) ((allGauges .parked (some 0) (at_ .parking)).setGauge 0
      ((moving .parking false 0 .parking).gauge 0))) = [(.gaugeParked, 0, 0), (.powerState, 0, 0x0703)] ∧
    recordsOf (exec (.gaugeStep 0) ((((at_ .proving).setGauge 0 ((moving .sweeping true 0 .proving).gauge 0))).setPsc
      ⟨.proving, .expired, true, true, 3, 10000⟩)) = [(.powerState, 2, 0x0401)] := by decide +kernel
/-- A gauge that parks on its rest position with another target to follow is PARKED and then moves on. -/
theorem test_w34_following :
    (match exec (.gaugeStep 0) ((moving .parking false 0 .run).setGauge 0
        { (moving .parking false 0 .run).gauge 0 with following := some 4 }) with
      | .next t => ((t.gauge 0).state, (t.gauge 0).move, t.lp.queue.map Report.kind)
      | _ => (.unhomed, none, [])) = (.parked, some ⟨4, 2500⟩, [.gaugeParked]) := by decide +kernel
/-- A rest position of 2 configured while the gauges move to the former one, 0. -/
def reparked : State :=
  (moving .parking false 0 .run).setCfg { (at_ .run).cfg with gauges := .replicate 6 { GaugeSettings.builtIn with rest := 2 } }

/-- A gauge that ends its move at the rest position that its park took is PARKED there with that detail, before a gauge
update takes the new one, and a gauge at another position is not (R64). -/
theorem test_w34_former_rest :
    (match exec (.gaugeStep 0) reparked with
      | .next t => ((t.gauge 0).state, (t.gauge 0).position, t.lp.queue)
      | _ => (.unhomed, none, [])) = (.parked, some 0, [⟨.gaugeParked, 0, 0, 0, false⟩]) ∧
    (match exec (.gaugeStep 0) (reparked.setGauge 0 { reparked.gauge 0 with restTaken := 2 }) with
      | .next t => ((t.gauge 0).state, (t.gauge 0).move)
      | _ => (.unhomed, none)) = (.parking, none) := by decide +kernel
theorem test_w34_settled : (moving .parking false 0 .parking).settled ∧ (moving .sweeping true 0 .run).settled := by
  unfold State.settled
  decide +kernel

/-- Every gauge homing, with a minimum position of `least`. -/
def homing (h : Homing) (least : Nat) (p : Option Nat) : State :=
  let s := runWith fun c => { c with
    gauges := .replicate 6 { GaugeSettings.builtIn with calibration := ⟨[(0, 0), (3000, 3000)], least, 3000⟩, rest := least } }
  s.setGdu (.replicate 6 { s.gauge 0 with state := .homing, position := p, homing := some h })

theorem test_w35_homings : (homing ⟨.stall, 2, 600, 0, false⟩ 0 none).powered = true ∧
    (match exec (.homingStep 0 false) (homing ⟨.stall, 2, 600, 1, false⟩ 0 none) with
      | .next t => (t.gauge 0).state
      | _ => .unhomed) = .fault ∧
    (match exec (.homingStep 0 true) (homing ⟨.stall, 2, 600, 1, false⟩ 0 none) with
      | .next t => (t.gauge 0).state
      | _ => .unhomed) = .tracking ∧
    (match exec (.homingStep 0 false) (homing ⟨.blind, 2, 600, 2, true⟩ 3 (some 2)) with
      | .next t => (t.gauge 0).position
      | _ => none) = some 3 := by decide +kernel
theorem test_w35_settled : (homing ⟨.stall, 2, 600, 0, false⟩ 0 none).settled := by
  unfold State.settled
  decide +kernel

/-- A gauge in each state with its update timer running, and a source that is VALID or not. -/
def updating (x : GaugeState) (p : Nat) (st : QStatus) (action : InvalidAction) : State :=
  let s := runWith fun c => { c with
    gauges := .replicate 6 { GaugeSettings.builtIn with source := some 5, invalid := action, deadband := 4 }
    sources := c.sources.set 5 (.link 0) }
  (s.setEntry 5 { s.entry 5 with status := st, value := 104 }).setGdu
    (.replicate 6 { s.gauge 0 with state := x, position := some p, updateDue := some 20000 })

theorem test_w36_updates : ((updating .tracking 100 .valid .hold).gauge 0).updateDue = some 20000 ∧
    (updating .tracking 100 .valid .hold).validValue (some 5) = some 104 ∧
    (updating .tracking 100 .stale .hold).validValue (some 5) = none ∧
    (match exec (.gaugeUpdate 0) (updating .tracking 100 .valid .hold) with
      | .next t => (t.gauge 0).move
      | _ => none) = none ∧
    (match exec (.gaugeUpdate 0) (updating .tracking 99 .valid .hold) with
      | .next t => (t.gauge 0).move
      | _ => none) = some ⟨104, 2500⟩ := by decide +kernel
/-- A gauge PARKED at the former rest position, and one PARKING at rest there, take the new one at their update, and a gauge
that the new one finds at rest on it is PARKED by the update (R51, R55, R64). -/
theorem test_w36_rest :
    (match exec (.gaugeUpdate 0) (reparked.setGauge 0 { reparked.gauge 0 with
        state := .parked, position := some 0, move := none, updateDue := some 20000 }) with
      | .next t => ((t.gauge 0).state, (t.gauge 0).move, (t.gauge 0).restTaken)
      | _ => (.unhomed, none, 0)) = (.parking, some ⟨2, 2500⟩, 2) ∧
    (match exec (.gaugeUpdate 0) (reparked.setGauge 0 { reparked.gauge 0 with
        position := some 1, move := none, updateDue := some 20000 }) with
      | .next t => ((t.gauge 0).state, (t.gauge 0).move, (t.gauge 0).restTaken)
      | _ => (.unhomed, none, 0)) = (.parking, some ⟨2, 2500⟩, 2) ∧
    (match exec (.gaugeUpdate 0) (reparked.setGauge 0 { reparked.gauge 0 with
        position := some 2, move := none, updateDue := some 20000 }) with
      | .next t => ((t.gauge 0).state, t.lp.queue)
      | _ => (.unhomed, [])) = (.parked, [⟨.gaugeParked, 0, 2, 0, false⟩]) := by decide +kernel
theorem test_w36_coils : (at_ .run).psc.state ≠ .sleep ∧
    (match exec (.coilOpen 5 true) (updating .tracking 100 .valid .hold) with
      | .next t => (t.gauge 5).state
      | _ => .unhomed) = .fault ∧ (updating .tracking 100 .valid .hold).cfg.routes.get 5 = .urgent := by decide +kernel

/-! ### Witnesses: grades, criteria, warnings and lamps -/

/-- F4 over quantity 5 with the points 95, 105, 110, 120. -/
def graded (low high : Bool) (v : Int) (st : QStatus) : State :=
  let s := at_ .run
  (s.setWeu { s.weu with inForce := s.weu.inForce.set 4 ⟨some 5, 95, 105, 110, 120, low, high, 7⟩ }).setEntry 5
    { s.entry 5 with status := st, value := v }

/-- The cases of R67 at their bounds. -/
theorem test_w37_grades : (graded false false 105 .valid).gradeOf 4 = 255 ∧ (graded false false 110 .valid).gradeOf 4 = 255 ∧
    (graded true false 104 .valid).gradeOf 4 = 255 ∧ (graded false true 111 .valid).gradeOf 4 = 255 ∧
    (graded false false 95 .valid).gradeOf 4 = 0 ∧ (graded false false 120 .valid).gradeOf 4 = 0 ∧
    (graded false false 96 .valid).gradeOf 4 = 25 ∧ (graded false false 119 .valid).gradeOf 4 = 25 ∧
    (graded false false 105 .stale).gradeOf 4 = 7 ∧ (at_ .run).gradeOf 0 = 0 := by decide +kernel

theorem test_w38_criteria :
    readCriterion (47 :: criterionBytes [[⟨.condition .linkLost, false⟩], [⟨.constant 255, true⟩]]) =
      some (47, [[⟨.condition .linkLost, false⟩], [⟨.constant 255, true⟩]]) ∧
    criterionBodyFits (47 :: criterionBytes [[⟨.condition .linkLost, false⟩], [⟨.constant 255, true⟩]]) = true ∧
    readCriterion [48, 0] = none ∧ criterionBodyFits [48, 0] = true ∧ readCriterion [0, 1, 1, 8, 0, 0] = none ∧
    ((at_ .run).warning 47).state = .disabled ∧ 2 ≤ (2 : Byte).toNat ∧ (50 : Byte).toNat ≤ 50 ∧ (1 : Byte).toNat < 2 ∧
    50 < (51 : Byte).toNat := by decide +kernel

def evaluating (w : Fin 48) (replaced : Bool) : State :=
  (at_ .run).setWeu { (at_ .run).weu with evalDue := some 50000, pass := some ⟨w, 20, replaced, []⟩ }

theorem test_w38_passes : (evaluating 47 false).weu.pass = some ⟨47, 20, false, []⟩ ∧
    (evaluating 0 true).weu.pass = some ⟨0, 20, true, []⟩ ∧
    ((at_ .run).setWeu { (at_ .run).weu with evalDue := some 50000 }).weu.pass = none ∧
    (match exec .criterionEvaluation (evaluating 47 false) with
      | .next t => t.weu.pass
      | _ => none) = none := by decide +kernel

/-- Warning 3 in a state, with levels 200 and 100. -/
def warned (x : WarnState) (ack latching : Bool) (delay : Nat) (mark : AnnMark) : State :=
  let s := runWith fun c => { c with
    warnings := c.warnings.set 3 ⟨true, .stop, some 2, 200, 100, delay, latching, some 5, .fastRepeat, 2⟩
    lamps := c.lamps.set 2 ⟨.rule, false⟩ }
  s.setWarning 3 ⟨x, ack, if x = .rising then some 500000 else none, if x = .activeSeen then some 900000 else none, mark⟩

theorem test_w39_strengths :
    ((actOnStrength 3 200 (warned .off false true 0 .none)).warning 3).state = .activeNew ∧
    ((actOnStrength 3 200 (warned .off false true 500 .none)).warning 3).state = .rising ∧
    ((actOnStrength 3 199 (warned .off false true 0 .none)).warning 3).state = .off ∧
    ((actOnStrength 3 199 (warned .rising false true 500 .none)).warning 3).state = .off ∧
    ((actOnStrength 3 100 (warned .activeSeen true true 0 .none)).warning 3).state = .latched ∧
    ((actOnStrength 3 100 (warned .activeNew false false 0 .normal)).warning 3).state = .off ∧
    ((actOnStrength 3 101 (warned .activeNew false false 0 .normal)).warning 3).state = .activeNew ∧
    ((actOnStrength 3 200 (warned .latched true true 0 .none)).warning 3).state = .activeSeen ∧
    ((actOnStrength 3 200 (warned .latched false true 0 .normal)).warning 3).state = .activeNew := by decide +kernel

theorem test_w40_requests : (3 : Byte).toNat = (3 : Fin 48).val ∧ ((warned .latched true true 0 .none).warning 3).state = .latched ∧
    ((warned .suppressed false true 0 .none).warning 3).state = .suppressed ∧
    ((warned .disabled false true 0 .none).warning 3).state = .disabled ∧
    readWarnSettings (3 :: WarnSettings.builtIn.bytes) = some (3, .builtIn) ∧ (3 :: WarnSettings.builtIn.bytes).length = 11 ∧
    readWarnSettings (48 :: WarnSettings.builtIn.bytes) = none ∧ 48 ≤ (48 : Byte).toNat ∧
    (clearWarningRequest.judge [48] (at_ .run)).status = .range := by
  decide +kernel

theorem test_w41_timers : ((warned .rising false true 500 .none).warning 3).raiseDue = some 500000 ∧
    ((warned .rising false true 500 .none).cfg.warnings.get 3).message = some 5 ∧
    ((warned .activeSeen true true 0 .none).warning 3).reminderDue = some 900000 ∧
    ((at_ .run).cfg.warnings.get 3).message = none ∧ (at_ .run).anu.queue = [] ∧ (at_ .run).anu.shown = none := by decide +kernel

/-- The records of WARNING RAISED and WARNING ENDED with their details, with room in the queue. -/
theorem test_w41_reports :
    (warned .rising false true 500 .none).cfg.routes.get (routeIndex .warningRaised .stop) = .urgent ∧
    ((enterActiveNew 3 false (warned .rising false true 500 .none)).lp.queue.head?) = some ⟨.warningRaised, 3, 8, 0, true⟩ ∧
    ((enterActiveNew 3 true (warned .latched false true 0 .normal)).lp.queue) = [⟨.warningRaised, 3, 4, 0, true⟩] ∧
    (warned .activeNew false false 0 .none).cfg.routes.get (routeIndex .warningEnded .stop) = .post ∧
    (actOnStrength 3 100 (warned .activeNew false false 0 .none)).lp.queue = [⟨.warningEnded, 3, 0, 0, false⟩] ∧
    (actOnStrength 3 100 (warned .activeSeen true true 0 .none)).lp.queue = [] ∧
    (goOff 3 .cleared (warned .latched true true 0 .none)).lp.queue = [⟨.warningEnded, 3, 1, 0, false⟩] ∧
    (suppress 3 (warned .latched true true 0 .none)).lp.queue = [⟨.warningEnded, 3, 2, 0, false⟩] ∧
    (suppress 3 (warned .rising false true 500 .none)).lp.queue = [] ∧
    (reconfigureWarning 3 .builtIn (warned .rising false true 500 .none)).lp.queue = [⟨.warningEnded, 3, 3, 0, false⟩] ∧
    (reconfigureWarning 3 .builtIn (warned .off false true 0 .none)).lp.queue = [] ∧
    (configureCriterion 3 [] (warned .suppressed false true 0 .none)).lp.queue = [⟨.warningEnded, 3, 3, 0, false⟩] := by
  decide +kernel

/-- A lamp sample due, with a dimmer quantity of a value. -/
def dimmed (st : QStatus) (v : Int) : State :=
  let s := runWith fun c => { c with dimmer := some 5 }
  (s.setWeu { s.weu with lampDue := some 200000 }).setEntry 5 { s.entry 5 with status := st, value := v }

theorem test_w42_dimmer : (dimmed .valid (-1)).dimmed = 0 ∧ (dimmed .valid 101).dimmed = 100 ∧ (dimmed .valid 50).dimmed = 50 ∧
    (dimmed .fault 50).dimmed = 100 ∧ (at_ .run).dimmed = 100 ∧ (dimmed .valid 0).weu.lampDue = some 200000 := by decide +kernel

/-- Lamp 31 lit, with an open-load run. -/
def lit (isOpen : Bool) (n : Nat) : State :=
  let s := runWith fun c => { c with lamps := c.lamps.set 31 ⟨.host, true⟩ }
  (s.setWeu { s.weu with lampDue := some 200000, flash := some ⟨true, 500000⟩ }).setLamp 31 ⟨.on, .steady, isOpen, n⟩

theorem test_w43_lamps : (lit false 0).energised 31 = true ∧ (lit false 0).energised 30 = false ∧
    ((sampleLamp 0x80000000 31 (lit false 0)).lamp 31).openRun = 1 ∧ ((sampleLamp 0x80000000 31 (lit false 1)).lamp 31).isOpen = true ∧
    ((sampleLamp 0 31 (lit true 2)).lamp 31).isOpen = false ∧ readLampSettings [31, 2, 1] = some (31, ⟨.off, true⟩) ∧
    readLampSettings [32, 0, 0] = none ∧ readLampSettings [0, 3, 0] = none ∧ readLampSettings [0, 0, 2] = none ∧
    readEnum HostLevel.list (2 : Byte).toNat = some .flashing ∧ ((lit false 0).cfg.lamps.get 30).mode ≠ .host ∧
    ((lit false 0).cfg.lamps.get 31).mode = .host ∧ (lit false 0).weu.flash = some ⟨true, 500000⟩ := by decide +kernel

/-- Three pairs of SET LAMPS: done, on a lamp in another mode, and on no lamp. -/
theorem test_w43_pairs : (applyLampPairs [31, 2, 30, 1, 32, 0] (lit false 0)).2 =
      [Status.ok.code, Status.conflict.code, Status.range.code] ∧
    ((applyLampPairs [31, 2, 30, 1, 32, 0] (lit false 0)).1.lamp 31).drive = .flashing := by decide +kernel

/-- The lines of the drive table of R100. -/
theorem test_w43_drive : (lit false 0).driveOf 31 = .steady ∧
    ((lit false 0).setLamp 31 ⟨.flashing, .dark, false, 0⟩).driveOf 31 = .flashing ∧
    ((lit false 0).setPsc (at_ .sleep).psc).driveOf 31 = .dark ∧
    (((lit false 0).setLamp 31 ⟨.off, .dark, false, 0⟩).setPsc (at_ .proving).psc).driveOf 31 = .steady ∧
    ((lit false 0).cfg.lamps.get 30).mode = .off ∧ (lit false 0).driveOf 30 = .dark ∧
    (warned .activeNew false true 0 .none).driveOf 2 = .flashing ∧ (warned .latched false true 0 .none).driveOf 2 = .flashing ∧
    (warned .latched true true 0 .none).driveOf 2 = .steady ∧ (warned .activeSeen true true 0 .none).driveOf 2 = .steady ∧
    (warned .rising false true 500 .none).driveOf 2 = .dark := by decide +kernel

/-- LAMP OPEN and LAMP RECOVERED with the mode HOST of the lamp. -/
theorem test_w43_reports : (lit false 1).cfg.routes.get (routeIndex .lampOpen .stop) = .post ∧
    (lit true 2).cfg.routes.get (routeIndex .lampRecovered .stop) = .post ∧
    (sampleLamp 0x80000000 31 (lit false 1)).lp.queue = [⟨.lampOpen, 31, 1, 0, false⟩] ∧
    (sampleLamp 0 31 (lit true 2)).lp.queue = [⟨.lampRecovered, 31, 1, 0, false⟩] := by decide +kernel

/-! ### Witnesses: duty -/

/-- The credit of a pause run with the default set: 15 at its fifteenth minute, 1 more at the sixteenth, and the completed
break at the forty-fifth (R122). -/
theorem test_w44_credit :
    let x : Slot := { Slot.empty none with card := some 7#32, activity := .rest, continuous := 200, daily := 200, weekly := 200 }
    (({ x with pauseRun := 13 } : Slot).minute .builtIn).credit = 0 ∧ (({ x with pauseRun := 14 } : Slot).minute .builtIn).credit = 15 ∧
    (({ x with pauseRun := 15, credit := 15, segmentMark := true } : Slot).minute .builtIn).credit = 16 ∧
    (({ x with pauseRun := 44, credit := 44, segmentMark := true } : Slot).minute .builtIn).continuous = 0 ∧
    (({ x with pauseRun := 43, credit := 43, segmentMark := true } : Slot).minute .builtIn).continuous = 200 := by decide +kernel

/-- Slot 1 resting, with a rest run and a staged set. -/
def resting (n : Nat) (closed : Bool) (staged : Option LimitSet) : State :=
  let s := at_ .run
  s.setSlot 0 { s.slot 0 with
    card := some 7#32, activity := .rest, pauseRun := n, restRun := n, dayClosed := closed, daily := 400, weekly := 400, staged := staged }

theorem test_w44_starts : ((dayStart 0 (resting 540 false none)).slot 0).daily = 0 ∧
    ((dayStart 0 (resting 539 false none)).slot 0).daily = 400 ∧ ((dayStart 0 (resting 540 true none)).slot 0).daily = 400 ∧
    ((dayStart 0 (resting 540 false (some .builtIn))).slot 0).staged = none ∧
    ((weekStart 0 (resting 2700 true none)).slot 0).weekly = 0 ∧ ((weekStart 0 (resting 2699 true none)).slot 0).weekly = 400 := by
  decide +kernel

/-- Slot 1 driving, with a continuous counter, and M40 assigned to its continuous PREWARN. -/
def drove (n : Nat) (stage : Stage) : State :=
  let s := runWith fun c => { c with dutyMessages := c.dutyMessages.set 0 ⟨some 40, .single⟩ }
  s.setSlot 0 { s.slot 0 with
    card := some 7#32, activity := .driving, continuous := n, daily := n, weekly := n
    tracks := ⟨⟨stage, false, false⟩, .rest, .rest⟩ }

theorem test_w45_stages : stageOf 270 15 254 = .normal ∧ stageOf 270 15 255 = .prewarn ∧ stageOf 270 15 269 = .prewarn ∧
    stageOf 270 15 270 = .limit ∧ stageOf 270 15 271 = .exceeded ∧
    ((recomputeTrack 0 .continuous (drove 255 .normal)).track 0 .continuous) = ⟨.prewarn, false, true⟩ ∧
    ((recomputeTrack 0 .continuous (drove 0 .prewarn)).track 0 .continuous) = ⟨.normal, false, false⟩ ∧
    (drove 255 .normal).dutyOffer 0 .continuous .prewarn ≠ none ∧ (drove 255 .normal).dutyOffer 0 .daily .prewarn = none := by
  decide +kernel

/-- The offers made again at the entry to PROVING, by a LATCHED warning and by a track above NORMAL, and the silence
timer. -/
theorem test_w18_offers :
    let s := (warned .latched false true 0 .none).setPsc ⟨.proving, .running 3000000, true, true, 3, 10000⟩
    ((reofferWarning 3 s).warning 3).mark = .normal ∧
    ((reofferTrack 0 .continuous ((drove 255 .prewarn).setPsc s.psc)).track 0 .continuous) = ⟨.prewarn, false, true⟩ ∧
    (reofferTrack 0 .daily ((drove 255 .prewarn).setPsc s.psc)) = (drove 255 .prewarn).setPsc s.psc ∧
    s.cfg.link.silence ≠ 0 ∧ s.lp.lostSince = none := by decide +kernel

/-- A minute that disagrees, one that does not, and the clock at its limit. -/
def moved (v : Int) (a : Activity) (count : Nat) : State :=
  let s := withCard a (runWith fun c => { c with sources := c.sources.set 0 (.link 0) })
  (s.setDtu { s.dtu with mismatchCount := count, clock := 4294967295 }).setEntry 0 { s.entry 0 with status := .valid, value := v }

theorem test_w46_minutes :
    (match exec (.minuteExpiry false) (moved 6 .rest 1) with
      | .next t => (t.dtu.mismatchCount, t.dtu.mismatch, t.dtu.clock)
      | _ => (0, false, 0)) = (2, true, 4294967295) ∧
    (match exec (.minuteExpiry true) (moved 5 .rest 1) with
      | .next t => (t.dtu.mismatchCount, (t.entry 44).value)
      | _ => (9, 0)) = (0, 270) ∧
    ((moved 6 .rest 1).slot 1).card = none ∧ ((moved 6 .rest 1).slot 0).card.isSome = true ∧
    (moved 6 .rest 1).cfg.duty.speed.val < 44 := by decide +kernel

/-- A day start with a staged set and the week start that the set makes due in the same minute, a week start alone, and a
minute short of the day start (R123, R124). -/
theorem test_w46_starts :
    (match exec (.minuteExpiry false) (resting 539 false (some { LimitSet.builtIn with weeklyRest := 540 })) with
      | .next t => (t.lp.queue, (t.slot 0).daily, (t.slot 0).weekly, (t.slot 0).staged, (t.limits 0).weeklyRest)
      | _ => ([], 0, 0, none, 0)) = ([⟨.dutyDayStart, 1, 400, 1, false⟩, ⟨.dutyLimitsLoaded, 1, 0, 1, false⟩,
        ⟨.dutyWeekStart, 1, 400, 1, false⟩], 0, 0, none, 540) ∧
    (match exec (.minuteExpiry true) (resting 2699 true none) with
      | .next t => (t.lp.queue, (t.slot 0).daily, (t.slot 0).weekly)
      | _ => ([], 0, 0)) = ([⟨.dutyWeekStart, 1, 400, 1, false⟩], 400, 0) ∧
    (match exec (.minuteExpiry false) (resting 538 false none) with
      | .next t => (t.lp.queue, (t.slot 0).daily, (t.slot 0).weekly)
      | _ => ([], 0, 0)) = ([], 400, 400) ∧
    (resting 539 false none).cfg.routes.get (routeIndex .dutyDayStart .stop) = .post ∧
    1 ≤ ((resting 539 false none).limits 0).dailyRest := by decide +kernel

/-- Both slots resting, with the speed quantity the continuous driving time left of slot 2, which is 1 min before the
minute's writes and 270 min after them. -/
def movedBySlot2 : State :=
  let s := moved 0 .rest 1
  ((s.setCfg { s.cfg with duty := { s.cfg.duty with speed := 46 } }).setSlot 1
    { s.slot 0 with card := some 8#32 }).setEntry 46 { s.entry 46 with status := .valid, value := 1 }

/-- DUTY MISMATCH with the activity REST, and the speed quantity as it stands when slot 1 is accounted. -/
theorem test_w46_mismatch :
    (match exec (.minuteExpiry false) (moved 6 .rest 1) with
      | .next t => t.lp.queue
      | _ => []) = [⟨.dutyMismatch, 1, 3, 0xFFFF, false⟩] ∧
    (moved 6 .rest 1).cfg.routes.get (routeIndex .dutyMismatch .stop) = .post ∧ (moved 6 .rest 1).dtu.mismatch = false ∧
    (match exec (.minuteExpiry false) movedBySlot2 with
      | .next t => t.dtu.mismatchCount
      | _ => 9) = 0 ∧
    (match exec (.minuteExpiry true) movedBySlot2 with
      | .next t => (t.dtu.mismatchCount, (t.entry 46).value)
      | _ => (9, 0)) = (2, 270) := by decide +kernel

theorem test_w47_requests : readDutySettings (DutySettings.builtIn.bytes) = some .builtIn ∧ DutySettings.builtIn.bytes.length = 40 ∧
    readDutySettings (List.replicate 40 0) = none ∧ readStagedLimits (2 :: LimitSet.builtIn.bytes) = some (1, .builtIn) ∧
    readStagedLimits (3 :: LimitSet.builtIn.bytes) = none ∧ readActivity [1, 0] = some (0, .driving) ∧ readActivity [1, 5] = none ∧
    ((withCard .work (at_ .parking)).slot 0).pending = none ∧ ((withCard .work (at_ .parking)).slot 0).card.isSome = true ∧
    (LimitSet.builtIn).breakLength ≤ 45 := by decide +kernel

/-- CARD IN with every field, and with a credit at the break length; CARD OUT of a PRESENT slot. -/
theorem test_w48_cards :
    readCardIn ([1] ++ be32 7 ++ [0x3F, 0] ++ be16 1 ++ be16 44 ++ be16 2 ++ be16 3 ++ be16 4) = some (0, .driving) ∧
    cardInBodyFits ([1] ++ be32 7 ++ [0x3F, 0] ++ be16 1 ++ be16 44 ++ be16 2 ++ be16 3 ++ be16 4) = true ∧
    readSummary ([1] ++ be32 7 ++ [0x3F, 0] ++ be16 1 ++ be16 44 ++ be16 2 ++ be16 3 ++ be16 4) = ⟨1, 44, 2, 3, 4⟩ ∧
    (⟨1, 44, 2, 3, 4⟩ : Summary).bad .builtIn = false ∧ (⟨1, 45, 2, 3, 4⟩ : Summary).bad .builtIn = true ∧
    (⟨3, 0, 2, 3, 4⟩ : Summary).bad .builtIn = true ∧ (⟨1, 0, 4, 3, 4⟩ : Summary).bad .builtIn = true ∧
    ((at_ .run).slot 0).card = none ∧ ((withCard .rest (at_ .run)).slot 0).card = some 7#32 := by decide +kernel
/-- CARD IN and CARD OUT with a slot, a presence byte or an activity that the first check refuses, in SLEEP as well. -/
theorem test_w48_first_check :
    cardInBodyFits [0, 0, 0, 0, 7, 0] = true ∧ (cardInRequest.judge [0, 0, 0, 0, 7, 0] (at_ .run)).status = .range ∧
    (cardInRequest.judge [3, 0, 0, 0, 7, 0] (at_ .sleep)).status = .range ∧
    (cardInRequest.judge [1, 0, 0, 0, 7, 64] (at_ .run)).status = .range ∧
    cardInBodyFits [1, 0, 0, 0, 7, 1, 5] = true ∧ (cardInRequest.judge [1, 0, 0, 0, 7, 1, 5] (at_ .run)).status = .range ∧
    (cardInRequest.judge [1, 0, 0, 0, 7, 1, 4] (at_ .run)).status = .ok ∧
    (cardOutRequest.judge [0] (at_ .sleep)).status = .range ∧ (cardOutRequest.judge [3] (at_ .run)).status = .range := by
  decide +kernel
theorem test_w48_kept : (withCard .rest (at_ .run)).announcementsKept := by
  unfold State.announcementsKept
  decide +kernel

/-! ### Witnesses: the message line -/

def aMessage : Message := ⟨.replicate 16 0x41, [⟨1, 6, .breakCredit 1, .hoursMinutes⟩, ⟨7, 6, .quantityStatus 47, .word⟩]⟩

theorem test_w49_settings : readMessage (63 :: aMessage.bytes) = some (63, aMessage) ∧ messageBodyFits (63 :: aMessage.bytes) = true ∧
    readLineSettings [0, 100, 0, 0, 0, 0, 25, 60, 47] = some ⟨⟨[0, 10000, 0, 0, 0, 0], rfl⟩, 25, 60, some 47⟩ ∧
    readPriorityMap [5, 4, 3, 2, 1, 0] =
      some ⟨[.hostMessage, .infoWarning, .dutyPrewarn, .checkWarning, .dutyLimit, .stopWarning], rfl⟩ ∧
    readPriorityMap [5, 4, 3, 2, 1, 1] = none ∧ readPriorityMap [6, 4, 3, 2, 1, 0] = none ∧
    readLineSettings [101, 0, 0, 0, 0, 0, 1, 0, 255] = none ∧ readLineSettings [0, 0, 0, 0, 0, 101, 1, 0, 255] = none ∧
    readLineSettings [0, 0, 0, 0, 0, 0, 0, 0, 255] = none ∧ readLineSettings [0, 0, 0, 0, 0, 0, 26, 0, 255] = none ∧
    readLineSettings [0, 0, 0, 0, 0, 0, 1, 1, 255] = none ∧ readLineSettings [0, 0, 0, 0, 0, 0, 1, 61, 255] = none ∧
    readLineSettings [0, 0, 0, 0, 0, 0, 1, 0, 48] = none ∧ readMessage (64 :: aMessage.bytes) = none ∧
    messageBodyFits (64 :: aMessage.bytes) = true ∧ readOptIndex 64 64 = none ∧ readOptIndex 64 254 = none ∧
    readOptIndex 64 63 = some (some 63) ∧
    (shownAs (hostEntry 0 6 1) (at_ .run)).onLine = some 0 ∧ (at_ .run).onLine = none ∧
    ((at_ .run).setAnu { (at_ .run).anu with hostHold := true }).anu.hostHold = true := by decide +kernel

/-- An offer of host announcement 7. -/
def anOffer : Offer := ⟨.host 7, .hostMessage, 63, .single, .normal⟩

theorem test_w50_offers :
    ((offer anOffer (at_ .run)).anu.shown.map fun sh => sh.entry.source) = some (.host 7) ∧
    (offer anOffer ((at_ .run).setQueue (fullQueue.drop 1))).anu.entries.length = 16 ∧
    (offer anOffer (shownAs (hostEntry 0 1 0) ((at_ .run).setQueue fullQueue))).anu.queue = fullQueue ∧
    (offer { anOffer with cls := .stopWarning } (shownAs (hostEntry 0 1 0) ((at_ .run).setQueue fullQueue))).anu.waits (.host 7) = true ∧
    (offer anOffer (shownAs (hostEntry 7 6 1) (at_ .run))).anu.arrivals = 0 ∧ fullQueue.length = 16 ∧
    (at_ .run).cfg.priorityMap.get 5 = .hostMessage := by decide +kernel

/-- The entries renumbered before the counter's gain: two held under a hold, none held, and a full queue that refuses. -/
theorem test_w50_renumbering :
    let s := (at_ .run).setAnu { (at_ .run).anu with arrivals := 65535, hostHold := true }
    let two := shownAs (hostEntry 0 6 65535) (s.setQueue [hostEntry 1 6 70])
    (two.anu.entries.map Entry.arrival).Nodup ∧
    ((offer anOffer two).anu.entries.map fun e => (e.source, e.arrival)) = [(.host 1, 1), (.host 7, 3), (.host 0, 2)] ∧
    (offer anOffer two).anu.arrivals = 3 ∧ (offer anOffer s).anu.arrivals = 1 ∧
    (offer anOffer (s.setQueue fullQueue)).anu.queue = fullQueue ∧ (offer anOffer (s.setQueue fullQueue)).anu.arrivals = 17 := by
  decide +kernel

/-- A REMINDER of warning 47, with a repeating or a one-shot pattern, that waits under the host hold. -/
def reminding (c : Chime) (before : Bool) : State :=
  let s := runWith fun x => { x with line := ⟨.replicate 6 100, 25, 60, none⟩ }
  (s.setAnu { s.anu with
    hostHold := true, queue := [⟨.warning 47, .stopWarning, 1, 0, c, .reminder, 1, before⟩] }).setLp
    { s.lp with held := [⟨.warningRaised, 47, 0, 0, false⟩] }

/-- The sounder, the timers and the records after RELEASE lets it take the line. -/
def shownAfter (c : Chime) (before : Bool) :
    Sounder × Option (Option Nat × Option Nat × Option Nat) × List (ReportKind × Byte × BitVec 16) :=
  match exec (.release 1 []) (reminding c before) with
  | .next t => (t.anu.sounder, t.anu.shown.map fun sh => (sh.dwellDue, sh.showDue, sh.rotationDue),
      t.lp.queue.map fun r => (r.kind, r.subject, r.detail))
  | _ => (.silent, none, [])

/-- The beginning of showing: its timers, its pattern by the shown-before mark, the held record posted at a first showing,
and ANNOUNCEMENT SHOWN. -/
theorem test_w51_w52_showing :
    (shownAfter .single false).2.1 = some (some 100000, some 25000000, some 60000000) ∧
    (shownAfter .single false).2.2 = [(.warningRaised, 47, 0), (.announcementShown, 47, 0x0900)] ∧
    (shownAfter .single true).2.2 = [(.announcementShown, 47, 0x0100)] ∧
    (shownAfter .single false).1 = .oneShot .single 200000 ∧ (shownAfter .double false).1 = .oneShot .double 450000 ∧
    (shownAfter .double true).1 = .silent ∧ (shownAfter .slowRepeat true).1 = .repeating false 2000000 ∧
    (shownAfter .fastRepeat false).1 = .repeating true 600000 ∧ (shownAfter .none false).1 = .silent := by decide +kernel

theorem test_w51_line : (at_ .run).anu.hostHold = false ∧ ((at_ .run).setQueue [hostEntry 7 6 1]).anu.queue = [hostEntry 7 6 1] ∧
    (shownAs (hostEntry 7 6 1) (at_ .run)).anu.shown ≠ none ∧ (shownAs (hostEntry 7 6 1) (at_ .run)).anu.held = false ∧
    readAnnounce [7, 63, 4] = some (7, 63, .fastRepeat) ∧ (7 : Byte).toNat = (7 : Fin 8).val ∧ (at_ .run).anu.sounder = .silent ∧
    (at_ .run).anu.held = false := by decide +kernel
theorem test_w51_range : (announceRequest.judge [8, 63, 4] (at_ .run)).status = .range ∧
    (announceRequest.judge [7, 64, 4] (at_ .run)).status = .range ∧
    (announceRequest.judge [7, 63, 5] (at_ .run)).status = .range ∧ (withdrawRequest.judge [8] (at_ .run)).status = .range ∧
    (announceRequest.judge [7, 63, 4] (at_ .run)).status = .ok ∧ (withdrawRequest.judge [7] (at_ .run)).status = .ok := by
  decide +kernel
theorem test_w51_kept : (shownAs (hostEntry 7 6 1) (at_ .run)).announcementsKept := by
  unfold State.announcementsKept
  decide +kernel

/-- An entry shown with its timers, and one that waits at a level. -/
def timed (kind : AnnKind) (dwell show_ rotation : Option Nat) (level : Nat) : State :=
  ((at_ .run).setAnu { (at_ .run).anu with arrivals := 2 }).setShown
    (some ⟨{ hostEntry 0 3 1 with kind := kind }, dwell, show_, rotation⟩) |>.setQueue [hostEntry 1 level 2]

theorem test_w52_timers :
    (match exec .dwellExpiry (timed .normal (some 5) none none 2) with
      | .next t => t.anu.queue
      | _ => []) = [hostEntry 0 3 1] ∧
    (match exec .dwellExpiry (timed .normal (some 5) none none 3) with
      | .next t => t.anu.queue
      | _ => []) = [hostEntry 1 3 2] ∧
    (match exec .showTimeExpiry (timed .reminder none (some 5) none 6) with
      | .next t => t.anu.queue
      | _ => [hostEntry 0 0 0]) = [] ∧
    (match exec .rotationExpiry (timed .normal none none (some 5) 3) with
      | .next t => t.anu.queue
      | _ => []) = [hostEntry 0 3 3] ∧
    (match exec .rotationExpiry (timed .normal none none (some 5) 4) with
      | .next t => t.anu.queue
      | _ => []) = [hostEntry 1 4 2] := by decide +kernel

theorem test_w53_port : ((at_ .run).setAnu { (at_ .run).anu with refreshDue := some 1000000 }).anu.refreshDue = some 1000000 ∧
    (at_ .run).anu.transfer = some ⟨blankLine, 2000⟩ ∧ (at_ .run).anu.owed = false ∧
    ((at_ .run).setAnu { (at_ .run).anu with owed := true }).anu.owed = true ∧
    ((at_ .run).setSounder (.oneShot .double 450000)).anu.sounder = .oneShot .double 450000 ∧
    ((at_ .run).setSounder (.click 20000)).anu.sounder = .click 20000 ∧
    ((at_ .run).setSounder (.repeating true 600000)).anu.sounder = .repeating true 600000 := by decide +kernel

/-- M0 with dashes for an EMPTY slot, a word set to the right and its own characters behind; a text longer than its
placeholder; and the pages that are on the line while nothing is shown (R135, R151). -/
theorem test_w53_rendered :
    let s := (runWith fun c => { c with
      messages := (c.messages.set 0 aMessage).set 1 ⟨.replicate 16 0x41, [⟨13, 4, .slotActivity 0, .word⟩]⟩
      restingPage := some 1, power := { c.power with startMessage := some 0 } }).setSlot 0
        { Slot.empty none with card := some 7#32, activity := .available }
    (shownAs (hostEntry 0 6 1) s).lineContent.items = word "------  NONEAAAA" ∧
    s.onLine = some 1 ∧ s.lineContent.items = word "AAAAAAAAAAAA****" ∧
    (s.setAnu { s.anu with proofHold := true }).onLine = some 0 ∧
    (s.setPsc (at_ .sleep).psc).onLine = none ∧ (s.setPsc (at_ .sleep).psc).lineContent = blankLine := by decide +kernel

/-- The tones of a DOUBLE and of the repeating patterns, at their bounds (R154). -/
theorem test_w53_tones :
    ([0, 149999, 150000, 299999, 300000, 449999, 450000].map (Sounder.oneShot .double 450000).sounds) =
      [true, true, false, false, true, true, false] ∧
    ([0, 299999, 300000, 1999999].map (Sounder.repeating false 2000000).sounds) = [true, true, false, false] ∧
    ([0, 199999, 200000, 599999].map (Sounder.repeating true 600000).sounds) = [true, true, false, false] ∧
    ([0, 19999, 20000].map (Sounder.click 20000).sounds) = [true, true, false] ∧
    ([0, 199999].map (Sounder.oneShot .single 200000).sounds) = [true, true] ∧ Sounder.silent.sounds 0 = false := by
  decide +kernel

/-! ### Witnesses: the kept properties and the readouts -/

/-- Boundary values of the configurations that are read back. -/
theorem test_w60_readouts :
    readWarnSettings (47 :: ({ WarnSettings.builtIn with raiseLevel := 255, clearLevel := 254, raiseDelay := 25500, reminder := 60 } : WarnSettings).bytes) =
      some (47, { WarnSettings.builtIn with raiseLevel := 255, clearLevel := 254, raiseDelay := 25500, reminder := 60 }) ∧
    readShape (31 :: (⟨some 47, -32768, -1, 0, 32767, true, true, 255⟩ : Shape).bytes) =
      some (31, ⟨some 47, -32768, -1, 0, 32767, true, true, 255⟩) ∧
    readStagedLimits (1 :: (⟨60, 0, 15, 1, 120, 0, 300, 301, 600⟩ : LimitSet).bytes) = some (0, ⟨60, 0, 15, 1, 120, 0, 300, 301, 600⟩) ∧
    (⟨60, 0, 15, 1, 120, 0, 300, 301, 600⟩ : LimitSet).valid = true ∧
    readQuantityConfig (43 :: (QSource.link 10000).bytes) = some (43, .link 10000) ∧
    readQuantityConfig (0 :: (QSource.link 0).bytes) = some (0, .link 0) := by decide +kernel

/-- The part brought up with the key on: PROVING, its timers running. -/
def broughtUp : State := powerOn true State.reset

theorem test_w55_to_w59_steps : (nextOf (step State.reset)).isSome = true ∧ broughtUp.psc.state = .proving ∧
    (nextOf (step (broughtUp.setPending [.passStart]))).isSome = true ∧
    (nextOf (step (broughtUp.setPending [.replySent false, .wake 1 []]))).isSome = true := by decide +kernel
theorem test_w55_kept : broughtUp.reportsKept ∧
    (hand .saveDone 0 0 ((at_ .run).setLp { (at_ .run).lp with queue := List.replicate 31 aReport })).reportsKept := by
  unfold State.reportsKept
  decide +kernel
theorem test_w56_kept : broughtUp.announcementsKept ∧
    (shownAs (hostEntry 0 1 0) ((at_ .run).setQueue fullQueue)).announcementsKept := by
  unfold State.announcementsKept
  decide +kernel
theorem test_w57_kept : (withCard .driving broughtUp).dutyKept := by
  have image : (withCard .driving broughtUp).cs.image = .absent := by decide +kernel
  have saving : (withCard .driving broughtUp).cs.saving = none := by decide +kernel
  have staged : ∀ i, ((withCard .driving broughtUp).slot i).staged = none := by decide +kernel
  refine ⟨?_, ⟨?_, ?_, ?_⟩, ?_⟩
  · unfold Slot.ordered
    decide +kernel
  · unfold Settings.limitsValid
    decide +kernel
  all_goals simp [image, saving, staged]
theorem test_w58_kept : broughtUp.quantitiesKept := by
  have image : broughtUp.cs.image = .absent := by decide +kernel
  have saving : broughtUp.cs.saving = none := by decide +kernel
  have lock : broughtUp.cs.lock = none := by decide +kernel
  have source : ∀ q, broughtUp.cfg.sources.get q = if 44 ≤ q.val then .duty else .none := by decide +kernel
  have entry : ∀ q, (broughtUp.entry q).status = .absent ∧ (broughtUp.entry q).value = 0 ∧
      (broughtUp.entry q).refreshDue = none := by decide +kernel
  refine ⟨?_, ?_, ⟨?_, ?_, ?_⟩, ?_⟩
  · intro q
    rw [source q, (entry q).1, (entry q).2.1]
    by_cases h : 44 ≤ q.val <;> simp [h, QSource.allows]
  · intro q h
    exact absurd (entry q).2.2 h
  · intro q
    rw [source q]
    by_cases h : 44 ≤ q.val <;> simp [h]
  all_goals simp [image, saving, lock]
theorem test_w59_kept : broughtUp.timersKept := by
  have pass : broughtUp.weu.pass = none := by decide +kernel
  unfold State.timersKept State.settled
  refine ⟨by decide +kernel, by decide +kernel, by decide +kernel, by decide +kernel, by decide +kernel,
    by decide +kernel, by simp [pass], by decide +kernel⟩
theorem test_w59_lamps : broughtUp.lampsKept ∧ (lit false 0).lampsKept := by
  unfold State.lampsKept
  decide +kernel

end Sys2Proof.Machine.Tests
end

section
/-! PROOFS. What a step can do, said once: the request that each request command stands for, and what has to keep a property
for every step to keep it. -/
namespace Sys2Proof.Machine

/-! ### Answers -/

@[simp] theorem Answer.ok_state (s : State) : (Answer.ok s).state = s := rfl
@[simp] theorem Answer.okWith_state (s : State) (body : List Byte) : (Answer.okWith s body).state = s := rfl
@[simp] theorem Answer.refuse_state (s : State) (status : Status) : (Answer.refuse s status).state = s := rfl

/-- A request keeps a property when its own rule does. -/
def Request.Keeps (r : Request) (P : State → Prop) : Prop := ∀ b s, P s → P (r.run b s).state

theorem configuring_keeps {α : Type} (P : State → Prop) (read : Option α) (act : α → Answer) (s : State) (hs : P s)
    (hact : ∀ x, read = some x → P (act x).state) : P (configuring read act s).state := by
  unfold configuring
  split
  · exact hs
  · split
    · exact hs
    · exact hact _ rfl

theorem reading_keeps {α : Type} (P : State → Prop) (read : Option α) (act : α → Answer) (s : State) (hs : P s)
    (hact : ∀ x, read = some x → P (act x).state) : P (reading read act s).state := by
  unfold reading
  split
  · exact hs
  · exact hact _ rfl

/-! ### The receiver -/

/-- What the Link Port does around a request keeps a property: the queue of commands taken from, a byte or a discarded frame
received, step 1 of R175, an overrun, and the beginning of a reply (R173 to R175). -/
structure LinkKeeps (P : State → Prop) : Prop where
  pending : ∀ s l, P s → P (s.setPending l)
  await : ∀ phase s, P s → P (awaitByte phase s)
  short : ∀ s, P s → P (discardShort s)
  mismatch : ∀ tag s, P s → P (discardMismatch tag s)
  good : ∀ s, P s → P (goodFrame s)
  overrun : ∀ tag kind s, P s → P (overrun tag kind s)
  reply : ∀ tag kind status body s, P s → P (beginReply tag kind status body s)

section
variable {P : State → Prop}

theorem Request.judge_keeps {r : Request} (hr : r.Keeps P) (body : List Byte) (s : State) (hs : P s) :
    P (r.judge body s).state := by
  unfold Request.judge
  split
  · exact hs
  · split
    · exact hs
    · exact hr body s hs

theorem Request.take_keeps {r : Request} (hlink : LinkKeeps P) (hr : r.Keeps P) (tag : Byte) (body : List Byte) (s : State)
    (hs : P s) : P (r.take tag body s) := by
  have hgood := hlink.good s hs
  unfold Request.take
  dsimp only
  split
  · exact hlink.overrun _ _ _ hgood
  · exact hlink.reply _ _ _ _ _ (Request.judge_keeps hr body _ hgood)

theorem takeUnknown_keeps (hlink : LinkKeeps P) (tag kind : Byte) (s : State) (hs : P s) : P (takeUnknown tag kind s) := by
  have hgood := hlink.good s hs
  unfold takeUnknown
  dsimp only
  split
  · exact hlink.overrun _ _ _ hgood
  · exact hlink.reply _ _ _ _ _ hgood

theorem takeFrame_keeps (hlink : LinkKeeps P) (hreq : ∀ r ∈ requests, r.Keeps P) (tag kind : Byte) (body : List Byte)
    (s : State) (hs : P s) : P (takeFrame tag kind body s) := by
  unfold takeFrame
  split
  · next r hr => exact Request.take_keeps hlink (hreq r (List.mem_of_find?_eq_some hr)) tag body s hs
  · exact takeUnknown_keeps hlink tag kind s hs

theorem receiveByte_keeps (hlink : LinkKeeps P) (hreq : ∀ r ∈ requests, r.Keeps P) (b : Byte) (s : State) (hs : P s) :
    P (receiveByte b s) := by
  unfold receiveByte gatherByte judgeFrame
  dsimp only
  split
  · split
    · exact hlink.await _ s hs
    · exact hs
  · split
    · exact hlink.short s hs
    · exact hlink.await _ s hs
  · split
    · exact hlink.await _ s hs
    · split
      · exact takeFrame_keeps hlink hreq _ _ _ s hs
      · exact hlink.mismatch _ s hs

/-! ### Commands -/

theorem event_keeps {f : State → State} {s t : State} (hf : P s → P (f s)) (hs : P s) (h : event f s = .next t) : P t := by
  unfold event at h
  cases h
  split
  · exact hf hs
  · exact hs

theorem onTimer_keeps {timer : Option Nat} {f : State → State} {s : State} (hs : P s)
    (hf : ∀ due, timer = some due → P (f (s.reach due))) : P (onTimer timer f s) := by
  cases timer with
  | none => exact hs
  | some due => exact hf due rfl

end

/-- A request command is an event that takes the request of its KIND (R174, R175). -/
theorem exec_request (c : Instr) (tag kind : Byte) (body : List Byte) (hc : frame c = some (tag, kind, body)) :
    ∃ r, (requests.find? fun r => decide (r.kind = kind)) = some r ∧ ∀ s, exec c s = event (r.take tag body) s := by
  cases c <;> cases hc <;> exact ⟨_, rfl, fun _ => rfl⟩

/-- What the Link Port, the requests, the passing of time and the events keep, every step keeps. -/
theorem stepKeeps_of (P : State → Prop) (hlink : LinkKeeps P) (hidle : ∀ s, P s → P s.idle)
    (hreq : ∀ r ∈ requests, r.Keeps P)
    (hevent : ∀ c s t, frame c = none → P s → exec c s = .next t → P t) : StepKeeps P := by
  intro s t hs hstep
  unfold step at hstep
  split at hstep
  · cases hstep
    exact hidle s hs
  · next c rest _ =>
    have hs' := hlink.pending s rest hs
    cases hc : frame c with
    | none => exact hevent c _ t hc hs' hstep
    | some x =>
      obtain ⟨tag, kind, body⟩ := x
      obtain ⟨r, hr, hexec⟩ := exec_request c tag kind body hc
      rw [hexec] at hstep
      exact event_keeps (Request.take_keeps hlink (hreq r (List.mem_of_find?_eq_some hr)) tag body _) hs' hstep

end Sys2Proof.Machine
end

section
/-! PROOFS. O58: every step keeps the sources and statuses of the Quantity Table (R2). What an entry may hold under its source
is said for one entry, and each operation that writes entries, sources or the store keeps it. -/
namespace Sys2Proof.Machine

/-! ### One entry under its source -/

/-- An entry holds what its source allows, and its refresh timer runs under LINK alone (R2, R5). -/
def QSource.admits (c : QSource) (e : Quantity) : Prop :=
  c.allows e.status e.value ∧ (e.refreshDue ≠ Option.none → ∃ limit, c = .link limit)

theorem QSource.admits_fresh (c : QSource) (now : Nat) : c.admits (.fresh now) := by
  refine ⟨?_, fun h => absurd rfl h⟩
  cases c <;> simp [QSource.allows, Quantity.fresh]

@[simp] theorem link_admits (limit : Nat) (e : Quantity) : (QSource.link limit).admits e :=
  ⟨trivial, fun _ => ⟨limit, rfl⟩⟩

theorem scan_admits (f : ScanFields) (e : Quantity) : (QSource.scan f).admits e ↔ e.refreshDue = none := by
  simp [QSource.admits, QSource.allows]

theorem switch_admits (i : Fin 8) (d : Nat) (e : Quantity) :
    (QSource.switch i d).admits e ↔ (e.status = .absent ∨ e.status = .valid) ∧ e.refreshDue = none := by
  simp [QSource.admits, QSource.allows]

theorem duty_admits (e : Quantity) :
    QSource.duty.admits e ↔ (e.status = .absent ∨ e.status = .valid) ∧ e.refreshDue = none := by
  simp [QSource.admits, QSource.allows]

/-- A configuration that keeps source and binding leaves what the new source allows (R17). -/
theorem Quantity.reconfigured_admitted (e : Quantity) (old new : QSource) (now : Nat) (hsame : old.same new = true)
    (h : old.admits e) : new.admits (e.reconfigured old new now) := by
  cases old <;> cases new <;> simp only [QSource.same, Bool.false_eq_true] at hsame
  case none.none => exact h
  case scan.scan f f' =>
    simp only [scan_admits] at h ⊢
    simp only [Quantity.reconfigured]
    split <;> exact h
  case switch.switch => simpa only [Quantity.reconfigured, switch_admits] using h
  case link.link => exact link_admits _ _
  case duty.duty => exact h

/-! ### The sources of a configuration and the store -/

/-- What the store and the lock cell have to hold for a load and a save to keep the sources (R190, R191). -/
def Store.sourcesFixed (c : Store) : Prop :=
  (∀ x check, c.image = .held x check → x.sourcesFixed) ∧ (∀ x, c.saving = some x → x.sourcesFixed) ∧
    ∀ k, c.lock = some k → ∀ x ∈ k.quantities, x.1.val < 44

/-- The kept property, entry by entry and block by block. -/
theorem State.quantitiesKept_iff (s : State) : s.quantitiesKept ↔
    (∀ q, (s.cfg.sources.get q).admits (s.entry q)) ∧ s.cfg.sourcesFixed ∧ s.cs.sourcesFixed := by
  simp only [State.quantitiesKept, State.everySettings, QSource.admits, Store.sourcesFixed, forall_and]
  tauto

/-- One source replaced by one that is DUTY for Q44-Q47 alone. -/
theorem Table.set_sourcesFixed (c : Settings) (q : Fin 48) (new : QSource) (h : c.sourcesFixed)
    (hnew : new = .duty ↔ 44 ≤ q.val) : ({ c with sources := c.sources.set q new } : Settings).sourcesFixed := by
  intro p
  by_cases hp : p = q
  · subst hp
    simpa using hnew
  · simpa [Table.get_set_ne _ _ hp] using h p

theorem Settings.builtIn_sourcesFixed : Settings.builtIn.sourcesFixed := by
  intro q
  simp [Settings.builtIn, QSource.builtIn]

theorem calibrated_ne_duty (c : QSource) (input : Fin 16) (gain offset : Int) :
    c.calibrated input gain offset ≠ .duty := by
  cases c <;> simp [QSource.calibrated]
  split <;> simp

/-- The lock cell laid over settings keeps their sources within R2 (R190). -/
theorem LockCell.over_sourcesFixed (k : LockCell) (c : Settings) (hk : ∀ x ∈ k.quantities, x.1.val < 44)
    (hc : c.sourcesFixed) : (k.over c).sourcesFixed := by
  have fold : ∀ (l : List (Fin 48 × Fin 16 × Int × Int)) (t : Table 48 QSource), (∀ x ∈ l, x.1.val < 44) →
      (∀ q : Fin 48, t.get q = .duty ↔ 44 ≤ q.val) →
      ∀ q : Fin 48, (l.foldl (fun t x => t.set x.1 ((t.get x.1).calibrated x.2.1 x.2.2.1 x.2.2.2)) t).get q = .duty ↔
        44 ≤ q.val := by
    intro l
    induction l with
    | nil => exact fun _ _ ht => ht
    | cons x l ih =>
      intro t hl ht
      refine ih _ (fun y hy => hl y (List.mem_cons_of_mem _ hy)) (fun q => ?_)
      by_cases hq : q = x.1
      · subst hq
        have := hl x List.mem_cons_self
        simp [calibrated_ne_duty]
        omega
      · rw [Table.get_set_ne _ _ hq]
        exact ht q
  exact fold k.quantities c.sources hk hc

theorem Store.locked_sourcesFixed (c : Store) (x : Settings) (hc : c.sourcesFixed) (hx : x.sourcesFixed) :
    (c.locked x).sourcesFixed := by
  unfold Store.locked
  split
  · exact hx
  · next k hk => exact k.over_sourcesFixed x (hc.2.2 k hk) hx

theorem Store.abandoned_sourcesFixed (c : Store) (hc : c.sourcesFixed) : c.abandoned.sourcesFixed := by
  obtain ⟨himage, hsaving, hlock⟩ := hc
  unfold Store.abandoned
  split
  · exact ⟨himage, hsaving, hlock⟩
  · next x hx =>
    refine ⟨fun y check hy => ?_, by simp, hlock⟩
    simp only [StoredImage.brokenOff, StoredImage.held.injEq] at hy
    exact hy.1 ▸ hsaving x hx

theorem Store.afterReset_sourcesFixed (c : Store) (hc : c.sourcesFixed) : c.afterReset.sourcesFixed := by
  obtain ⟨himage, -, hlock⟩ := c.abandoned_sourcesFixed hc
  exact ⟨himage, by simp [Store.afterReset], hlock⟩

/-- The settings that a load puts in force (R190). -/
theorem Store.loaded_sourcesFixed (c : Store) (hc : c.sourcesFixed) : c.loaded.sourcesFixed := by
  refine c.locked_sourcesFixed _ hc ?_
  cases himage : c.image with
  | absent => exact Settings.builtIn_sourcesFixed
  | held x check =>
    unfold StoredImage.read
    dsimp only
    split
    · exact hc.1 x check himage
    · exact Settings.builtIn_sourcesFixed

/-- The calibration part names quantities with source SCAN alone, which none of Q44-Q47 has (R192). -/
theorem Settings.calibrationPart_below (c : Settings) (hc : c.sourcesFixed) :
    ∀ x ∈ c.calibrationPart.quantities, x.1.val < 44 := by
  intro x hx
  simp only [Settings.calibrationPart, List.mem_filterMap] at hx
  obtain ⟨q, -, hq⟩ := hx
  cases hsource : c.sources.get q <;> simp only [hsource, reduceCtorEq, Option.some.injEq] at hq
  subst hq
  by_contra h
  have := (hc q).mpr (by simpa using h)
  simp [hsource] at this

/-! ### What keeps the property -/

/-- A change of neither sources nor entries nor store. -/
theorem State.quantitiesKept.of_same {s t : State} (h : s.quantitiesKept) (hsources : t.cfg.sources = s.cfg.sources)
    (hqt : t.qt.entries = s.qt.entries) (hcs : t.cs = s.cs) : t.quantitiesKept := by
  rw [State.quantitiesKept_iff] at h ⊢
  simp only [State.entry, Settings.sourcesFixed, hsources, hqt, hcs]
  exact h

theorem setEntry_quantitiesKept {s : State} {q : Fin 48} {e : Quantity} (h : s.quantitiesKept)
    (he : (s.cfg.sources.get q).admits e) : (s.setEntry q e).quantitiesKept := by
  rw [State.quantitiesKept_iff] at h ⊢
  obtain ⟨hentries, hcfg, hcs⟩ := h
  refine ⟨fun p => ?_, by simpa using hcfg, by simpa using hcs⟩
  by_cases hp : p = q
  · subst hp
    simpa using he
  · simpa [hp] using hentries p

theorem hand_quantitiesKept {s : State} (k : ReportKind) (a b : Nat) (h : s.quantitiesKept) :
    (hand k a b s).quantitiesKept := h.of_same (by simp) (by simp) (by simp)

theorem writeEntry_quantitiesKept {s : State} {q : Fin 48} {e : Quantity} (h : s.quantitiesKept)
    (he : (s.cfg.sources.get q).admits e) : (writeEntry q e s).quantitiesKept := by
  unfold writeEntry
  split
  · exact (setEntry_quantitiesKept h he).of_same (by simp) (by simp) (by simp)
  · exact setEntry_quantitiesKept h he

theorem handRecovered_quantitiesKept {s : State} (q : Fin 48) (before : QStatus) (h : s.quantitiesKept) :
    (handRecovered q before s).quantitiesKept := h.of_same (by simp) (by simp) (by simp)

theorem State.quantitiesKept.admitted {s : State} (h : s.quantitiesKept) (q : Fin 48) :
    (s.cfg.sources.get q).admits (s.entry q) := ((State.quantitiesKept_iff s).mp h).1 q

theorem State.quantitiesKept.cfg {s : State} (h : s.quantitiesKept) : s.cfg.sourcesFixed :=
  ((State.quantitiesKept_iff s).mp h).2.1

theorem State.quantitiesKept.cs {s : State} (h : s.quantitiesKept) : s.cs.sourcesFixed :=
  ((State.quantitiesKept_iff s).mp h).2.2

/-! ### Writes into the table -/

theorem applyPair_quantitiesKept (first : Byte) (v : Int) (s : State) (h : s.quantitiesKept) :
    (applyPair first v s).1.quantitiesKept := by
  unfold applyPair
  split
  · exact h
  · next q _ =>
    split
    · next limit hsource =>
      have hall : ∀ e, (s.cfg.sources.get q).admits e := fun e => by rw [hsource]; exact link_admits limit e
      dsimp only
      split
      · unfold applyFaultMarker
        dsimp only
        split
        · exact setEntry_quantitiesKept h (hall _)
        · exact hand_quantitiesKept _ _ _ (setEntry_quantitiesKept h (hall _))
      · exact handRecovered_quantitiesKept _ _ (writeEntry_quantitiesKept h (hall _))
    all_goals exact h

theorem applyPairs_quantitiesKept (b : List Byte) (s : State) (h : s.quantitiesKept) :
    (applyPairs b s).1.quantitiesKept := by
  fun_induction applyPairs b s with
  | case1 first hi lo rest s one more ih => exact ih (applyPair_quantitiesKept first _ s h)
  | case2 => exact h

theorem refreshExpired_quantitiesKept (q : Fin 48) (s : State) (limit : Nat) (hsource : s.cfg.sources.get q = .link limit)
    (h : s.quantitiesKept) : (refreshExpired q s).quantitiesKept := by
  have hall : ∀ e, (s.cfg.sources.get q).admits e := fun e => by rw [hsource]; exact link_admits limit e
  unfold refreshExpired
  dsimp only
  split
  · exact hand_quantitiesKept _ _ _ (setEntry_quantitiesKept h (hall _))
  · exact setEntry_quantitiesKept h (hall _)

/-- A scan-sourced entry may be written in every way that leaves its refresh timer alone. -/
theorem State.quantitiesKept.admits_scan {s : State} (h : s.quantitiesKept) {q : Fin 48} {f : ScanFields}
    (hsource : s.cfg.sources.get q = .scan f) (e : Quantity) (he : e.refreshDue = (s.entry q).refreshDue) :
    (s.cfg.sources.get q).admits e := by
  have hentry := h.admitted q
  rw [hsource, scan_admits] at hentry ⊢
  exact he.trans hentry

theorem deliverInLimit_quantitiesKept (q : Fin 48) (f f' : ScanFields) (filtered : Nat) (s : State)
    (hsource : s.cfg.sources.get q = .scan f') (h : s.quantitiesKept) :
    (deliverInLimit q f filtered s).quantitiesKept := by
  have hall := h.admits_scan hsource
  unfold deliverInLimit
  dsimp only
  split
  · exact writeEntry_quantitiesKept h (hall _ rfl)
  · exact writeEntry_quantitiesKept h (hall _ rfl)
  · exact handRecovered_quantitiesKept _ _ (writeEntry_quantitiesKept h (hall _ rfl))
  · split
    · exact handRecovered_quantitiesKept _ _ (writeEntry_quantitiesKept h (hall _ rfl))
    · exact setEntry_quantitiesKept h (hall _ rfl)

theorem deliverOutOfLimit_quantitiesKept (q : Fin 48) (f f' : ScanFields) (detail : Nat) (s : State)
    (hsource : s.cfg.sources.get q = .scan f') (h : s.quantitiesKept) :
    (deliverOutOfLimit q f detail s).quantitiesKept := by
  have hall := h.admits_scan hsource
  unfold deliverOutOfLimit
  dsimp only
  split
  · exact setEntry_quantitiesKept h (hall _ rfl)
  · split
    · exact hand_quantitiesKept _ _ _ (setEntry_quantitiesKept h (hall _ rfl))
    · exact setEntry_quantitiesKept h (hall _ rfl)

theorem deliver_quantitiesKept (input : Fin 16) (raw filtered : Nat) (q : Fin 48) (s : State) (h : s.quantitiesKept) :
    (deliver input raw filtered q s).quantitiesKept := by
  unfold deliver
  split
  · next f hsource =>
    split
    · split
      · exact deliverOutOfLimit_quantitiesKept q f f 1 s hsource h
      · split
        · exact deliverOutOfLimit_quantitiesKept q f f 2 s hsource h
        · exact deliverInLimit_quantitiesKept q f f filtered s hsource h
    · exact h
  all_goals exact h

theorem scanStopped_quantitiesKept (q : Fin 48) (s : State) (h : s.quantitiesKept) : (scanStopped q s).quantitiesKept := by
  unfold scanStopped
  split
  · next f hsource =>
    have hall := h.admits_scan hsource
    dsimp only
    split
    · exact hand_quantitiesKept _ _ _ (setEntry_quantitiesKept h (hall _ rfl))
    · exact setEntry_quantitiesKept h (hall _ rfl)
  all_goals exact h

/-- A switch-sourced entry may be written VALID, or with the status it has (R11). -/
theorem State.quantitiesKept.admits_switch {s : State} (h : s.quantitiesKept) {q : Fin 48} {i : Fin 8} {d : Nat}
    (hsource : s.cfg.sources.get q = .switch i d) (e : Quantity) (hstatus : e.status = .valid ∨ e.status = (s.entry q).status)
    (hdue : e.refreshDue = (s.entry q).refreshDue) : (s.cfg.sources.get q).admits e := by
  have hentry := h.admitted q
  rw [hsource, switch_admits] at hentry ⊢
  refine ⟨?_, hdue.trans hentry.2⟩
  rcases hstatus with hstatus | hstatus <;> rw [hstatus]
  · exact Or.inr rfl
  · exact hentry.1

theorem sampleSwitch_quantitiesKept (levels : BitVec 8) (q : Fin 48) (s : State) (h : s.quantitiesKept) :
    (sampleSwitch levels q s).quantitiesKept := by
  unfold sampleSwitch
  split
  · next i d hsource =>
    have hall := h.admits_switch hsource
    exact iteInduction (fun _ => writeEntry_quantitiesKept h (hall _ (Or.inl rfl) rfl))
      (fun _ => setEntry_quantitiesKept h (hall _ (Or.inr rfl) rfl))
  all_goals exact h

/-- A derived quantity may be written VALID or ABSENT (R12). -/
theorem writeDuty_quantitiesKept {s : State} {i : Fin 2} {daily : Bool} {e : Quantity} (h : s.quantitiesKept)
    (hstatus : e.status = .absent ∨ e.status = .valid)
    (hdue : e.refreshDue = (s.entry (derivedQuantity i daily)).refreshDue) :
    (writeEntry (derivedQuantity i daily) e s).quantitiesKept := by
  have hsource : s.cfg.sources.get (derivedQuantity i daily) = .duty :=
    (h.cfg _).mpr (by simp [derivedQuantity]; omega)
  have hentry := (duty_admits _).mp (hsource ▸ h.admitted (derivedQuantity i daily))
  exact writeEntry_quantitiesKept h (by rw [hsource, duty_admits]; exact ⟨hstatus, hdue.trans hentry.2⟩)

theorem writeRemaining_quantitiesKept (i : Fin 2) (daily : Bool) (s : State) (h : s.quantitiesKept) :
    (writeRemaining i daily s).quantitiesKept := by
  unfold writeRemaining
  exact writeDuty_quantitiesKept h (Or.inr rfl) rfl

theorem writeDerived_quantitiesKept (i : Fin 2) (s : State) (h : s.quantitiesKept) : (writeDerived i s).quantitiesKept :=
  writeRemaining_quantitiesKept i true _ (writeRemaining_quantitiesKept i false s h)

theorem writeAbsent_quantitiesKept (i : Fin 2) (daily : Bool) (s : State) (h : s.quantitiesKept) :
    (writeAbsent (derivedQuantity i daily) s).quantitiesKept := by
  unfold writeAbsent
  exact writeDuty_quantitiesKept h (Or.inl rfl) rfl

theorem configureEntry_quantitiesKept (q : Fin 48) (new : QSource) (s : State) (hnew : new = .duty ↔ 44 ≤ q.val)
    (h : s.quantitiesKept) : (configureEntry q new s).quantitiesKept := by
  have hadmits : new.admits (if (s.cfg.sources.get q).same new then (s.entry q).reconfigured (s.cfg.sources.get q) new s.now
      else .fresh s.now) := by
    split
    · next hsame => exact (s.entry q).reconfigured_admitted _ _ _ hsame (h.admitted q)
    · exact new.admits_fresh s.now
  rw [State.quantitiesKept_iff]
  refine ⟨fun p => ?_, ?_, by simpa using h.cs⟩
  · by_cases hp : p = q
    · subst hp
      simpa [configureEntry] using hadmits
    · simpa [configureEntry, hp, Table.get_set_ne _ _ hp] using h.admitted p
  · simpa [configureEntry] using Table.set_sourcesFixed s.cfg q new h.cfg hnew

/-! ### Duty: the accounting, the cards and the settings -/

theorem recomputeStages_quantitiesKept (i : Fin 2) (s : State) (h : s.quantitiesKept) :
    (recomputeStages i s).quantitiesKept := h.of_same (by simp) (by simp) (by simp)

@[simp] theorem loadStaged_sources (i : Fin 2) (s : State) : (loadStaged i s).cfg.sources = s.cfg.sources := by
  unfold loadStaged
  split <;> simp

@[simp] theorem dayStart_sources (i : Fin 2) (s : State) : (dayStart i s).cfg.sources = s.cfg.sources := by
  unfold dayStart
  dsimp only
  split <;> simp

theorem account_quantitiesKept (i : Fin 2) (s : State) (h : s.quantitiesKept) : (account i s).quantitiesKept := by
  unfold account
  split
  · refine writeDerived_quantitiesKept i _ ?_
    split <;> exact h.of_same (by simp) (by simp) (by simp)
  · exact h

theorem minuteExpired_quantitiesKept (due : Nat) (slot2First : Bool) (s : State) (h : s.quantitiesKept) :
    (minuteExpired due slot2First s).quantitiesKept := by
  unfold minuteExpired
  dsimp only
  have h1 := h.of_same (t := s.setDtu { s.dtu with
    clock := gain 4294967295 s.dtu.clock, minuteDue := due + Config.minutes 1 }) rfl rfl rfl
  split
  · exact account_quantitiesKept 0 _ (account_quantitiesKept 1 _ h1)
  · exact account_quantitiesKept 1 _ (account_quantitiesKept 0 _ h1)

theorem dutyReconfigured_quantitiesKept (i : Fin 2) (s : State) (h : s.quantitiesKept) :
    (dutyReconfigured i s).quantitiesKept := by
  unfold dutyReconfigured
  split
  · exact writeDerived_quantitiesKept i _ (h.of_same (by simp) (by simp) (by simp))
  · exact h

theorem configureDuty_quantitiesKept (c : DutySettings) (s : State) (h : s.quantitiesKept) :
    (configureDuty c s).quantitiesKept :=
  dutyReconfigured_quantitiesKept 1 _ (dutyReconfigured_quantitiesKept 0 _
    (h.of_same (t := s.setCfg { s.cfg with duty := c }) rfl rfl rfl))

theorem insertCard_quantitiesKept (i : Fin 2) (token : BitVec 32) (activity : Activity) (c : Summary) (s : State)
    (h : s.quantitiesKept) : (insertCard i token activity c s).quantitiesKept := by
  unfold insertCard
  exact writeDerived_quantitiesKept i _ (h.of_same (by simp) (by simp) (by simp))

theorem removeCard_quantitiesKept (i : Fin 2) (s : State) (h : s.quantitiesKept) : (removeCard i s).quantitiesKept := by
  unfold removeCard
  exact writeAbsent_quantitiesKept i true _ (writeAbsent_quantitiesKept i false _
    (h.of_same (by simp) (by simp) (by simp)))

/-! ### The scan and the power states -/

theorem stopScan_quantitiesKept (s : State) (h : s.quantitiesKept) : (stopScan s).quantitiesKept :=
  forEach_keeps State.quantitiesKept scanStopped scanStopped_quantitiesKept _ (h.of_same (by simp) (by simp) (by simp))

theorem nextConversion_quantitiesKept (s : State) (h : s.quantitiesKept) : (nextConversion s).quantitiesKept := by
  unfold nextConversion
  split
  · split
    · exact stopScan_quantitiesKept s h
    all_goals exact h.of_same (by simp) (by simp) (by simp)
  · exact h.of_same (by simp) (by simp) (by simp)

theorem completeConversion_quantitiesKept (f : Flight) (raw : Nat) (s : State) (h : s.quantitiesKept) :
    (completeConversion f raw s).quantitiesKept := by
  unfold completeConversion
  split
  · exact nextConversion_quantitiesKept s h
  · next e _ =>
    have htaken : (takeResult f.position e raw s).quantitiesKept :=
      forEach_keeps State.quantitiesKept _ (fun q t => deliver_quantitiesKept _ _ _ q t) _
        (h.of_same (by simp) (by simp) (by simp))
    exact nextConversion_quantitiesKept _ (htaken.of_same (by simp) (by simp) (by simp))

theorem scanAtSleep_quantitiesKept (s : State) (h : s.quantitiesKept) : (scanAtSleep s).quantitiesKept := by
  unfold scanAtSleep
  dsimp only
  split
  · exact h.of_same (by simp) (by simp) (by simp)
  · exact (stopScan_quantitiesKept s h).of_same (by simp) (by simp) (by simp)

theorem enterSleep_quantitiesKept (s : State) (h : s.quantitiesKept) : (enterSleep s).quantitiesKept := by
  have hscan := scanAtSleep_quantitiesKept (handPowerState PowerState.parking.number .gaugesParked
    (s.setPower .sleep .stopped)) (h.of_same (by simp) (by simp) (by simp))
  exact hscan.of_same (by simp [enterSleep]) (by simp [enterSleep]) (by simp [enterSleep])

/-- The one change of power state that writes entries is the entry to SLEEP, with its stop of the scan (R168). -/
theorem judgePower_quantitiesKept (s : State) (h : s.quantitiesKept) : (judgePower s).quantitiesKept := by
  unfold judgePower
  split
  · split
    · exact h.of_same (by simp) (by simp) (by simp)
    · exact h
  · split
    · exact enterSleep_quantitiesKept s h
    · exact h
  all_goals exact h

theorem enterParkingState_quantitiesKept (s : State) (h : s.quantitiesKept) : (enterParkingState s).quantitiesKept :=
  judgePower_quantitiesKept _ (h.of_same (by simp) (by simp) (by simp))

/-! ### The store and the resets -/

/-- A change of the store alone. -/
theorem State.quantitiesKept.of_store {s t : State} (h : s.quantitiesKept) (hsources : t.cfg.sources = s.cfg.sources)
    (hqt : t.qt.entries = s.qt.entries) (hcs : t.cs.sourcesFixed) : t.quantitiesKept := by
  rw [State.quantitiesKept_iff] at h ⊢
  obtain ⟨hentries, hcfg, -⟩ := h
  simp only [State.entry, Settings.sourcesFixed, hsources, hqt]
  exact ⟨hentries, hcfg, hcs⟩

theorem beginSave_quantitiesKept (s : State) (h : s.quantitiesKept) : (beginSave s).quantitiesKept := by
  obtain ⟨himage, -, hlock⟩ := h.cs
  refine h.of_store rfl rfl ⟨himage, fun x hx => ?_, hlock⟩
  cases hx
  exact s.cs.locked_sourcesFixed s.cfg h.cs h.cfg

theorem setLock_quantitiesKept (s : State) (h : s.quantitiesKept) : (setLock s).quantitiesKept := by
  obtain ⟨himage, hsaving, -⟩ := h.cs
  unfold setLock
  split
  · exact h
  · refine h.of_store rfl rfl ⟨himage, hsaving, fun k hk => ?_⟩
    cases hk
    exact s.cfg.calibrationPart_below h.cfg

/-- Whatever a failed save leaves, the image holds the settings before it or the ones written (R191). -/
theorem imageLeft_settings (left : ImageLeft) (before : StoredImage) (written x : Settings) (check : BitVec 16)
    (h : ImageLeft.image left before written = .held x check) : before = .held x check ∨ x = written := by
  cases left
  case previous => exact Or.inl h
  all_goals
    simp only [ImageLeft.image, StoredImage.written, StoredImage.brokenOff, StoredImage.held.injEq] at h
    exact Or.inr h.1.symm

theorem endSave_quantitiesKept (written : Settings) (outcome : SaveOutcome) (s : State)
    (hsaving : s.cs.saving = some written) (h : s.quantitiesKept) : (endSave written outcome s).quantitiesKept := by
  obtain ⟨himage, hfixed, hlock⟩ := h.cs
  have hwritten := hfixed written hsaving
  cases outcome with
  | completed =>
    refine h.of_store (by simp [endSave]) (by simp [endSave]) ?_
    refine ⟨fun x check hx => ?_, by simp [endSave], by simpa [endSave] using hlock⟩
    simp only [endSave, hand_frame, State.setCs_cs, StoredImage.written, StoredImage.held.injEq] at hx
    exact hx.1 ▸ hwritten
  | failed left =>
    refine h.of_store (by simp [endSave]) (by simp [endSave]) ?_
    refine ⟨fun x check hx => ?_, by simp [endSave], by simpa [endSave] using hlock⟩
    simp only [endSave, hand_frame, State.setCs_cs] at hx
    rcases imageLeft_settings left _ _ _ _ hx with hx | rfl
    · exact himage x check hx
    · exact hwritten

/-- Every block in its reset state: all entries ABSENT (R20). -/
theorem resetBlocks_quantitiesKept (c : Settings) (store : Store) (duty : Duty) (sampleDue keyDue : Nat) (keyOn : Bool)
    (s : State) (hc : c.sourcesFixed) (hstore : store.sourcesFixed) :
    (resetBlocks c store duty sampleDue keyDue keyOn s).quantitiesKept := by
  rw [State.quantitiesKept_iff]
  refine ⟨fun q => ?_, hc, hstore⟩
  simpa [State.entry, resetBlocks] using (c.sources.get q).admits_fresh s.now

theorem choosePower_quantitiesKept (cause : PowerCause) (s : State) (h : s.quantitiesKept) :
    (choosePower cause s).quantitiesKept := h.of_same (by simp) (by simp) (by simp)

theorem powerOn_quantitiesKept (keyOn : Bool) (s : State) (h : s.quantitiesKept) : (powerOn keyOn s).quantitiesKept := by
  have hstore := s.cs.afterReset_sourcesFixed h.cs
  exact choosePower_quantitiesKept .powerOn _ (resetBlocks_quantitiesKept _ _ _ _ _ keyOn s
    (s.cs.afterReset.loaded_sourcesFixed hstore) hstore)

theorem writeDerivedIfPresent_quantitiesKept (i : Fin 2) (s : State) (h : s.quantitiesKept) :
    (writeDerivedIfPresent i s).quantitiesKept := by
  unfold writeDerivedIfPresent
  split
  · exact writeDerived_quantitiesKept i s h
  · exact h

theorem linkReset_quantitiesKept (keyOn : Bool) (s : State) (h : s.quantitiesKept) :
    (linkReset keyOn s).quantitiesKept := by
  have hstore := s.cs.afterReset_sourcesFixed h.cs
  exact choosePower_quantitiesKept .linkReset _ (writeDerivedIfPresent_quantitiesKept 1 _
    (writeDerivedIfPresent_quantitiesKept 0 _ (resetBlocks_quantitiesKept _ _ _ _ _ keyOn s
      (s.cs.afterReset.loaded_sourcesFixed hstore) hstore)))

theorem replySent_quantitiesKept (keyOn : Bool) (r : Reply) (s : State) (h : s.quantitiesKept) :
    (replySent keyOn r s).quantitiesKept := by
  unfold replySent
  split
  · exact linkReset_quantitiesKept keyOn s h
  · exact h.of_same rfl rfl rfl

theorem loseSupply_quantitiesKept (s : State) (h : s.quantitiesKept) : (loseSupply s).quantitiesKept := by
  have hreset := resetBlocks_quantitiesKept .builtIn _ (.afterPowerOn s.now) (s.now + Config.sampleInterval)
    (s.now + Config.sampleInterval) false s Settings.builtIn_sourcesFixed (s.cs.abandoned_sourcesFixed h.cs)
  exact hreset.of_same rfl rfl rfl

/-! ### Requests -/

theorem linkKeeps_quantitiesKept : LinkKeeps State.quantitiesKept where
  pending _ _ h := h.of_same rfl rfl rfl
  await _ _ h := h.of_same (by simp) (by simp) (by simp)
  short _ h := h.of_same (by simp) (by simp) (by simp)
  mismatch _ _ h := h.of_same (by simp) (by simp) (by simp)
  good _ h := h.of_same (by simp) (by simp) (by simp)
  overrun _ _ _ h := h.of_same (by simp) (by simp) (by simp)
  reply _ _ _ _ _ h := h.of_same (by simp) (by simp) (by simp)

/-- Neither sources nor entries nor the store have changed. -/
def SameQuantities (s t : State) : Prop := t.cfg.sources = s.cfg.sources ∧ t.qt = s.qt ∧ t.cs = s.cs

theorem SameQuantities.refl (s : State) : SameQuantities s s := ⟨rfl, rfl, rfl⟩

theorem SameQuantities.of_parts {s t : State} (hcfg : t.cfg = s.cfg) (hqt : t.qt = s.qt) (hcs : t.cs = s.cs) :
    SameQuantities s t := ⟨by rw [hcfg], hqt, hcs⟩

theorem SameQuantities.keeps {s t : State} (hst : SameQuantities s t) (h : s.quantitiesKept) : t.quantitiesKept :=
  h.of_same hst.1 (by rw [hst.2.1]) hst.2.2

theorem keeps_of_same {r : Request} (hr : ∀ b s, SameQuantities s (r.run b s).state) : r.Keeps State.quantitiesKept :=
  fun b s h => (hr b s).keeps h

/-- A request that reads its fields keeps what its action keeps. -/
theorem keeps_of_reading {P : State → Prop} {r : Request} {α : Type} {read : List Byte → State → Option α}
    {act : List Byte → State → α → Answer} (hrun : ∀ b s, r.run b s = reading (read b s) (act b s) s)
    (hact : ∀ b s x, read b s = some x → P s → P (act b s x).state) : r.Keeps P := by
  intro b s hs
  rw [hrun]
  exact reading_keeps P _ _ s hs fun x hx => hact b s x hx hs

/-- A request that changes the configuration keeps what its action keeps. -/
theorem keeps_of_configuring {P : State → Prop} {r : Request} {α : Type} {read : List Byte → State → Option α}
    {act : List Byte → State → α → Answer} (hrun : ∀ b s, r.run b s = configuring (read b s) (act b s) s)
    (hact : ∀ b s x, read b s = some x → P s → P (act b s x).state) : r.Keeps P := by
  intro b s hs
  rw [hrun]
  exact configuring_keeps P _ _ s hs fun x hx => hact b s x hx hs

/-! The settings other than the sources, and the requests with a rule of their own. -/

theorem reconfigureWarning_same (w : Fin 48) (c : WarnSettings) (s : State) :
    SameQuantities s (reconfigureWarning w c s) := by
  refine ⟨?_, by simp, by simp⟩
  simp only [reconfigureWarning]
  (repeat' split) <;> simp [State.setWarnSettings]

theorem configureCriterion_same (w : Fin 48) (c : Criterion) (s : State) : SameQuantities s (configureCriterion w c s) :=
  ⟨by simp [configureCriterion], by simp, by simp⟩

theorem configureLamp_same (l : Fin 32) (c : LampSettings) (s : State) : SameQuantities s (configureLamp l c s) := by
  refine ⟨?_, by simp, by simp⟩
  simp only [configureLamp]
  split <;> simp

theorem setRestingPage_same (page : Option (Fin 64)) (s : State) : SameQuantities s (setRestingPage page s) := by
  refine ⟨?_, by simp, by simp⟩
  simp only [setRestingPage]
  split <;> simp

theorem configureGauge_same (g : Fin 6) (c : GaugeSettings) (s : State) : SameQuantities s (configureGauge g c s) := by
  refine ⟨?_, by simp, by simp⟩
  simp [configureGauge]

theorem configuredGauge_state (c : GaugeSettings) (after : State) : (configuredGauge c after).state = after := by
  unfold configuredGauge
  split <;> rfl

theorem storeActivity_same (i : Fin 2) (a : Activity) (s : State) : SameQuantities s (storeActivity i a s).state := by
  unfold storeActivity
  split <;> exact .of_parts (by simp) (by simp) (by simp)

theorem applyLampPair_same (index level : Byte) (s : State) : SameQuantities s (applyLampPair index level s).1 := by
  unfold applyLampPair
  split
  · split
    · exact .of_parts (by simp) (by simp) (by simp)
    · exact .refl s
  · exact .refl s

theorem applyLampPairs_keeps (b : List Byte) (s : State) (h : s.quantitiesKept) :
    (applyLampPairs b s).1.quantitiesKept := by
  fun_induction applyLampPairs b s with
  | case1 index level rest s one more ih => exact ih ((applyLampPair_same index level s).keeps h)
  | case2 => exact h

theorem acknowledgeByHost_same (w : Fin 48) (s : State) : SameQuantities s (acknowledgeByHost w s).state := by
  unfold acknowledgeByHost
  (repeat' split) <;> exact .of_parts (by simp) (by simp) (by simp)

theorem clearByHost_same (w : Fin 48) (s : State) : SameQuantities s (clearByHost w s).state := by
  unfold clearByHost
  split <;> exact .of_parts (by simp) (by simp) (by simp)

theorem suppressByHost_same (w : Fin 48) (s : State) : SameQuantities s (suppressByHost w s).state := by
  unfold suppressByHost
  split <;> exact .of_parts (by simp) (by simp) (by simp)

theorem restoreByHost_same (w : Fin 48) (s : State) : SameQuantities s (restoreByHost w s).state := by
  unfold restoreByHost
  split <;> exact .of_parts (by simp) (by simp) (by simp)

theorem parkGauge_quantitiesKept (g : Fin 6) (s : State) (h : s.quantitiesKept) :
    (parkGauge g s).state.quantitiesKept := by
  unfold parkGauge
  split
  · exact h
  · split
    · exact h
    · exact judgePower_quantitiesKept _ (h.of_same (by simp) (by simp) (by simp))

theorem homeGauge_quantitiesKept (g : Fin 6) (s : State) (h : s.quantitiesKept) : (homeGauge g s).quantitiesKept :=
  judgePower_quantitiesKept _ (h.of_same (by simp) (by simp) (by simp))

theorem positionGauge_quantitiesKept (g : Fin 6) (p : Nat) (s : State) (h : s.quantitiesKept) :
    (positionGauge g p s).quantitiesKept :=
  judgePower_quantitiesKept _ (h.of_same (by simp) (by simp) (by simp))

/-- CONFIGURE QUANTITY reads DUTY for Q44-Q47 and for them alone (R15). -/
theorem readQuantityConfig_duty {b : List Byte} {q : Fin 48} {c : QSource} (h : readQuantityConfig b = some (q, c)) :
    c = .duty ↔ 44 ≤ q.val := by
  simp only [readQuantityConfig, Option.bind_eq_bind, Option.bind_eq_some_iff, readWhen, Option.ite_none_right_eq_some,
    decide_eq_true_eq, Option.some.injEq, Prod.mk.injEq] at h
  obtain ⟨q', -, c', -, hduty, rfl, rfl⟩ := h
  exact hduty

theorem linkRequests_keepQuantities : ∀ r ∈ [fetchReportsRequest, statusRequest, identifyRequest, setRouteRequest,
    configureLinkRequest, resetRequest], r.Keeps State.quantitiesKept := by
  simp only [List.forall_mem_cons, List.not_mem_nil, false_imp_iff, implies_true, and_true]
  refine ⟨keeps_of_reading (fun _ _ => rfl) ?_, fun _ _ h => h, fun _ _ h => h, keeps_of_configuring (fun _ _ => rfl) ?_,
    keeps_of_configuring (fun _ _ => rfl) ?_, fun _ _ h => h⟩
  · exact fun b s n _ h => h.of_same (by simp [fetchReports]) (by simp [fetchReports]) (by simp [fetchReports])
  · exact fun b s x _ h => h.of_same rfl rfl rfl
  · exact fun b s c _ h => h.of_same (by simp [configureLink]) (by simp) (by simp)

theorem powerRequests_keepQuantities : ∀ r ∈ [sleepRequest, wakeRequest, configurePowerRequest],
    r.Keeps State.quantitiesKept := by
  simp only [List.forall_mem_cons, List.not_mem_nil, false_imp_iff, implies_true, and_true]
  refine ⟨fun b s h => ?_, fun b s h => ?_, keeps_of_configuring (fun _ _ => rfl) fun b s c _ h => h.of_same rfl rfl rfl⟩
  · simp only [sleepRequest]
    split
    · exact h
    · exact h
    · split
      · exact h
      · exact enterParkingState_quantitiesKept s h
    · exact h
  · simp only [wakeRequest]
    split <;> exact h.of_same (by simp) (by simp) (by simp)

theorem storeRequests_keepQuantities : ∀ r ∈ [saveConfigurationRequest, lockCalibrationRequest,
    readConfigurationRequest], r.Keeps State.quantitiesKept := by
  simp only [List.forall_mem_cons, List.not_mem_nil, false_imp_iff, implies_true, and_true]
  refine ⟨fun b s h => ?_, fun b s h => ?_, keeps_of_reading (fun _ _ => rfl) fun b s x _ h => h⟩
  · simp only [saveConfigurationRequest]
    split
    · exact h
    · exact beginSave_quantitiesKept s h
  · simp only [lockCalibrationRequest]
    split
    · exact h
    · split
      · exact h
      · exact setLock_quantitiesKept s h

theorem quantityRequests_keepQuantities : ∀ r ∈ [configureQuantityRequest, setQuantitiesRequest, readQuantitiesRequest],
    r.Keeps State.quantitiesKept := by
  simp only [List.forall_mem_cons, List.not_mem_nil, false_imp_iff, implies_true, and_true]
  refine ⟨keeps_of_configuring (fun _ _ => rfl) fun b s x hx h => ?_, applyPairs_quantitiesKept,
    keeps_of_reading (fun _ _ => rfl) fun b s x _ h => h⟩
  obtain ⟨q, c⟩ := x
  dsimp only
  split
  · exact h
  · exact configureEntry_quantitiesKept q c s (readQuantityConfig_duty hx) h

theorem scanRequests_keepQuantities : ∀ r ∈ [configureScanRequest, scanStartRequest, scanStopRequest, scanOnceRequest,
    readScanRequest], r.Keeps State.quantitiesKept := by
  simp only [List.forall_mem_cons, List.not_mem_nil, false_imp_iff, implies_true, and_true]
  refine ⟨fun b s h => ?_, fun b s h => ?_, fun b s h => ?_, fun b s h => ?_, fun _ _ h => h⟩
  · have hconfigured : ∀ c, (configureScan c s).quantitiesKept := fun c =>
      h.of_same (by simp [configureScan]) (by simp) (by simp)
    simp only [configureScanRequest]
    split
    · exact h
    · split
      · exact h
      · refine reading_keeps _ _ _ s h fun c _ => ?_
        split <;> exact hconfigured c
  · simp only [scanStartRequest]
    (repeat' split) <;> exact h.of_same (by simp) (by simp) (by simp)
  · simp only [scanStopRequest]
    split
    · exact h
    · rw [Answer.ok_state]
      exact stopScan_quantitiesKept s h
  · simp only [scanOnceRequest]
    split
    · exact h
    · split
      · rw [Answer.ok_state]
        exact h.of_same (by simp) (by simp) (by simp)
      · exact h

theorem gaugeRequests_keepQuantities : ∀ r ∈ [configureGaugeRequest, homeGaugeRequest, parkGaugeRequest,
    releaseGaugeRequest, positionGaugeRequest, readGaugeRequest], r.Keeps State.quantitiesKept := by
  simp only [List.forall_mem_cons, List.not_mem_nil, false_imp_iff, implies_true, and_true]
  refine ⟨keeps_of_configuring (fun _ _ => rfl) fun b s x _ h => ?_,
    keeps_of_reading (fun _ _ => rfl) fun b s g _ h => homeGauge_quantitiesKept g s h,
    keeps_of_reading (fun _ _ => rfl) fun b s g _ h => parkGauge_quantitiesKept g s h, fun b s h => ?_,
    keeps_of_reading (fun _ _ => rfl) fun b s x _ h => ?_, keeps_of_reading (fun _ _ => rfl) fun b s g _ h => h⟩
  · obtain ⟨g, c⟩ := x
    dsimp only
    split
    · exact h
    · split
      · exact h
      · rw [configuredGauge_state]
        exact (configureGauge_same g c s).keeps h
  · simp only [releaseGaugeRequest]
    split
    · exact h
    · refine reading_keeps _ _ _ s h fun g _ => ?_
      split <;> exact h.of_same (by simp) (by simp) (by simp)
  · obtain ⟨g, p⟩ := x
    dsimp only
    split
    · exact h
    · exact positionGauge_quantitiesKept g p s h

theorem evaluationRequests_keepQuantities : ∀ r ∈ [configureShapeRequest, configureCriterionRequest,
    configureEvaluationRequest, readStrengthRequest], r.Keeps State.quantitiesKept := by
  simp only [List.forall_mem_cons, List.not_mem_nil, false_imp_iff, implies_true, and_true]
  exact ⟨keeps_of_configuring (fun _ _ => rfl) fun b s x _ h => h.of_same rfl rfl rfl,
    keeps_of_configuring (fun _ _ => rfl) fun b s x _ h => (configureCriterion_same x.1 x.2 s).keeps h,
    keeps_of_configuring (fun _ _ => rfl) fun b s n _ h => h.of_same rfl rfl rfl,
    keeps_of_reading (fun _ _ => rfl) fun b s w _ h => h⟩

theorem warningRequests_keepQuantities : ∀ r ∈ [configureWarningRequest, acknowledgeWarningRequest, clearWarningRequest,
    suppressWarningRequest, restoreWarningRequest, readWarningRequest, configureLampRequest, configureDimmerRequest,
    setLampsRequest, readLampsRequest], r.Keeps State.quantitiesKept := by
  simp only [List.forall_mem_cons, List.not_mem_nil, false_imp_iff, implies_true, and_true]
  exact ⟨keeps_of_configuring (fun _ _ => rfl) fun b s x _ h => (reconfigureWarning_same x.1 x.2 s).keeps h,
    keeps_of_reading (fun _ _ => rfl) fun b s w _ h => (acknowledgeByHost_same w s).keeps h,
    keeps_of_reading (fun _ _ => rfl) fun b s w _ h => (clearByHost_same w s).keeps h,
    keeps_of_reading (fun _ _ => rfl) fun b s w _ h => (suppressByHost_same w s).keeps h,
    keeps_of_reading (fun _ _ => rfl) fun b s w _ h => (restoreByHost_same w s).keeps h,
    keeps_of_reading (fun _ _ => rfl) fun b s w _ h => h,
    keeps_of_configuring (fun _ _ => rfl) fun b s x _ h => (configureLamp_same x.1 x.2 s).keeps h,
    keeps_of_configuring (fun _ _ => rfl) fun b s q _ h => h.of_same rfl rfl rfl, applyLampPairs_keeps, fun _ _ h => h⟩

theorem dutyRequests_keepQuantities : ∀ r ∈ [configureDutyRequest, stageLimitsRequest, dutyActivityRequest,
    cardInRequest, cardOutRequest, readDutyRequest], r.Keeps State.quantitiesKept := by
  simp only [List.forall_mem_cons, List.not_mem_nil, false_imp_iff, implies_true, and_true]
  refine ⟨keeps_of_configuring (fun _ _ => rfl) fun b s c _ h => configureDuty_quantitiesKept c s h,
    keeps_of_reading (fun _ _ => rfl) fun b s x _ h => h.of_same rfl rfl rfl,
    keeps_of_reading (fun _ _ => rfl) fun b s x _ h => ?_, keeps_of_reading (fun _ _ => rfl) fun b s x _ h => ?_,
    keeps_of_reading (fun _ _ => rfl) fun b s i _ h => ?_, keeps_of_reading (fun _ _ => rfl) fun b s i _ h => h⟩
  · obtain ⟨i, a⟩ := x
    dsimp only
    split
    · exact h
    · split
      · exact h
      · exact (storeActivity_same i a s).keeps h
  · obtain ⟨i, a⟩ := x
    dsimp only
    split
    · exact h
    · split
      · exact h
      · split
        · exact h
        · exact (insertCard_quantitiesKept i (readToken b) a (readSummary b) s h).of_same (by simp) (by simp) (by simp)
  · split
    · exact h
    · exact removeCard_quantitiesKept i s h

theorem lineRequests_keepQuantities : ∀ r ∈ [configureMessageRequest, configureLineRequest, configureDutyMessagesRequest,
    setPriorityMapRequest, holdRequest, releaseRequest, acknowledgeShownRequest, announceRequest, withdrawRequest,
    setRestingPageRequest, chimeClickRequest, readLineRequest], r.Keeps State.quantitiesKept := by
  simp only [List.forall_mem_cons, List.not_mem_nil, false_imp_iff, implies_true, and_true]
  refine ⟨keeps_of_configuring (fun _ _ => rfl) fun b s x _ h => h.of_same (by simp) (by simp) (by simp),
    keeps_of_configuring (fun _ _ => rfl) fun b s c _ h => h.of_same rfl rfl rfl,
    keeps_of_configuring (fun _ _ => rfl) fun b s c _ h => h.of_same rfl rfl rfl,
    keeps_of_configuring (fun _ _ => rfl) fun b s m _ h => ?_, fun b s h => h.of_same rfl rfl rfl, fun b s h => ?_,
    fun b s h => ?_, keeps_of_reading (fun _ _ => rfl) fun b s x _ h => h.of_same (by simp) (by simp) (by simp),
    keeps_of_reading (fun _ _ => rfl) fun b s x _ h => h.of_same (by simp) (by simp) (by simp),
    keeps_of_configuring (fun _ _ => rfl) fun b s p _ h => (setRestingPage_same p s).keeps h, fun b s h => ?_,
    fun _ _ h => h⟩
  · split
    · exact h.of_same rfl rfl rfl
    · exact h
  · simp only [releaseRequest]
    split <;> exact h.of_same (by simp) (by simp) (by simp)
  · simp only [acknowledgeShownRequest]
    split <;> exact h.of_same (by simp) (by simp) (by simp)
  · simp only [chimeClickRequest]
    split <;> exact h.of_same (by simp) (by simp) (by simp)

theorem requests_keepQuantities : ∀ r ∈ requests, r.Keeps State.quantitiesKept := by
  simp only [requests, List.forall_mem_append]
  exact ⟨⟨⟨⟨⟨⟨⟨⟨⟨linkRequests_keepQuantities, powerRequests_keepQuantities⟩, storeRequests_keepQuantities⟩,
    quantityRequests_keepQuantities⟩, scanRequests_keepQuantities⟩, gaugeRequests_keepQuantities⟩,
    evaluationRequests_keepQuantities⟩, warningRequests_keepQuantities⟩, dutyRequests_keepQuantities⟩,
    lineRequests_keepQuantities⟩

/-! ### Events and time -/

theorem State.idle_quantitiesKept (s : State) (h : s.quantitiesKept) : s.idle.quantitiesKept :=
  h.of_same (by simp) (by simp) (by simp)

/-- The timer of a refresh runs under LINK alone, so that its expiry finds a link-sourced entry (R5). -/
theorem refreshTimer_quantitiesKept (q : Fin 48) (s : State) (h : s.quantitiesKept) :
    (onTimer (s.entry q).refreshDue (refreshExpired q) s).quantitiesKept := by
  refine onTimer_keeps h fun due hdue => ?_
  obtain ⟨limit, hsource⟩ := (h.admitted q).2 (by simp [hdue])
  exact refreshExpired_quantitiesKept q _ limit (by simpa using hsource) (h.of_same (by simp) (by simp) (by simp))

theorem events_keepQuantities (c : Instr) (s t : State) (hc : frame c = none) (h : s.quantitiesKept)
    (hstep : exec c s = .next t) : t.quantitiesKept := by
  cases c <;> cases hc
  case powerOn keyOn =>
    cases hstep
    exact powerOn_quantitiesKept keyOn s h
  all_goals
    simp only [exec, execReplySent, execBadLengthByte, execFrameCheckMismatch, execFrameByteTimeout, execLinkOverrun,
      execUnknownRequest, execSaveEnd, execRefreshExpiry, execSwitchSample, execScanIntervalExpiry,
      execConversionCompletion, execGaugeStep, execHomingStep, execGaugeUpdate, execCoilOpen, execPassStart,
      execCriterionEvaluation, execRaiseDelayExpiry, execReminderExpiry, execFlashHalfChange, execLampSample,
      execMinuteExpiry, execDwellExpiry, execShowTimeExpiry, execRotationExpiry, execLineRefresh, execTransferCompletion,
      execOneShotEnd, execClickEnd, execRepeatPeriod, execKeySample, execProofTimerExpiry, execProofDone, execEntryToSleep,
      execSilenceExpiry, execByteArrival, execLossOfSupply] at hstep
    refine event_keeps (fun h => ?_) h hstep
    clear hstep
  case replySent keyOn =>
    split
    · exact h
    · exact replySent_quantitiesKept keyOn _ s h
  case saveEnd outcome =>
    split
    · exact h
    · next written hsaving => exact endSave_quantitiesKept written outcome s hsaving h
  case lossOfSupply => exact loseSupply_quantitiesKept s h
  case byteArrival b => exact receiveByte_keeps linkKeeps_quantitiesKept requests_keepQuantities b s h
  case unknownRequest tag kind =>
    split
    · exact h
    · exact takeUnknown_keeps linkKeeps_quantitiesKept tag kind s h
  case refreshExpiry q => exact refreshTimer_quantitiesKept q s h
  case switchSample levels =>
    exact forEach_keeps State.quantitiesKept _ (sampleSwitch_quantitiesKept levels) _ (h.of_same (by simp) rfl (by simp))
  case conversionCompletion raw =>
    split
    · exact h
    · exact completeConversion_quantitiesKept _ _ _ (h.of_same (by simp) (by simp) (by simp))
  case minuteExpiry slot2First =>
    exact minuteExpired_quantitiesKept _ _ _ (h.of_same (by simp) (by simp) (by simp))
  case gaugeStep =>
    split
    · exact judgePower_quantitiesKept _ (h.of_same (by simp) (by simp) (by simp))
    · exact h
  case homingStep | gaugeUpdate =>
    split
    · exact h
    · exact judgePower_quantitiesKept _ (h.of_same (by simp) (by simp) (by simp))
  case coilOpen => exact judgePower_quantitiesKept _ (h.of_same (by simp) (by simp) (by simp))
  case proofTimerExpiry =>
    split
    · exact judgePower_quantitiesKept _ (h.of_same (by simp) (by simp) (by simp))
    all_goals exact h
  case proofDone | entryToSleep =>
    split
    · exact judgePower_quantitiesKept s h
    · exact h
  case frameByteTimeout | raiseDelayExpiry | reminderExpiry | silenceExpiry =>
    exact onTimer_keeps h fun due _ => h.of_same (by simp) (by simp) (by simp)
  case dwellExpiry | showTimeExpiry | rotationExpiry =>
    split
    · exact h
    · exact onTimer_keeps h fun due _ => h.of_same (by simp) (by simp) (by simp)
  all_goals (repeat' split) <;> exact h.of_same (by simp) (by simp) (by simp)

/-- Settles O58: what each request and each event does to sources, entries and store keeps R2, and the rest of the part
touches none of them. -/
theorem stepKeepsTheQuantityTable : Obligations.StepKeepsTheQuantityTable :=
  stepKeeps_of State.quantitiesKept linkKeeps_quantitiesKept State.idle_quantitiesKept requests_keepQuantities
    events_keepQuantities

end Sys2Proof.Machine
end

section
/-! PROOFS. O23 and O24: what a delivery of the scan makes of an entry (R6 to R8). -/
namespace Sys2Proof.Machine

/-! ### Writes -/

/-- A write is read back from its own entry, and leaves the others (R1). -/
@[simp] theorem writeEntry_entry (q x : Fin 48) (e : Quantity) (s : State) :
    (writeEntry q e s).entry x = if x = q then e else s.entry x := by
  unfold writeEntry
  split
  · rw [State.entry_of (s.setEntry q e) _ (by simp)]
    exact State.setEntry_entry s q x e
  · exact State.setEntry_entry s q x e

@[simp] theorem handRecovered_entry (q x : Fin 48) (before : QStatus) (s : State) :
    (handRecovered q before s).entry x = s.entry x := State.entry_of s _ (by simp) x

/-! ### The judgement of the raw sample (R6) -/

section
variable {q : Fin 48} {f : ScanFields} {raw filtered : Nat} {s : State}

theorem deliver_unbound {input : Fin 16} (hsource : s.cfg.sources.get q = .scan f) (h : input ≠ f.input) :
    deliver input raw filtered q s = s := by
  simp [deliver, hsource, Ne.symm h]

theorem deliver_within (hsource : s.cfg.sources.get q = .scan f) (hlow : f.rawLow ≤ raw) (hhigh : raw ≤ f.rawHigh) :
    deliver f.input raw filtered q s = deliverInLimit q f filtered s := by
  simp [deliver, hsource, Nat.not_lt.mpr hlow, Nat.not_lt.mpr hhigh]

/-- A sample outside the limits is BELOW LOW 1 or ABOVE HIGH 2 (R196). -/
theorem deliver_outside {detail : Nat} (hsource : s.cfg.sources.get q = .scan f)
    (h : raw < f.rawLow ∧ detail = 1 ∨ f.rawLow ≤ raw ∧ f.rawHigh < raw ∧ detail = 2) :
    deliver f.input raw filtered q s = deliverOutOfLimit q f detail s := by
  rcases h with ⟨hlow, rfl⟩ | ⟨hlow, hhigh, rfl⟩
  · simp [deliver, hsource, hlow]
  · simp [deliver, hsource, Nat.not_lt.mpr hlow, hhigh]

end

/-! ### In-limit and out-of-limit samples by status (R8) -/

/-- Settles O24: the judgement of the sample chooses the rule, and the entry's status the case of it. -/
theorem deliveryActsByStatusAndLimits : Obligations.DeliveryActsByStatusAndLimits := by
  intro q f raw filtered s hsource
  refine ⟨fun input h => deliver_unbound hsource h, fun hlow hhigh => ?_, fun detail hout => ?_⟩
  · rw [deliver_within hsource hlow hhigh]
    unfold deliverInLimit
    refine ⟨fun h => ?_, fun h => ?_, fun h => ⟨fun hrun => ?_, fun hrun => ?_⟩⟩
    · rcases h with h | h <;> simp [h]
    · simp [h, handRecovered]
    · simp [h, Nat.not_le.mpr hrun]
    · simp [h, hrun, handRecovered]
  · rw [deliver_outside hsource hout]
    unfold deliverOutOfLimit
    refine ⟨fun h => ?_, fun h hrun => ?_, fun h hrun => ?_⟩
    · simp [h]
    · simp [h, Nat.not_le.mpr hrun]
    · simp [h, hrun]

/-! ### The value computed (R7) -/

/-- An in-limit sample that writes a value writes the scaled one. -/
theorem deliverInLimit_value (q : Fin 48) (f : ScanFields) (filtered : Nat) (s : State)
    (h : (s.entry q).status ≠ .fault ∨ f.confirm ≤ (s.entry q).inRun + 1) :
    ((deliverInLimit q f filtered s).entry q).value = f.scaled filtered := by
  unfold deliverInLimit
  cases hstatus : (s.entry q).status with
  | absent | valid | stale => simp [hstatus]
  | fault => simp [hstatus, h.resolve_left (not_not.mpr hstatus)]

/-- A quotient rounded toward zero lies between its dividend and 0, less than one divisor away (R7). -/
theorem tdiv_toward_zero (a : Int) :
    (0 ≤ a → 1024 * a.tdiv 1024 ≤ a ∧ a < 1024 * (a.tdiv 1024 + 1)) ∧
    (a ≤ 0 → a ≤ 1024 * a.tdiv 1024 ∧ 1024 * (a.tdiv 1024 - 1) < a) := by
  refine ⟨fun h => ?_, fun h => ?_⟩
  · rw [Int.tdiv_eq_ediv_of_nonneg h]
    omega
  · obtain ⟨b, rfl⟩ : ∃ b, a = -b := ⟨-a, by omega⟩
    rw [Int.neg_tdiv, Int.tdiv_eq_ediv_of_nonneg (by omega)]
    omega

/-- Settles O23: the quotient of the four steps is the one rounded toward zero, and the rest is the offset and the hold. -/
theorem scannedValueIsComputedInFourSteps : Obligations.ScannedValueIsComputedInFourSteps := by
  intro q f raw filtered s hsource hlow hhigh hwrites
  obtain ⟨hpos, hneg⟩ := tdiv_toward_zero ((filtered : Int) * f.gain)
  refine ⟨((filtered : Int) * f.gain).tdiv 1024, hpos, hneg, ?_⟩
  rw [deliver_within hsource hlow hhigh, deliverInLimit_value q f filtered s hwrites]
  unfold ScanFields.scaled clampValue
  split
  · omega
  · split <;> omega

end Sys2Proof.Machine
end

section
/-! PROOFS. O25: CONFIGURE QUANTITY (R15 to R17), on the way from a request in an awake part to the answer that its own rule
gives. -/
namespace Sys2Proof.Machine

/-! ### A request in an awake part -/

/-- A request that fits is answered as its own rule says, outside SLEEP (R175). -/
theorem Request.take_awake (r : Request) (tag : Byte) (body : List Byte) (s : State) (h : s.awake)
    (hfits : r.fits body = true) {t : State} {status : Status} {b : List Byte}
    (hrun : r.run body (goodFrame s) = ⟨t, status, b⟩) :
    event (r.take tag body) s = .next (beginReply tag r.kind status b t) := by
  obtain ⟨⟨hpowered, hreply⟩, hstate⟩ := h
  rw [r.take_next tag body s hpowered hreply hfits (Or.inl hstate), hrun]

/-- The same for an answer that a property describes. -/
theorem answers_awake (c : Instr) (r : Request) (tag : Byte) (body : List Byte) (s : State) (h : s.awake)
    (hexec : exec c s = event (r.take tag body) s) (hfits : r.fits body = true) {t : State} {status : Status} {b : List Byte}
    {P : State → Prop} (hrun : r.run body (goodFrame s) = ⟨t, status, b⟩) (hb : b.length ≤ 240)
    (hP : P (beginReply tag r.kind status b t)) : Answers c s tag r.kind status b P := by
  obtain ⟨⟨hpowered, hreply⟩, hstate⟩ := h
  exact answers_of c r tag body s status b P hexec hpowered hreply hfits (Or.inl hstate) t hrun hb hP

theorem State.awake.of_configurable {s : State} (h : s.configurable) : s.awake := h.1

@[simp] theorem exactly_length {n : Nat} {body : List Byte} (h : body.length = n) : exactly n body = true := by
  simp [exactly, h]

/-! ### The entry under its new configuration -/

@[simp] theorem QSource.same_self (c : QSource) : c.same c = true := by cases c <;> simp [QSource.same]

@[simp] theorem Quantity.reconfigured_self (e : Quantity) (c : QSource) (now : Nat) : e.reconfigured c c now = e := by
  cases c <;> simp [Quantity.reconfigured]

/-- A changed limit leaves value and age (R17). -/
theorem Quantity.relimited_keeps (e : Quantity) (limit now : Nat) :
    (e.relimited limit now).value = e.value ∧ (e.relimited limit now).restarted = e.restarted := by
  unfold Quantity.relimited
  (repeat' split) <;> exact ⟨rfl, rfl⟩

/-- A configuration that keeps source and binding leaves value and age (R17). -/
theorem Quantity.reconfigured_keeps (e : Quantity) (old new : QSource) (now : Nat) :
    (e.reconfigured old new now).value = e.value ∧ (e.reconfigured old new now).restarted = e.restarted := by
  unfold Quantity.reconfigured
  split
  · split
    · exact ⟨rfl, rfl⟩
    · exact e.relimited_keeps _ now
  · split <;> exact ⟨rfl, rfl⟩
  · exact ⟨rfl, rfl⟩

theorem configureEntry_entry (q p : Fin 48) (new : QSource) (s : State) : (configureEntry q new s).entry p =
    if p = q then
      if (s.cfg.sources.get q).same new then (s.entry q).reconfigured (s.cfg.sources.get q) new s.now else .fresh s.now
    else s.entry p := by
  simp [configureEntry]

theorem configureEntry_cfg (q : Fin 48) (new : QSource) (s : State) :
    (configureEntry q new s).cfg = { s.cfg with sources := s.cfg.sources.set q new } := by
  simp [configureEntry]

theorem configureEntry_sampleDue (q : Fin 48) (new : QSource) (s : State) :
    (configureEntry q new s).qt.sampleDue = s.qt.sampleDue := rfl

/-! ### The request -/

@[simp] theorem goodFrame_sourceLocked (q : Fin 48) (c : QSource) (s : State) :
    (goodFrame s).sourceLocked q c = s.sourceLocked q c := by
  simp [State.sourceLocked]

theorem configuring_range {α : Type} (read : Option α) (act : α → Answer) (s : State) (hs : s.saving = false)
    (hr : read = none) : configuring read act s = Answer.refuse s .range := by
  simp [configuring, hs, hr]

/-- What CONFIGURE QUANTITY answers once its fields are read (R15). -/
theorem configureQuantity_run {body : List Byte} {q : Fin 48} {c : QSource} (s : State) (hs : s.saving = false)
    (hread : readQuantityConfig body = some (q, c)) : configureQuantityRequest.run body s =
      if s.sourceLocked q c then Answer.refuse s .locked else Answer.ok (configureEntry q c s) :=
  configuring_accepts _ _ s (q, c) hs hread

/-- The entry of a changed refresh limit, by the status and the age (R17). -/
theorem Quantity.relimited_cases (e : Quantity) (new now : Nat) :
    (new = 0 → e.relimited new now = { e with refreshDue := none }) ∧
    (new ≠ 0 → e.status = .valid → now < e.restarted + new * 1000 →
      e.relimited new now = { e with refreshDue := some (e.restarted + new * 1000) }) ∧
    (new ≠ 0 → e.status = .valid → e.restarted + new * 1000 ≤ now →
      e.relimited new now = { e with status := .stale, refreshDue := none }) ∧
    (new ≠ 0 → e.status ≠ .valid → e.relimited new now = { e with refreshDue := none }) := by
  unfold Quantity.relimited Config.ms
  refine ⟨fun h => by simp [h], fun h hv hn => ?_, fun h hv hn => ?_, fun h hv => by simp [h, hv]⟩
  · simp [h, hv, Nat.not_le.mpr hn]
  · simp [h, hv, hn]

/-- The entry of an accepted configuration, case by case (R16, R17). -/
theorem configuredEntry_cases (e : Quantity) (old c : QSource) (now : Nat) (x : Quantity)
    (hx : x = if old.same c then e.reconfigured old c now else .fresh now) :
    (old.same c = false → x = ⟨0, .absent, now, none, 0, 0, none, 0⟩) ∧
    (old.same c = true → x.value = e.value ∧ x.restarted = e.restarted) ∧ (old = c → x = e) ∧
    (∀ limit new, old = .link limit → c = .link new → limit ≠ new → x = e.relimited new now) ∧
    (∀ f f', old = .scan f → c = .scan f' → f.input = f'.input →
      ((f.rawLow, f.rawHigh, f.confirm) ≠ (f'.rawLow, f'.rawHigh, f'.confirm) → x = { e with outRun := 0, inRun := 0 }) ∧
      ((f.rawLow, f.rawHigh, f.confirm) = (f'.rawLow, f'.rawHigh, f'.confirm) → x = e)) ∧
    ∀ i d d', old = .switch i d → c = .switch i d' → x = e := by
  subst hx
  refine ⟨fun h => by simp [h, Quantity.fresh], fun h => ?_, fun h => by simp [h], ?_, ?_, ?_⟩
  · simpa [h] using e.reconfigured_keeps old c now
  · rintro limit new rfl rfl hne
    simp [QSource.same, Quantity.reconfigured, hne]
  · rintro f f' rfl rfl hinput
    simp only [QSource.same, hinput, decide_true, if_true, Quantity.reconfigured, Prod.mk.injEq, ne_eq]
    exact ⟨fun h => if_neg h, fun h => if_pos h⟩
  · rintro i d d' rfl rfl
    simp [QSource.same, Quantity.reconfigured]

/-- Settles O25: the request reads its fields, and the entry it leaves is the one of `configuredEntry_cases`. -/
theorem configureQuantityStartsOrKeepsTheEntry : Obligations.ConfigureQuantityStartsOrKeepsTheEntry := by
  intro tag body s hconf hlen
  obtain ⟨hawake, hsaving⟩ := hconf
  have hfits : configureQuantityRequest.fits body = true := exactly_length hlen
  have hsaving' : (goodFrame s).saving = false := by simpa using hsaving
  refine ⟨fun hread => configureQuantityRequest.take_awake tag body s hawake hfits (configuring_range _ _ _ hsaving' hread),
    fun q c hread => ⟨fun hlock => ?_, fun hlock => ?_⟩⟩
  · refine configureQuantityRequest.take_awake tag body s hawake hfits ?_
    rw [configureQuantity_run _ hsaving' hread]
    simp [hlock, Answer.refuse]
  · refine answers_awake _ configureQuantityRequest tag body s hawake rfl hfits (t := configureEntry q c (goodFrame s))
      (by rw [configureQuantity_run _ hsaving' hread]; simp [hlock, Answer.ok]) (by simp) ?_
    obtain ⟨hnew, hsame, heq, hlink, hscan, hswitch⟩ := configuredEntry_cases (s.entry q) (s.cfg.sources.get q) c s.now
      ((beginReply tag configureQuantityRequest.kind .ok [] (configureEntry q c (goodFrame s))).entry q)
      (by simp [configureEntry_entry])
    refine ⟨by simp [configureEntry_cfg], (State.sameBut_parts _ _ _).mpr (by simp), ?_, fun p hp => ?_, hnew, hsame, heq,
      fun old new hold hc hne => ?_, hscan, hswitch⟩
    · simp [configureEntry_sampleDue]
    · simp [configureEntry_entry, hp]
    · rw [hlink old new hold hc hne]
      exact (s.entry q).relimited_cases new s.now

end Sys2Proof.Machine
end

section
/-! PROOFS. O26 and O27: the pairs of SET QUANTITIES, the refresh expiry and the switch sample (R4, R5, R10, R11, R18). -/
namespace Sys2Proof.Machine

/-! ### Writes -/

@[simp] theorem writeEntry_sampleDue (q : Fin 48) (e : Quantity) (s : State) :
    (writeEntry q e s).qt.sampleDue = s.qt.sampleDue := by
  unfold writeEntry
  split <;> simp

/-! ### Indices -/

@[simp] theorem readIndex_val {n : Nat} (i : Fin n) : readIndex n i.val = some i := by simp [readIndex]

theorem readIndex_out {n k : Nat} (h : n ≤ k) : readIndex n k = none := by simp [readIndex, Nat.not_lt.mpr h]

/-! ### SET QUANTITIES -/

/-- One result for each pair (R18). -/
theorem applyPairs_length (body : List Byte) (s : State) : (applyPairs body s).2.length = body.length / 3 := by
  match body with
  | [] | [_] | [_, _] => simp [applyPairs]
  | first :: hi :: lo :: rest =>
    have ih := applyPairs_length rest (applyPair first (intAt [hi, lo] 0) s).1
    simp only [applyPairs, List.length_cons, ih]
    omega

/-- A pair that names a link-sourced entry is carried out (R18). -/
theorem applyPair_link {first : Byte} {q : Fin 48} {limit : Nat} (v : Int) (s : State) (hq : first.toNat % 128 = q.val)
    (hsource : s.cfg.sources.get q = .link limit) :
    applyPair first v s = (if 128 ≤ first.toNat then applyFaultMarker q s else applyValue q limit v s, .ok) := by
  simp [applyPair, hq, hsource]

/-- A pair that names an entry of another source is refused (R18). -/
theorem applyPair_conflict {first : Byte} {q : Fin 48} (v : Int) (s : State) (hq : first.toNat % 128 = q.val)
    (h : ∀ limit, s.cfg.sources.get q ≠ .link limit) : applyPair first v s = (s, .conflict) := by
  cases hsource : s.cfg.sources.get q with
  | link limit => exact absurd hsource (h limit)
  | _ => simp [applyPair, hq, hsource]

/-- What a value makes of the table (R4). -/
theorem applyValue_entry (q p : Fin 48) (limit : Nat) (v : Int) (s : State) : (applyValue q limit v s).entry p =
    if p = q then { s.entry q with
      value := v, status := .valid, restarted := s.now
      refreshDue := if limit = 0 then none else some (s.now + limit * 1000) }
    else s.entry p := by
  simp [applyValue, State.refreshStart, Config.ms]

/-- Without a rising edge and with no status to recover from, a value reports nothing (R13, R149). -/
theorem applyValue_silent (q : Fin 48) (limit : Nat) (v : Int) (s : State)
    (hstatus : (s.entry q).status = .absent ∨ (s.entry q).status = .valid) (hack : s.cfg.line.acknowledge ≠ some q) :
    (applyValue q limit v s).lp = s.lp := by
  have hedge : ∀ e, s.risingEdge q e = false := fun e => by simp [State.risingEdge, hack]
  rcases hstatus with h | h <;> simp [applyValue, h, handRecovered, writeEntry, hedge]

/-- Settles O26: the list is carried out pair by pair, and each pair by its index, its source and its marker. -/
theorem setQuantitiesAppliesEachPair : Obligations.SetQuantitiesAppliesEachPair := by
  refine ⟨fun tag body s h hmod hleast hmost => ⟨?_, applyPairs_length body _⟩,
    fun first hi lo rest s => ⟨_, _, rfl, rfl⟩, fun first v s => ⟨fun h => by simp [applyPair, readIndex_out h], ?_⟩⟩
  · exact setQuantitiesRequest.take_awake tag body s h (by simp [setQuantitiesRequest, elements]; omega) rfl
  · intro q hq
    refine ⟨applyPair_conflict v s hq, fun limit hsource => ?_⟩
    rw [applyPair_link v s hq hsource]
    refine ⟨fun hvalue => ?_, fun hmarker => ?_⟩
    · rw [if_neg (Nat.not_le.mpr hvalue)]
      refine ⟨_, rfl, by simp [applyValue_entry], fun p hp => by simp [applyValue_entry, hp], fun h => ?_, fun h => ?_,
        applyValue_silent q limit v s, (State.sameBut_parts _ _ _).mpr (by simp)⟩
      · simp only [applyValue, h, handRecovered]
        exact ⟨_, rfl⟩
      · simp only [applyValue, h, handRecovered]
        exact ⟨_, rfl⟩
    · rw [if_pos hmarker]
      exact ⟨_, rfl, fun h => by simp [applyFaultMarker, h], fun h => by simp [applyFaultMarker, h]⟩

/-! ### REFRESH_EXPIRY and SWITCH_SAMPLE -/

/-- The entry of a sampled switch (R11). -/
def sampledEntry (levels : BitVec 8) (i : Fin 8) (d now : Nat) (e : Quantity) : Quantity :=
  let level := levels.getLsbD i.val
  let required := if d = 0 then 1 else d / 10
  let run := min required (if e.candidate = some level then e.candidateRun + 1 else 1)
  if run = required ∧ (e.status = .absent ∨ e.value ≠ (if level then 1 else 0)) then
    { e with value := if level then 1 else 0, status := .valid, restarted := now, candidate := some level, candidateRun := run }
  else { e with candidate := some level, candidateRun := run }

theorem sampleSwitch_other (levels : BitVec 8) (q p : Fin 48) (s : State) (h : p ≠ q) :
    (sampleSwitch levels q s).entry p = s.entry p := by
  unfold sampleSwitch
  split
  · exact iteInduction (motive := fun t => State.entry t p = s.entry p) (fun _ => by simp [h]) (fun _ => by simp [h])
  all_goals rfl

theorem sampleSwitch_own (levels : BitVec 8) (q : Fin 48) (i : Fin 8) (d : Nat) (s : State)
    (hsource : s.cfg.sources.get q = .switch i d) :
    (sampleSwitch levels q s).entry q = sampledEntry levels i d s.now (s.entry q) := by
  have hrun : ∀ n m : Nat, (n ≤ min n m) = (min n m = n) := fun n m => by
    rw [eq_iff_iff]
    omega
  simp only [sampleSwitch, hsource, requiredCount, sampledEntry, ← apply_ite (min _), hrun]
  rw [apply_ite fun t => State.entry t q, writeEntry_entry, State.setEntry_entry, if_pos rfl, if_pos rfl]

theorem sampleSwitch_sampleDue (levels : BitVec 8) (q : Fin 48) (s : State) :
    (sampleSwitch levels q s).qt.sampleDue = s.qt.sampleDue := by
  unfold sampleSwitch
  split
  · exact iteInduction (motive := fun t : State => t.qt.sampleDue = s.qt.sampleDue) (fun _ => by simp) (fun _ => by simp)
  all_goals rfl

theorem sampleSwitch_unbound (levels : BitVec 8) (q : Fin 48) (s : State)
    (h : ∀ i d, s.cfg.sources.get q ≠ .switch i d) : sampleSwitch levels q s = s := by
  cases hsource : s.cfg.sources.get q with
  | switch i d => exact absurd hsource (h i d)
  | _ => simp [sampleSwitch, hsource]

/-- Each entry takes the sample in its own turn, at the time and under the sources that no turn changes. -/
theorem sampleSwitches_entry (levels : BitVec 8) (q : Fin 48) (s : State) : ∃ u : State, u.cfg = s.cfg ∧ u.now = s.now ∧
    u.entry q = s.entry q ∧ (forEach (sampleSwitch levels) s).entry q = (sampleSwitch levels q u).entry q := by
  obtain ⟨u, ⟨hcfg, hnow⟩, hentry, hturn⟩ := forEach_turn State.entry (fun t => t.cfg = s.cfg ∧ t.now = s.now)
    (sampleSwitch levels) (fun p t ht => by simpa using ht) (fun p x t hx => sampleSwitch_other levels p x t hx) q s
    ⟨rfl, rfl⟩
  exact ⟨u, hcfg, hnow, hentry, hturn⟩

/-- Settles O27: the refresh expiry is its rule on a running timer; the switch sample is one turn of each entry. -/
theorem refreshExpiryAndSwitchSample : Obligations.RefreshExpiryAndSwitchSample := by
  refine ⟨fun q s due hpowered hdue => ?_, fun levels s hpowered => ?_⟩
  · have hexec : exec (.refreshExpiry q) s = .next (refreshExpired q (s.reach due)) := by
      show event _ s = _
      rw [event_powered _ _ hpowered]
      simp [onTimer, hdue]
    rw [hexec]
    exact ⟨fun h => by simp [refreshExpired, State.reach, h], fun h => by simp [refreshExpired, State.reach, h]⟩
  · obtain ⟨start, hstart⟩ : ∃ start, start = restartSwitchSample (s.reach s.qt.sampleDue) := ⟨_, rfl⟩
    have hexec : exec (.switchSample levels) s = .next (forEach (sampleSwitch levels) start) :=
      hstart ▸ event_powered (fun t => forEach (sampleSwitch levels) (restartSwitchSample (t.reach t.qt.sampleDue))) s hpowered
    have hcfg : start.cfg = s.cfg := by simp [hstart]
    have hentry : ∀ q, start.entry q = s.entry q := fun q => by rw [hstart]; rfl
    have hnow : (forEach (sampleSwitch levels) start).now = max s.now s.qt.sampleDue := by
      simp [hstart, State.reach]
    refine ⟨_, hexec, hnow, ?_, ?_, fun q h => ?_, fun q i d h => ?_⟩
    · rw [forEach_same (fun t => t.qt.sampleDue) (sampleSwitch levels) (sampleSwitch_sampleDue levels) start, hstart]
      rfl
    · exact (State.sameBut_parts _ _ _).mpr (by simp [hstart])
    · obtain ⟨u, hucfg, -, huentry, hturn⟩ := sampleSwitches_entry levels q start
      rw [hturn, sampleSwitch_unbound levels q u (by rwa [hucfg, hcfg]), huentry, hentry]
    · obtain ⟨u, hucfg, hunow, huentry, hturn⟩ := sampleSwitches_entry levels q start
      have hown := sampleSwitch_own levels q i d u (by rw [hucfg, hcfg, h])
      have htime : u.now = (forEach (sampleSwitch levels) start).now := by rw [hunow]; simp
      rw [← hturn, huentry, hentry, htime] at hown
      exact ⟨_, _, _, rfl, rfl, rfl, fun hadopt => hown.trans (if_pos hadopt), fun hadopt => hown.trans (if_neg hadopt)⟩

end Sys2Proof.Machine
end

section
/-! PROOFS. O28: the scan requests by the scan state (R31 to R35). -/
namespace Sys2Proof.Machine

/-! ### The lists of a scan -/

theorem readAll_length {α β : Type} (f : α → Option β) (xs : List α) (ys : List β) (h : readAll f xs = some ys) :
    ys.length = xs.length := by
  induction xs generalizing ys with
  | nil =>
    cases h
    rfl
  | cons x xs ih =>
    simp only [readAll, Option.bind_eq_bind, Option.bind_eq_some_iff, Option.some.injEq] at h
    obtain ⟨y, -, rest, hrest, rfl⟩ := h
    simp [ih rest hrest]

/-- A scan list that can be read has at most sixteen entries, as its count says (R31). -/
theorem readScanSettings_length {b : List Byte} {c : ScanSettings} (h : readScanSettings b = some c) :
    byteAt b 0 ≤ 16 ∧ c.list.length = byteAt b 0 := by
  simp only [readScanSettings, readRange, readWhen, Option.bind_eq_bind, Option.bind_eq_some_iff,
    Option.ite_none_right_eq_some, Option.some.injEq, decide_eq_true_eq] at h
  obtain ⟨n, ⟨hn, rfl⟩, list, hlist, list', ⟨-, rfl⟩, interval, -, auto, -, rfl⟩ := h
  exact ⟨hn.2, by simpa using readAll_length _ _ _ hlist⟩

theorem storedDepth_eq (depth : Nat) : storedDepth depth = if depth ∈ [1, 2, 4, 8, 16] then depth else 1 := by
  simp [storedDepth]

theorem storedDepth_same (depth : Nat) : storedDepth depth = depth ↔ depth ∈ [1, 2, 4, 8, 16] := by
  rw [storedDepth_eq]
  split
  · next h => exact iff_of_true rfl h
  · next h =>
    refine iff_of_false (fun h1 => h ?_) h
    simp [← h1]

/-- The coerced positions are those, from 1, of the entries whose depth is not one of the five (R32). -/
theorem mem_coercedPositions (list : List ScanEntry) (n : Nat) : n ∈ coercedPositions list ↔
    1 ≤ n ∧ ∃ e, list[n - 1]? = some e ∧ e.depth ∉ [1, 2, 4, 8, 16] := by
  simp only [coercedPositions, List.mem_filterMap, List.mem_range]
  constructor
  · rintro ⟨i, hi, h⟩
    simp only [List.getElem?_eq_getElem hi, storedDepth_same] at h
    split at h
    · cases h
    · next hdepth =>
      cases h
      exact ⟨by omega, list[i], by simp [hi], hdepth⟩
  · rintro ⟨hn, e, he, hdepth⟩
    refine ⟨n - 1, (List.getElem?_eq_some_iff.mp he).1, ?_⟩
    simp only [he, storedDepth_same, hdepth, if_false, Option.some.injEq]
    omega

/-- A choice among positions counted from 1 stands in list order. -/
theorem numbered_sorted (n : Nat) (g : Nat → Option Nat) (h : ∀ i a, g i = some a → a = i + 1) :
    ((List.range n).filterMap g).Pairwise (· < ·) := by
  refine List.Pairwise.filterMap g (fun i j hij a ha b hb => ?_) List.pairwise_lt_range
  rw [h i a ha, h j b hb]
  omega

theorem coercedPositions_sorted (list : List ScanEntry) : (coercedPositions list).Pairwise (· < ·) := by
  refine numbered_sorted _ _ fun i a h => ?_
  split at h
  · split at h
    · cases h
    · exact (Option.some.inj h).symm
  · cases h

theorem coercedPositions_length (list : List ScanEntry) : (coercedPositions list).length ≤ list.length :=
  (List.length_filterMap_le _ _).trans (by simp)

/-- The positions of a group do not depend on what else an entry holds. -/
theorem positionsOf_map (group : ScanGroup) (f : ScanEntry → ScanEntry) (hf : ∀ e, (f e).group = e.group)
    (list : List ScanEntry) : positionsOf group (list.map f) = positionsOf group list := by
  simp only [positionsOf, List.length_map]
  refine List.filterMap_congr fun i _ => ?_
  rw [List.getElem?_map]
  cases list[i]? <;> simp [hf]

theorem firstSlow_map (f : ScanEntry → ScanEntry) (hf : ∀ e, (f e).group = e.group) (list : List ScanEntry) :
    firstSlow (list.map f) = firstSlow list := by
  simp [firstSlow, positionsOf_map .slow f hf]

theorem countedList_be8 (l : List Nat) : countedList be8 l = BitVec.ofNat 8 l.length :: l.map (BitVec.ofNat 8) := by
  have hflat : l.flatMap be8 = l.map (BitVec.ofNat 8) := by
    induction l with
    | nil => rfl
    | cons n l ih => simp [be8, byte, ih]
  simp [countedList, hflat, be8, byte]

/-! ### Passes -/

/-- A pass converts its first position and leaves the others for later (R24, R26). -/
theorem Scan.convert_eq (u : Scan) (positions : List Nat) (now : Nat) : u.convert positions now =
    { u with flight := positions.head?.map fun p => ⟨p, now + 50⟩, remaining := positions.tail } := by
  cases positions <;> rfl

/-- The positions of a SCAN ONCE are its first and those after it, to the last (R30). -/
theorem oncePositions (first last : Nat) (hfirst : 1 ≤ first) (hle : first ≤ last) :
    (List.range (last + 1)).drop first = first :: ((List.range last).drop first).map (· + 1) := by
  obtain ⟨k, rfl⟩ : ∃ k, first = k + 1 := ⟨first - 1, by omega⟩
  have hk : k < (List.range last).length := by simpa using hle
  rw [List.range_succ_eq_map, List.drop_succ_cons, ← List.map_drop, List.drop_eq_getElem_cons hk]
  simp

theorem stopScan_ssu (s : State) : (stopScan s).ssu =
    { s.ssu with mode := .stopped, flight := none, remaining := [], intervalDue := none } := by
  simp [stopScan]

/-! ### The requests -/

/-- What CONFIGURE SCAN does to the configuration and to the unit (R31, R32). -/
theorem configureScan_spec (c : ScanSettings) (s : State) :
    (configureScan c s).cfg = { s.cfg with scan := ⟨c.list.map fun e =>
      { e with depth := if e.depth ∈ [1, 2, 4, 8, 16] then e.depth else 1 }, c.interval, c.autostart⟩ } ∧
    (configureScan c s).ssu = { s.ssu with filters := c.list.map fun _ => [], roundRobin := firstSlow c.list } := by
  refine ⟨by simp [configureScan, storedDepth_eq], ?_⟩
  simp only [configureScan, State.setSsu_ssu, State.setCfg_ssu, emptyFilters, List.map_map]
  rw [firstSlow_map (fun e => { e with depth := storedDepth e.depth }) fun _ => rfl]
  rfl

section
variable (tag : Byte) (s : State)

/-- CONFIGURE SCAN with a list that can be read, in STOPPED (R31, R32). -/
theorem configureScan_answers (h : s.awake) (body : List Byte) (hsaving : s.saving = false)
    (hfits : scanBodyFits body = true) (c : ScanSettings) (hmode : s.ssu.mode = .stopped)
    (hread : readScanSettings body = some c) : Answers (.configureScan tag body) s tag 0x18#8
      (if coercedPositions c.list = [] then .ok else .coerced)
      (if coercedPositions c.list = [] then []
        else BitVec.ofNat 8 (coercedPositions c.list).length :: (coercedPositions c.list).map (BitVec.ofNat 8)) fun t =>
        t.cfg = { s.cfg with scan := ⟨c.list.map fun e =>
          { e with depth := if e.depth ∈ [1, 2, 4, 8, 16] then e.depth else 1 }, c.interval, c.autostart⟩ } ∧
        t.ssu = { s.ssu with filters := c.list.map fun _ => [], roundRobin := firstSlow c.list } ∧
        s.sameBut t [.cfg, .lp, .ssu] := by
  obtain ⟨hcfg, hssu⟩ := configureScan_spec c (goodFrame s)
  have hlength := readScanSettings_length hread
  have hcoerced := coercedPositions_length c.list
  refine answers_awake _ configureScanRequest tag body s h rfl hfits (t := configureScan c (goodFrame s)) ?_ ?_
    ⟨by simpa using hcfg, by simpa using hssu, (State.sameBut_parts _ _ _).mpr (by simp)⟩
  · simp only [configureScanRequest, goodFrame_reads, goodFrame_frame, hsaving, hmode, reading, hread, ne_eq,
      not_true_eq_false, if_false, Bool.false_eq_true]
    split
    · next hnone => simp [hnone, Answer.ok]
    · next hsome => simp [show coercedPositions c.list ≠ [] from hsome, countedList_be8]
  · split
    · simp
    · simp only [List.length_cons, List.length_map]
      omega

end

/-- Settles O28: each request by its own rule and the scan state. -/
theorem scanRequestsByScanState : Obligations.ScanRequestsByScanState := by
  intro tag s h
  have hstart : ∀ {status t}, scanStartRequest.run [] (goodFrame s) = ⟨t, status, []⟩ →
      exec (.scanStart tag []) s = .next (beginReply tag 0x19#8 status [] t) :=
    fun hrun => scanStartRequest.take_awake tag [] s h rfl hrun
  refine ⟨fun body hsaving hfits => ⟨fun hmode => ?_, fun hmode hread => ?_, fun c hmode hread =>
      ⟨coercedPositions c.list, coercedPositions_sorted _, mem_coercedPositions _,
        configureScan_answers tag s h body hsaving hfits c hmode hread⟩⟩,
    fun first last hmode => hstart ?_, fun hmode => hstart ?_, fun hmode hlist => hstart ?_, fun hmode hlist => ?_,
    fun hmode => ?_, fun hmode => ?_, fun first last => ⟨fun hmode => ?_, fun hmode => ⟨fun hrange => ?_,
      fun hfirst hlast hle => ?_⟩⟩⟩
  · refine configureScanRequest.take_awake tag body s h hfits ?_
    simp [configureScanRequest, hsaving, hmode, Answer.refuse]
  · have hnone : readScanSettings body = none := hread.elim id fun hcount => by
      by_contra hsome
      obtain ⟨c, hc⟩ := Option.ne_none_iff_exists'.mp hsome
      exact absurd (readScanSettings_length hc).1 (Nat.not_le.mpr hcount)
    refine configureScanRequest.take_awake tag body s h hfits ?_
    simp [configureScanRequest, hsaving, hmode, reading, hnone, Answer.refuse]
  · simp [scanStartRequest, hmode, Answer.refuse]
  · simp [scanStartRequest, hmode, Answer.ok]
  · simp [scanStartRequest, hmode, hlist, Answer.refuse]
  · refine answers_awake _ scanStartRequest tag [] s h rfl rfl (t := startContinuous (goodFrame s))
      (by simp [scanStartRequest, hmode, hlist, Answer.ok]) (by simp) ⟨?_, (State.sameBut_parts _ _ _).mpr (by simp)⟩
    simp [startContinuous, Scan.convert_eq, Config.ms]
  · exact scanStopRequest.take_awake tag [] s h rfl (by simp [scanStopRequest, hmode, Answer.ok])
  · refine answers_awake _ scanStopRequest tag [] s h rfl rfl (t := stopScan (goodFrame s))
      (by simp [scanStopRequest, hmode, Answer.ok]) (by simp)
      ⟨by simp [stopScan_ssu], (State.sameBut_parts _ _ _).mpr (by simp), ?_⟩
    obtain ⟨hscan, hother⟩ := stopScan_stops (goodFrame s)
    refine ⟨fun q f hsource => ?_, fun q hsource => ?_⟩
    · obtain ⟨hentry, hreport⟩ := hscan q f (by simpa using hsource)
      exact ⟨by simpa using hentry, fun hvalid => (hreport (by simpa using hvalid)).ofGoodFrame.beginReply _ _ _ _⟩
    · simpa using hother q (by simpa using hsource)
  · exact scanOnceRequest.take_awake tag _ s h rfl (by simp [scanOnceRequest, hmode, Answer.refuse])
  · refine scanOnceRequest.take_awake tag _ s h rfl ?_
    simp [scanOnceRequest, hmode, Answer.refuse, byteAt]
    omega
  · refine answers_awake _ scanOnceRequest tag _ s h rfl rfl (t := startOnce first.toNat last.toNat (goodFrame s))
      (by simp [scanOnceRequest, hmode, Answer.ok, byteAt, hfirst, hlast, hle]) (by simp)
      ⟨?_, (State.sameBut_parts _ _ _).mpr (by simp)⟩
    simp [startOnce, Scan.convert_eq, oncePositions first.toNat last.toNat hfirst hle]

end Sys2Proof.Machine
end

section
/-! PROOFS. O29: the passes of the scan, their conversions and deliveries (R23 to R30). -/
namespace Sys2Proof.Machine

/-! ### A delivery to every entry -/

theorem deliver_other (input : Fin 16) (raw filtered : Nat) (q p : Fin 48) (s : State) (h : p ≠ q) :
    (deliver input raw filtered q s).entry p = s.entry p := by
  simp only [deliver, deliverOutOfLimit, deliverInLimit]
  (repeat' split) <;> simp [h]

/-- What a delivery makes of its entry depends on the entry, the sources and the time alone. -/
theorem deliver_congr (input : Fin 16) (raw filtered : Nat) (q : Fin 48) {s t : State} (hcfg : t.cfg = s.cfg)
    (hnow : t.now = s.now) (hentry : t.entry q = s.entry q) :
    (deliver input raw filtered q t).entry q = (deliver input raw filtered q s).entry q := by
  simp only [deliver, deliverOutOfLimit, deliverInLimit, hcfg, hnow, hentry]
  (repeat' split) <;> simp [hentry]

theorem deliver_link (input : Fin 16) (raw filtered : Nat) (q : Fin 48) (s : State) :
    LinkGrows s (deliver input raw filtered q s) := by
  have hset : ∀ e, LinkGrows s (s.setEntry q e) := fun e => .of_lp (by simp)
  have hrecovered : ∀ before u, LinkGrows u (handRecovered q before u) := fun before u => by
    unfold handRecovered
    split
    · exact hand_link _ _ _ u
    · exact hand_link _ _ _ u
    all_goals exact .of_lp rfl
  unfold deliver
  split
  · next f _ =>
    have hout : ∀ detail, LinkGrows s (deliverOutOfLimit q f detail s) := fun detail => by
      unfold deliverOutOfLimit
      dsimp only
      split
      · exact hset _
      · split
        · exact (hset _).trans (hand_link _ _ _ _)
        · exact hset _
    have hin : LinkGrows s (deliverInLimit q f filtered s) := by
      unfold deliverInLimit
      dsimp only
      split
      · exact writeEntry_link _ _ s
      · exact writeEntry_link _ _ s
      · exact (writeEntry_link _ _ s).trans (hrecovered _ _)
      · split
        · exact (writeEntry_link _ _ s).trans (hrecovered _ _)
        · exact hset _
    split
    · split
      · exact hout 1
      · split
        · exact hout 2
        · exact hin
    · exact .of_lp rfl
  all_goals exact .of_lp rfl

/-- The filter of a list position with a result joined (R27). -/
def Scan.joined (u : Scan) (position : Nat) (e : ScanEntry) (raw : Nat) : List Nat :=
  joinFilter e.depth raw (u.filters.getD (position - 1) [])

/-- A result that joins its filter is delivered to every entry in its own turn (R27, R28). -/
theorem takeResult_spec (position : Nat) (e : ScanEntry) (raw : Nat) (s : State) :
    (takeResult position e raw s).ssu =
      { s.ssu with filters := s.ssu.filters.set (position - 1) (s.ssu.joined position e raw) } ∧
    LinkGrows s (takeResult position e raw s) ∧
    ∀ q, (takeResult position e raw s).entry q =
      (deliver e.input raw (filteredValue (s.ssu.joined position e raw)) q s).entry q := by
  obtain ⟨z, hz⟩ : ∃ z, z = s.setSsu
    { s.ssu with filters := s.ssu.filters.set (position - 1) (s.ssu.joined position e raw) } := ⟨_, rfl⟩
  have htake : takeResult position e raw s =
      forEach (deliver e.input raw (filteredValue (s.ssu.joined position e raw))) z := by rw [hz]; rfl
  rw [htake]
  refine ⟨by simp [hz], LinkGrows.trans (.of_lp (by simp [hz])) (forEach_link _ (fun q t => deliver_link _ _ _ q t) _),
    fun q => ?_⟩
  obtain ⟨u, ⟨hcfg, hnow⟩, hentry, hturn⟩ := forEach_turn State.entry (fun t => t.cfg = s.cfg ∧ t.now = s.now)
    (deliver e.input raw (filteredValue (s.ssu.joined position e raw))) (fun p t ht => by simpa using ht)
    (fun p x t hx => deliver_other _ _ _ p x t hx) q z (by simp [hz])
  exact hturn.trans (deliver_congr _ _ _ q hcfg hnow (hentry.trans (by simp [hz])))

/-! ### The end of a conversion -/

theorem moveRoundRobin_ssu (position : Nat) (e : ScanEntry) (s : State) : (moveRoundRobin position e s).ssu =
    { s.ssu with roundRobin := if s.ssu.mode = .continuous ∧ e.group = .slow then nextSlow s.cfg.scan.list position
      else s.ssu.roundRobin } := by
  unfold moveRoundRobin
  split <;> simp

/-- The next conversion starts, or the pass ends: in CONTINUOUS it waits, and the end of a SCAN ONCE stops the scan (R24,
R28, R30). -/
theorem nextConversion_cases (s : State) :
    (∀ p rest, s.ssu.remaining = p :: rest →
      nextConversion s = s.setSsu { s.ssu with flight := some ⟨p, s.now + 50⟩, remaining := rest }) ∧
    (s.ssu.remaining = [] → (∀ first last, s.ssu.mode ≠ .once first last) →
      nextConversion s = s.setSsu { s.ssu with flight := none }) ∧
    (∀ first last, s.ssu.remaining = [] → s.ssu.mode = .once first last → nextConversion s = stopScan s) := by
  refine ⟨fun p rest h => ?_, fun h hmode => ?_, fun first last h hmode => ?_⟩
  · simp [nextConversion, h, Scan.convert_eq]
  · simp only [nextConversion, h]
    split
    · next hm => exact absurd hm (hmode _ _)
    all_goals rfl
  · simp [nextConversion, h, hmode]

/-- What every end of a conversion leaves of the unit. -/
theorem nextConversion_keeps (s : State) : (nextConversion s).ssu.filters = s.ssu.filters ∧
    (nextConversion s).ssu.roundRobin = s.ssu.roundRobin ∧
    (s.ssu.remaining = [] → (nextConversion s).ssu.flight = none) := by
  unfold nextConversion
  split
  · split <;> simp [stopScan_ssu]
  · next h => simp [Scan.convert_eq, h]

/-- The stop of a scan seen from an earlier state, where reports alone have joined the queue meanwhile. -/
theorem ScanHasStopped.since {s u t : State} {before : Fin 48 → Quantity} (h : ScanHasStopped u.entry u t)
    (hcfg : u.cfg = s.cfg) (hgrows : s.lp.queue <+: u.lp.queue) (hentry : ∀ q, u.entry q = before q) :
    ScanHasStopped before s t := by
  obtain ⟨hscan, hother⟩ := h
  refine ⟨fun q f hsource => ?_, fun q hsource => ?_⟩
  · obtain ⟨hq, hreport⟩ := hscan q f (by rw [hcfg]; exact hsource)
    rw [hentry] at hq hreport
    exact ⟨hq, fun hvalid => (hreport hvalid).widen hgrows (by rw [hcfg]) rfl List.prefix_rfl⟩
  · rw [hother q (by rw [hcfg]; exact hsource), hentry]

/-- The state in which the next conversion is judged: the result taken and the round robin moved (R23, R28). -/
def State.converted (s : State) (position : Nat) (e : ScanEntry) (raw : Nat) : State :=
  moveRoundRobin position e (takeResult position e raw s)

theorem State.converted_spec (s : State) (position : Nat) (e : ScanEntry) (raw : Nat) :
    (s.converted position e raw).cfg = s.cfg ∧ (s.converted position e raw).now = s.now ∧
    (s.converted position e raw).ssu = { s.ssu with
      filters := s.ssu.filters.set (position - 1) (s.ssu.joined position e raw)
      roundRobin := if s.ssu.mode = .continuous ∧ e.group = .slow then nextSlow s.cfg.scan.list position
        else s.ssu.roundRobin } ∧
    LinkGrows s (s.converted position e raw) ∧
    ∀ q, (s.converted position e raw).entry q =
      (deliver e.input raw (filteredValue (s.ssu.joined position e raw)) q s).entry q := by
  obtain ⟨hssu, hlink, hentry⟩ := takeResult_spec position e raw s
  refine ⟨by simp [State.converted], by simp [State.converted], ?_, hlink.trans (.of_lp (by simp [State.converted])),
    fun q => ?_⟩
  · simp [State.converted, moveRoundRobin_ssu, hssu]
  · rw [← hentry, State.converted]
    exact State.entry_of _ _ (by simp) q

theorem exec_conversionCompletion {raw : BitVec 10} {s : State} {f : Flight} {e : ScanEntry} (hpowered : s.powered = true)
    (hflight : s.ssu.flight = some f) (hentry : entryAt s.cfg.scan.list f.position = some e) :
    exec (.conversionCompletion raw) s =
      .next (nextConversion ((s.setNow (max s.now f.due)).converted f.position e raw.toNat)) := by
  simp [exec, execConversionCompletion, hpowered, hflight, completeConversion, hentry, State.reach, State.converted]

/-- Settles O29: the interval starts a pass, and a completed conversion is its result taken, the round robin moved and the
next conversion. -/
theorem passesConvertAndDeliver : Obligations.PassesConvertAndDeliver := by
  intro s hpowered
  refine ⟨fun due hdue hflight => ?_, fun raw f e hflight hentry => ?_⟩
  · refine ⟨intervalExpired due (s.reach due), ?_, by simp [State.reach], (State.sameBut_parts _ _ _).mpr (by simp), ?_⟩
    · simp [exec, execScanIntervalExpiry, hpowered, hdue, hflight]
    · simp [intervalExpired, Scan.convert_eq, State.reach, Config.ms]
  · obtain ⟨now, hnow⟩ : ∃ now, now = max s.now f.due := ⟨_, rfl⟩
    obtain ⟨v, hv⟩ : ∃ v, v = (s.setNow now).converted f.position e raw.toNat := ⟨_, rfl⟩
    have hexec := exec_conversionCompletion (raw := raw) hpowered hflight hentry
    rw [← hnow, ← hv] at hexec
    have htime : (nextConversion v).now = now := by simp [hv, State.converted]
    obtain ⟨hcfg, hvnow, hssu, hlink, hdelivered⟩ := (s.setNow now).converted_spec f.position e raw.toNat
    rw [← hv] at hcfg hvnow hssu hlink hdelivered
    simp only [State.setNow_cfg, State.setNow_now, State.setNow_ssu, filteredValue] at hcfg hvnow hssu hdelivered
    have hmode : v.ssu.mode = s.ssu.mode := by rw [hssu]
    have hremaining : v.ssu.remaining = s.ssu.remaining := by rw [hssu]
    obtain ⟨hfilters, hround, hend⟩ := nextConversion_keeps v
    obtain ⟨hnext, hwait, honce⟩ := nextConversion_cases v
    rw [hmode, hremaining] at hwait honce
    rw [hremaining] at hnext hend
    refine ⟨nextConversion v, hexec, htime.trans hnow, (State.sameBut_parts _ _ _).mpr (by simp [hv, State.converted]),
      s.ssu.joined f.position e raw.toNat, rfl, by rw [hfilters, hssu], hround.trans (congrArg Scan.roundRobin hssu),
      fun p rest h => ?_, hend, fun h hm => ?_, fun first last h hm => ?_⟩
    all_goals rw [htime]
    · rw [hnext p rest h]
      exact ⟨by simp [hvnow], by simp, by simp [hmode], by simpa using hdelivered⟩
    · rw [hwait h (by simp [hm])]
      exact ⟨by simp [hmode, hm], by simpa using hdelivered⟩
    · rw [honce first last h hm, stopScan_ssu]
      exact ⟨rfl, rfl, (stopScan_stops v).since hcfg hlink.1 hdelivered⟩

end Sys2Proof.Machine
end

section
/-! PROOFS. O22: the requests that read change nothing but the reply and step 1 of R175. -/
namespace Sys2Proof.Machine

/-! ### What is read does not depend on the Link Port -/

/-- Two states that share every part but the Link Port differ by an update of it. -/
theorem State.eq_setLp {s t : State} (h : s.sameBut t [.lp]) : t = s.setLp t.lp := by
  cases s
  cases t
  simpa [State.sameBut_parts, State.setLp] using h

theorem goodFrame_eq_setLp (s : State) : goodFrame s = s.setLp (goodFrame s).lp :=
  State.eq_setLp ((State.sameBut_parts _ _ _).mpr (by simp))

/-- Every readout but those of the Link Port is the same before and after step 1 of R175. -/
theorem goodFrame_readouts (s : State) :
    (∀ item index, (goodFrame s).configurationItem item index = s.configurationItem item index) ∧
    (∀ q, (goodFrame s).quantityRecord q = s.quantityRecord q) ∧ (goodFrame s).scanReadout = s.scanReadout ∧
    (∀ w, (goodFrame s).strengthReadout w = s.strengthReadout w) ∧
    (∀ w, (goodFrame s).warningReadout w = s.warningReadout w) ∧ (goodFrame s).lampsReadout = s.lampsReadout ∧
    (∀ i, (goodFrame s).dutyReadout i = s.dutyReadout i) ∧ (goodFrame s).lineReadout = s.lineReadout := by
  rw [goodFrame_eq_setLp]
  refine ⟨?_, ?_, ?_, ?_, ?_, ?_, ?_, ?_⟩ <;> intros <;> rfl

/-! ### Reading lists and bytes -/

theorem readAll_map {α β : Type} (f : α → Option β) (g : β → α) (h : ∀ y, f (g y) = some y) (l : List β) :
    readAll f (l.map g) = some l := by
  induction l with
  | nil => rfl
  | cons y l ih => simp [readAll, h, ih]

/-- A list with an element that cannot be read cannot be read. -/
theorem readAll_none {α β : Type} (f : α → Option β) (l : List α) (h : ∃ x ∈ l, f x = none) : readAll f l = none := by
  induction l with
  | nil => simp at h
  | cons x l ih =>
    cases hx : f x with
    | none => simp [readAll, hx]
    | some y =>
      obtain ⟨z, hz, hnone⟩ := h
      have hl : z ∈ l := (List.mem_cons.mp hz).resolve_left fun e => by simp [e, hx] at hnone
      simp [readAll, hx, ih ⟨z, hl, hnone⟩]

@[simp] theorem byteAt_zero (b : Byte) (rest : List Byte) : byteAt (b :: rest) 0 = b.toNat := rfl
@[simp] theorem byteAt_one (a b : Byte) (rest : List Byte) : byteAt (a :: b :: rest) 1 = b.toNat := rfl

theorem readSlot_val (i : Fin 2) : readSlot (i.val + 1) = some i := by
  revert i
  decide

theorem readSlot_none {n : Nat} (h : n = 0 ∨ 2 < n) : readSlot n = none := by
  have h1 : n ≠ 1 := by omega
  have h2 : n ≠ 2 := by omega
  simp [readSlot, h1, h2]

/-! ### The requests -/

section
variable {α : Type} (act : α → Answer) (s : State)

theorem reading_range {read : Option α} (h : read = none) : reading read act s = ⟨s, .range, []⟩ := by
  simp [reading, h, Answer.refuse]

end

/-- READ DUTY, which SLEEP accepts as well (R132, R170). -/
theorem readDuty_reads (tag b : Byte) (s : State) (h : s.listens) :
    (∀ i : Fin 2, b.toNat = i.val + 1 →
      exec (.readDuty tag [b]) s = .next (beginReply tag 0x45#8 .ok (s.dutyReadout i) (goodFrame s))) ∧
    (b.toNat = 0 ∨ 2 < b.toNat →
      exec (.readDuty tag [b]) s = .next (beginReply tag 0x45#8 .range [] (goodFrame s))) := by
  obtain ⟨-, -, -, -, -, -, hduty, -⟩ := goodFrame_readouts s
  have htake := readDutyRequest.take_next tag [b] s h.1 h.2 rfl (Or.inr rfl)
  refine ⟨fun i hi => ?_, fun hi => ?_⟩ <;> refine htake.trans ?_
  · simp [readDutyRequest, reading, readSlotByte, hi, readSlot_val, Answer.okWith, hduty]
  · simp [readDutyRequest, reading, readSlotByte, readSlot_none hi, Answer.refuse]

/-- READ GAUGE, READ STRENGTH and READ WARNING of an index (R65, R82, R98). -/
theorem readIndexed_reads (tag b : Byte) (s : State) (h : s.awake) :
    (∀ g : Fin 6, b.toNat = g.val → exec (.readGauge tag [b]) s =
      .next (beginReply tag 0x25#8 .ok ((s.gauge g).readout (s.gaugeConfig g)) (goodFrame s))) ∧
    (∀ w : Fin 48, b.toNat = w.val →
      exec (.readStrength tag [b]) s = .next (beginReply tag 0x2B#8 .ok (s.strengthReadout w) (goodFrame s)) ∧
      exec (.readWarning tag [b]) s = .next (beginReply tag 0x35#8 .ok (s.warningReadout w) (goodFrame s))) ∧
    (6 ≤ b.toNat → exec (.readGauge tag [b]) s = .next (beginReply tag 0x25#8 .range [] (goodFrame s))) ∧
    (48 ≤ b.toNat →
      exec (.readStrength tag [b]) s = .next (beginReply tag 0x2B#8 .range [] (goodFrame s)) ∧
      exec (.readWarning tag [b]) s = .next (beginReply tag 0x35#8 .range [] (goodFrame s))) := by
  obtain ⟨-, -, -, hstrength, hwarning, -, -, -⟩ := goodFrame_readouts s
  refine ⟨fun g hg => readGaugeRequest.take_awake tag [b] s h rfl ?_, fun w hw =>
      ⟨readStrengthRequest.take_awake tag [b] s h rfl ?_, readWarningRequest.take_awake tag [b] s h rfl ?_⟩,
    fun hb => readGaugeRequest.take_awake tag [b] s h rfl (reading_range _ _ (readIndex_out hb)),
    fun hb => ⟨readStrengthRequest.take_awake tag [b] s h rfl (reading_range _ _ (readIndex_out hb)),
      readWarningRequest.take_awake tag [b] s h rfl (reading_range _ _ (readIndex_out hb))⟩⟩
  · simp [readGaugeRequest, reading, readGauge, hg, Answer.okWith]
  · simp [readStrengthRequest, reading, hw, Answer.okWith, hstrength]
  · simp [readWarningRequest, reading, readWarningIndex, hw, Answer.okWith, hwarning]

/-- READ QUANTITIES of a list (R19). -/
theorem readQuantities_reads (tag : Byte) (s : State) (h : s.awake) :
    (∀ qs : List (Fin 48), 1 ≤ qs.length → qs.length ≤ 16 →
      exec (.readQuantities tag (qs.map fun q => BitVec.ofNat 8 q.val)) s =
        .next (beginReply tag 0x12#8 .ok (be8 qs.length ++ qs.flatMap s.quantityRecord) (goodFrame s))) ∧
    (∀ body : List Byte, 1 ≤ body.length → body.length ≤ 16 → (∃ b ∈ body, 48 ≤ b.toNat) →
      exec (.readQuantities tag body) s = .next (beginReply tag 0x12#8 .range [] (goodFrame s))) := by
  have hfits : ∀ body : List Byte, 1 ≤ body.length → body.length ≤ 16 → readQuantitiesRequest.fits body = true :=
    fun body hleast hmost => by simp [readQuantitiesRequest, elements, Nat.mod_one, hleast, hmost]
  obtain ⟨-, hrecord, -⟩ := goodFrame_readouts s
  refine ⟨fun qs hleast hmost => readQuantitiesRequest.take_awake tag _ s h
      (hfits _ (by simpa using hleast) (by simpa using hmost)) ?_,
    fun body hleast hmost ⟨b, hb, hout⟩ => readQuantitiesRequest.take_awake tag body s h (hfits body hleast hmost)
      (reading_range _ _ (readAll_none _ _ ⟨b, hb, readIndex_out hout⟩))⟩
  have hread : readAll (fun x : Byte => readIndex 48 x.toNat) (qs.map fun q => BitVec.ofNat 8 q.val) = some qs := by
    refine readAll_map _ _ (fun q => ?_) qs
    rw [BitVec.toNat_ofNat, Nat.mod_eq_of_lt (by omega)]
    exact readIndex_val q
  simp [readQuantitiesRequest, reading, hread, Answer.okWith, countedList, funext hrecord]

/-- Settles O22: each request that reads is answered by its readout, which step 1 of R175 leaves alone. -/
theorem readRequestsChangeNothing : Obligations.ReadRequestsChangeNothing := by
  refine ⟨readDuty_reads, fun tag s h => ?_⟩
  obtain ⟨hitem, -, hscan, -, -, hlamps, -, hline⟩ := goodFrame_readouts s
  obtain ⟨hquantities, hrange⟩ := readQuantities_reads tag s h
  refine ⟨fun item index => ?_, hquantities, hrange, readScanRequest.take_awake tag [] s h rfl ?_,
    fun b => readIndexed_reads tag b s h, readLampsRequest.take_awake tag [] s h rfl ?_,
    readLineRequest.take_awake tag [] s h rfl ?_⟩
  · cases hread : s.configurationItem item.toNat index.toNat with
    | none =>
      exact readConfigurationRequest.take_awake tag [item, index] s h rfl (reading_range _ _ ((hitem _ _).trans hread))
    | some bytes =>
      exact readConfigurationRequest.take_awake tag [item, index] s h rfl
        (reading_accepts _ _ (goodFrame s) bytes ((hitem _ _).trans hread))
  · simp [readScanRequest, Answer.okWith, hscan]
  · simp [readLampsRequest, Answer.okWith, hlamps]
  · simp [readLineRequest, Answer.okWith, hline]

end Sys2Proof.Machine
end

section
/-! PROOFS. O3 and O54: the reset state, and the properties that every step keeps, in it. -/
namespace Sys2Proof.Machine

/-! ### The parts of the reset state -/

@[simp] theorem reset_entry (q : Fin 48) : State.reset.entry q = .fresh 0 := Table.get_replicate _ _

@[simp] theorem reset_slot (i : Fin 2) : State.reset.slot i = .empty none := Table.get_replicate _ _

@[simp] theorem reset_gauge (g : Fin 6) : State.reset.gauge g = .afterReset ⟨2000, 20000⟩ := Table.get_replicate _ _

@[simp] theorem reset_lamp (l : Fin 32) : State.reset.lamp l = .afterReset := Table.get_replicate _ _

@[simp] theorem reset_warning (w : Fin 48) : State.reset.warning w = ⟨.disabled, false, none, none, .none⟩ :=
  Table.get_replicate _ _

/-- Settles O3. -/
theorem resetStateIsThatOfTheBlocks : Obligations.ResetStateIsThatOfTheBlocks := by
  unfold Obligations.ResetStateIsThatOfTheBlocks
  refine ⟨rfl, rfl, rfl, rfl, rfl, rfl, rfl, rfl, rfl, rfl, rfl, ?_, ?_, reset_entry, ?_, reset_slot, rfl, rfl, rfl, rfl, rfl⟩
  · simp [Gauge.afterReset]
  · simp [Lamp.afterReset]
  · simp

/-! ### The kept properties -/

theorem Settings.builtIn_limitsValid : Settings.builtIn.limitsValid := by
  unfold Settings.limitsValid
  decide

@[simp] theorem reset_cs : State.reset.cs = ⟨.absent, none, true, none⟩ := rfl

theorem reset_everySettings {p : Settings → Prop} (h : p .builtIn) : State.reset.everySettings p :=
  ⟨h, by simp, by simp⟩

theorem reset_reportsKept : State.reset.reportsKept := ⟨by decide, List.nodup_nil, fun _ h => absurd h List.not_mem_nil⟩

theorem reset_announcementsKept : State.reset.announcementsKept := ⟨by decide, List.nodup_nil⟩

theorem reset_dutyKept : State.reset.dutyKept := by
  refine ⟨fun i => ?_, reset_everySettings Settings.builtIn_limitsValid, fun i l h => ?_⟩
  · simp [Slot.ordered, Slot.empty]
  · simp [Slot.empty] at h

theorem reset_quantitiesKept : State.reset.quantitiesKept := by
  rw [State.quantitiesKept_iff]
  refine ⟨fun q => ?_, Settings.builtIn_sourcesFixed, by simp [Store.sourcesFixed]⟩
  rw [reset_entry]
  exact QSource.admits_fresh _ _

theorem reset_timersKept : State.reset.timersKept := by
  have hpass : State.reset.weu.pass = none := rfl
  refine ⟨by decide, by decide, by decide, by decide, by decide, by decide, ?_, by decide, by decide⟩
  simp [hpass]

/-- In SLEEP every lamp is dark (R100). -/
theorem reset_lampsKept : State.reset.lampsKept := by
  intro l
  have hsleep : State.reset.psc.state = .sleep := rfl
  rw [reset_lamp, State.driveOf, if_pos hsleep]
  rfl

/-- Settles O54. -/
theorem keptPropertiesHoldAtReset : Obligations.KeptPropertiesHoldAtReset :=
  ⟨reset_reportsKept, reset_announcementsKept, reset_dutyKept, reset_quantitiesKept, reset_timersKept, reset_lampsKept⟩

end Sys2Proof.Machine
end

section
/-! PROOFS. Held records and the entry to PROVING; the blocks in their reset states, and the record that opens the queue. -/
namespace Sys2Proof.Machine

/-! ### The held list: an announcement's operations only take records out of it (R181) -/

def HeldWithin (s t : State) : Prop := t.lp.held ⊆ s.lp.held

theorem HeldWithin.of_held {s t : State} (h : t.lp.held = s.lp.held) : HeldWithin s t := by
  rw [HeldWithin, h]
  exact List.Subset.refl _

theorem HeldWithin.of_lp {s t : State} (h : t.lp = s.lp) : HeldWithin s t := .of_held (by rw [h])

theorem HeldWithin.trans {a b c : State} (h : HeldWithin a b) (k : HeldWithin b c) : HeldWithin a c :=
  List.Subset.trans k h

theorem hand_heldWithin (k : ReportKind) (a b : Nat) (s : State) : HeldWithin s (hand k a b s) := .of_held (by simp)

theorem postRecord_held (r : Report) (s : State) : (postRecord r s).lp.held = s.lp.held := by
  unfold postRecord judgeAttention
  split <;> simp

theorem releaseHeld_heldWithin (w : Fin 48) (s : State) : HeldWithin s (releaseHeld w s) := by
  unfold releaseHeld
  split
  · exact .of_lp rfl
  · unfold HeldWithin
    rw [postRecord_held]
    exact List.filter_subset_self _

theorem tellLink_heldWithin (e : Entry) (s : State) : HeldWithin s (tellLink e s) := by
  unfold tellLink
  split
  · split
    · exact .of_lp rfl
    · exact releaseHeld_heldWithin _ s
  all_goals exact .of_lp rfl

theorem endEntry_heldWithin (cause : EndCause) (e : Entry) (s : State) : HeldWithin s (endEntry cause e s) :=
  (HeldWithin.of_lp (tellOwner_lp cause e s)).trans ((tellLink_heldWithin e _).trans (hand_heldWithin _ _ _ _))

theorem showHead_heldWithin (s : State) : HeldWithin s (showHead s) := by
  unfold showHead
  split
  · exact .of_lp rfl
  · next e rest _ =>
    have hshow : HeldWithin (s.setQueue rest) ((s.setQueue rest).setShown (some ((s.setQueue rest).beginTimers e))) :=
      .of_lp (by simp)
    have hreport := (tellLink_heldWithin e _).trans (hand_heldWithin .announcementShown e.source.number
      (e.message.val + 256 * e.level + (if e.shownBefore then 0 else 2048))
      (tellLink e ((s.setQueue rest).setShown (some ((s.setQueue rest).beginTimers e)))))
    have hrender : HeldWithin (handShown e (tellLink e ((s.setQueue rest).setShown
        (some ((s.setQueue rest).beginTimers e))))) (beginShowing e (s.setQueue rest)) := .of_lp (by simp [beginShowing])
    exact HeldWithin.trans (.of_lp (by simp)) (hshow.trans (hreport.trans hrender))

theorem displace_heldWithin (sh : Shown) (s : State) : HeldWithin s (displace sh s) := by
  have hhead : HeldWithin s (showHead (stopShown s)) := HeldWithin.trans (.of_lp (by simp)) (showHead_heldWithin _)
  unfold displace
  dsimp only
  split
  · exact hhead.trans (.of_lp (by simp))
  · exact hhead.trans (endEntry_heldWithin _ _ _)

theorem decideLine_heldWithin (s : State) : HeldWithin s (decideLine s) := by
  unfold decideLine
  split
  · exact .of_lp rfl
  · split
    · exact showHead_heldWithin s
    · split
      · exact displace_heldWithin _ s
      · exact .of_lp rfl

theorem joinQueue_heldWithin (o : Offer) (s : State) : HeldWithin s (joinQueue o s) :=
  HeldWithin.trans (.of_lp (by simp)) (decideLine_heldWithin _)

theorem offerOnFull_heldWithin (o : Offer) (s : State) : HeldWithin s (offerOnFull o s) := by
  unfold offerOnFull
  split
  · exact joinQueue_heldWithin o s
  · split
    · exact HeldWithin.trans (.of_lp (by simp)) ((endEntry_heldWithin .dropped _ (s.setQueue s.anu.queue.dropLast)).trans
        (joinQueue_heldWithin o _))
    · exact HeldWithin.trans (.of_lp (by simp)) (endEntry_heldWithin .dropped _ (gainArrival s))

theorem offer_heldWithin (o : Offer) (s : State) : HeldWithin s (offer o s) := by
  unfold offer
  split
  · exact .of_lp (by simp)
  · split
    · exact .of_lp (by simp)
    · split
      · exact joinQueue_heldWithin o s
      · exact offerOnFull_heldWithin o s

theorem reofferWarning_heldWithin (w : Fin 48) (s : State) : HeldWithin s (reofferWarning w s) := by
  simp only [reofferWarning, offerWarning]
  (repeat' split)
  · exact .of_lp rfl
  · exact HeldWithin.trans (.of_lp (t := s.setMark w .normal) (by simp)) (offer_heldWithin _ _)
  · exact .of_lp rfl

theorem reofferTrack_heldWithin (i : Fin 2) (k : Track) (s : State) : HeldWithin s (reofferTrack i k s) := by
  simp only [reofferTrack, offerTrack]
  (repeat' split)
  · exact .of_lp rfl
  · exact .of_lp rfl
  · exact HeldWithin.trans (.of_lp (by simp [State.setTrack])) (offer_heldWithin _ (s.setTrack i k _))
  · exact .of_lp rfl

theorem reofferSlot_heldWithin (i : Fin 2) (s : State) : HeldWithin s (reofferSlot i s) :=
  (reofferTrack_heldWithin i .continuous s).trans
    ((reofferTrack_heldWithin i .daily _).trans (reofferTrack_heldWithin i .weekly _))

theorem forEach_heldWithin {n : Nat} (f : Fin n → State → State) (hf : ∀ i t, HeldWithin t (f i t)) (s : State) :
    HeldWithin s (forEach f s) :=
  forEach_keeps (HeldWithin s) f (fun i t h => h.trans (hf i t)) s (.of_lp rfl)

theorem watchCoil_heldWithin (g : Fin 6) (s : State) : HeldWithin s (watchCoil g s) := by
  unfold watchCoil
  split
  · exact HeldWithin.trans (.of_lp (t := s.setGauge g _) (by simp)) (hand_heldWithin _ _ _ _)
  · exact .of_lp rfl

theorem enterHoming_heldWithin (g : Fin 6) (s : State) : HeldWithin s (enterHoming g s) :=
  HeldWithin.trans (.of_lp (t := s.setGauge g _) (by simp)) (watchCoil_heldWithin g _)

theorem proofOrder_heldWithin (g : Fin 6) (s : State) : HeldWithin s (proofOrder g s) := by
  unfold proofOrder
  dsimp only
  split
  · exact enterHoming_heldWithin g s
  · split
    · exact enterHoming_heldWithin g s
    · split
      · exact .of_lp (by simp [enterSweeping])
      · exact .of_lp (by simp [enterTracking])
  · split
    · exact enterHoming_heldWithin g s
    · exact .of_lp rfl
  all_goals exact .of_lp rfl

theorem gaugesAtProving_heldWithin (s : State) : HeldWithin s (gaugesAtProving s) :=
  HeldWithin.trans (.of_lp (t := startUpdates s) (by simp))
    ((forEach_heldWithin watchCoil watchCoil_heldWithin _).trans (forEach_heldWithin proofOrder proofOrder_heldWithin _))

theorem warningsAtProving_heldWithin (s : State) : HeldWithin s (warningsAtProving s) :=
  HeldWithin.trans (.of_lp (by simp)) (forEach_heldWithin reofferWarning reofferWarning_heldWithin _)

/-! ### The entry to PROVING (R163) -/

/-- What the entry to PROVING keeps of the Link Port: no reply begins, LINK LOST neither begins nor ends, and no record joins
the held list. -/
theorem enterProving_link (old : Nat) (cause : PowerCause) (s : State) :
    (enterProving old cause s).lp.reply = s.lp.reply ∧ (enterProving old cause s).lp.lostSince = s.lp.lostSince ∧
    HeldWithin s (enterProving old cause s) := by
  obtain ⟨u, hu⟩ : ∃ u, u = autostart (lineAtProving (handPowerState old cause
      (s.setPower .proving (.running (s.now + Config.sec s.cfg.power.proofTime))))) := ⟨_, rfl⟩
  obtain ⟨v, hv⟩ : ∃ v, v = forEach reofferSlot (warningsAtProving (gaugesAtProving u)) := ⟨_, rfl⟩
  have hst : enterProving old cause s = judgeAttention (restartSilence v) := by rw [hv, hu]; rfl
  have hsu : u.lp.reply = s.lp.reply ∧ u.lp.lostSince = s.lp.lostSince ∧ u.lp.held = s.lp.held := by
    simp [hu, handPowerState]
  obtain ⟨-, hreply, -, -, hlost, -⟩ : LinkGrows u v := hv ▸ (gaugesAtProving_link u).trans
    ((warningsAtProving_link _).trans (forEach_link reofferSlot reofferSlot_link _))
  have hheld : HeldWithin u v := hv ▸ (gaugesAtProving_heldWithin u).trans
    ((warningsAtProving_heldWithin _).trans (forEach_heldWithin reofferSlot reofferSlot_heldWithin _))
  have hvt : HeldWithin v (judgeAttention (restartSilence v)) := .of_held (by simp [judgeAttention])
  rw [hst]
  exact ⟨by simp [judgeAttention, hreply, hsu.1], by simp [judgeAttention, hlost, hsu.2.1],
    HeldWithin.trans (.of_held hsu.2.2) (hheld.trans hvt)⟩

theorem warningsAtProving_duty (acks : Prop) (s : State) : SameDuty acks s (warningsAtProving s) :=
  SameDuty.trans (.of_dtu _ _ _ (by simp)) (forEach_duty acks reofferWarning (reofferWarning_duty acks) _)

/-- The entry to PROVING changes the announcement marks alone of the duty unit (R129). -/
theorem enterProving_duty (old : Nat) (cause : PowerCause) (s : State) : SameDuty True s (enterProving old cause s) := by
  have hbefore : SameDuty True s (gaugesAtProving (autostart (lineAtProving (handPowerState old cause
      (s.setPower .proving (.running (s.now + Config.sec s.cfg.power.proofTime))))))) := .of_dtu _ _ _ (by simp)
  exact hbefore.trans ((warningsAtProving_duty True _).trans
    ((forEach_duty True reofferSlot (reofferSlot_duty True) _).trans
      (.of_dtu _ _ (judgeAttention (restartSilence _)) (by simp))))

theorem enterProving_psc (old : Nat) (cause : PowerCause) (s : State) : (enterProving old cause s).psc =
    { s.psc with state := .proving, proof := .running (s.now + Config.sec s.cfg.power.proofTime) } := by
  simp [enterProving, State.setPower]

/-! ### The record that opens the queue -/

/-- A report handed to an empty queue by URGENT or POST is alone in it (R179, R180). -/
theorem hand_opens (k : ReportKind) (a b : Nat) (s : State) (hqueue : s.lp.queue = []) :
    (hand k a b s).lp.overflow = s.lp.overflow ∧
    ∀ urgent, s.cfg.routes.get (routeIndex k .stop) = (if urgent = true then .urgent else .post) →
      (hand k a b s).lp.queue = [⟨k, BitVec.ofNat 8 a, BitVec.ofNat 16 b, BitVec.ofNat 16 s.dtu.clock, urgent⟩] := by
  refine ⟨?_, fun urgent hroute => ?_⟩
  · simp only [hand, handWith, postRecord, judgeAttention]
    split <;> simp [hqueue]
  · cases urgent <;> simp_all [hand, handWith, postRecord, judgeAttention, State.stamp, byte]

/-! ### The blocks in their reset states -/

theorem State.blocksAtReset.of_parts {s t : State} (h : s.blocksAtReset) (hlp : t.lp.atReset) (hcfg : t.cfg = s.cfg)
    (hnow : t.now = s.now) (hssu : t.ssu = s.ssu) (hgdu : t.gdu = s.gdu) (hweu : t.weu = s.weu) (hanu : t.anu = s.anu) :
    t.blocksAtReset := by
  obtain ⟨-, hscan, hgauges, hevaluation, hline⟩ := h
  refine ⟨hlp, by rw [hssu, hcfg]; exact hscan, fun g => ?_, by rw [hweu, hcfg]; exact hevaluation,
    by rw [hanu, hnow]; exact hline⟩
  rw [State.gauge, hgdu, hcfg]
  exact hgauges g

theorem resetBlocks_atReset (c : Settings) (store : Store) (duty : Duty) (sampleDue keyDue : Nat) (keyOn : Bool)
    (s : State) : (resetBlocks c store duty sampleDue keyDue keyOn s).blocksAtReset := by
  refine ⟨?_, ?_, fun g => ?_, ?_, ?_⟩
  · simp [resetBlocks, LinkPort.afterReset, LinkPort.atReset]
  · simp [resetBlocks, Scan.afterReset, Scan.atReset, emptyFilters]
  · simp [resetBlocks, State.gauge, Gauge.afterReset, Gauge.atReset]
  · simp [resetBlocks, Evaluation.afterReset, Evaluation.atReset, Warning.afterReset, Lamp.afterReset, Strength.notEvaluated]
    exact fun _ => rfl
  · simp [resetBlocks, Annunciation.afterReset, Annunciation.atReset, Config.transferTime, Config.ms]

/-- The POWER STATE record alone joins the blocks in their reset states (R161, R172). -/
theorem handPowerState_atReset (old : Nat) (cause : PowerCause) (u : State) (h : u.blocksAtReset) (hqueue : u.lp.queue = []) :
    (handPowerState old cause u).blocksAtReset := by
  obtain ⟨hreceiver, hbyte, hreply, hoverflow, hheld, hlost, hsilence⟩ := h.1
  have hopens := (hand_opens .powerState (code PowerState.list u.psc.state) (old + 256 * code PowerCause.list cause) u
    hqueue).1
  refine h.of_parts ⟨?_, ?_, ?_, hopens.trans hoverflow, ?_, ?_, ?_⟩ (by simp) (by simp) (by simp) (by simp) (by simp)
    (by simp)
  all_goals simp [handPowerState, *]

/-- The POWER STATE record of a reset that chooses SLEEP is alone in the queue (R172). -/
theorem handPowerState_opens (old : Nat) (cause : PowerCause) (u : State) (hqueue : u.lp.queue = [])
    (hsleep : u.psc.state = .sleep) (urgent : Bool)
    (hroute : u.cfg.routes.get 20 = (if urgent = true then .urgent else .post)) :
    (handPowerState old cause u).lp.queue =
      [⟨.powerState, 0, BitVec.ofNat 16 (old + 256 * code PowerCause.list cause), BitVec.ofNat 16 u.dtu.clock, urgent⟩] := by
  have hopens := (hand_opens .powerState (code PowerState.list u.psc.state) (old + 256 * code PowerCause.list cause) u
    hqueue).2 urgent hroute
  rw [hsleep] at hopens
  rw [handPowerState, hsleep, hopens]
  rfl

/-! ### The power state chosen -/

/-- What a reset leaves when the blocks stand in their reset states and the power state is chosen (R161). -/
theorem choosePower_atReset (cause : PowerCause) (u : State) (h : u.blocksAtReset) :
    (choosePower cause u).lp.reply = none ∧ (choosePower cause u).lp.lostSince = none ∧
    (choosePower cause u).lp.held = [] ∧ (choosePower cause u).psc.key = u.psc.key ∧
    SameDuty True u (choosePower cause u) := by
  obtain ⟨-, -, hreply, -, hheld, hlost, -⟩ := h.1
  unfold choosePower
  split
  · obtain ⟨hr, hl, hwithin⟩ := enterProving_link resetNumber cause u
    refine ⟨hr.trans hreply, hl.trans hlost, List.subset_nil.mp (hheld ▸ hwithin), by simp [enterProving_psc],
      enterProving_duty resetNumber cause u⟩
  · exact ⟨by simp [handPowerState, hreply], by simp [handPowerState, hlost], by simp [handPowerState, hheld], by simp,
      .of_dtu _ _ _ (by simp)⟩

end Sys2Proof.Machine
end

section
/-! PROOFS. O4: POWER_ON, the loss of supply, and the commands without supply. -/
namespace Sys2Proof.Machine

/-! ### A save in progress abandoned (R191) -/

theorem Store.abandoned_lock (c : Store) : c.abandoned.lock = c.lock := by
  unfold Store.abandoned
  split <;> rfl

theorem Store.abandoned_saving (c : Store) : c.abandoned.saving = none := by
  unfold Store.abandoned
  split
  · next h => exact h
  · rfl

theorem Store.abandoned_idle (c : Store) (h : c.saving = none) : c.abandoned = c := by simp [Store.abandoned, h]

/-- A save in progress leaves an image whose check value does not match. -/
theorem Store.abandoned_image (c : Store) (x : Settings) (h : c.saving = some x) :
    ∃ k, c.abandoned.image = .held x k ∧ k ≠ x.check := by
  simpa [Store.abandoned, h] using StoredImage.brokenOff_mismatch x

theorem Store.afterReset_parts (c : Store) : c.afterReset.lock = c.lock ∧ c.afterReset.saving = none :=
  ⟨c.abandoned_lock, rfl⟩

theorem lossOfSupply_keepsTheStore (s : State) (hpowered : s.powered = true) :
    ∃ t, exec .lossOfSupply s = .next t ∧ t.powered = false ∧ t.cs.lock = s.cs.lock ∧ t.saving = false ∧
      (s.cs.saving = none → t.cs.image = s.cs.image) ∧
      ∀ x, s.cs.saving = some x → ∃ k, t.cs.image = .held x k ∧ k ≠ x.check := by
  have hstore : (loseSupply s).cs = s.cs.abandoned := rfl
  refine ⟨loseSupply s, event_powered _ s hpowered, rfl, ?_, ?_, fun h => ?_, fun x h => ?_⟩
  · rw [hstore, Store.abandoned_lock]
  · simp [State.saving, hstore, Store.abandoned_saving]
  · rw [hstore, Store.abandoned_idle _ h]
  · rw [hstore]
    exact Store.abandoned_image _ x h

/-! ### Without supply -/

/-- Every command but POWER_ON is an event of the part (log entry 21). -/
theorem exec_unpowered (c : Instr) (s : State) (hpowered : s.powered = false) (hc : ∀ keyOn, c ≠ .powerOn keyOn) :
    exec c s = .next s := by
  cases s
  cases hpowered
  cases c
  case powerOn keyOn => exact absurd rfl (hc keyOn)
  all_goals rfl

/-! ### POWER_ON -/

/-- The blocks that POWER_ON chooses a power state for. -/
def powerOnBlocks (keyOn : Bool) (s : State) : State :=
  resetBlocks s.cs.afterReset.loaded s.cs.afterReset (.afterPowerOn s.now) (s.now + Config.sampleInterval)
    (s.now + Config.sampleInterval) keyOn s

theorem powerOn_eq (keyOn : Bool) (s : State) : powerOn keyOn s = choosePower .powerOn (powerOnBlocks keyOn s) := rfl

theorem powerOnBlocks_atReset (keyOn : Bool) (s : State) : (powerOnBlocks keyOn s).blocksAtReset :=
  resetBlocks_atReset _ _ _ _ _ _ _

theorem powerOnBlocks_slot (keyOn : Bool) (s : State) (i : Fin 2) : (powerOnBlocks keyOn s).slot i = .empty none :=
  Table.get_replicate _ _

theorem powerOnBlocks_entry (keyOn : Bool) (s : State) (q : Fin 48) : (powerOnBlocks keyOn s).entry q = .fresh s.now :=
  Table.get_replicate _ _

/-- With both slots EMPTY the key line alone chooses. -/
theorem choosePower_powerOnBlocks (keyOn : Bool) (s : State) : choosePower .powerOn (powerOnBlocks keyOn s) =
    if keyOn = true then enterProving 255 .powerOn (powerOnBlocks keyOn s)
    else handPowerState 255 .powerOn (powerOnBlocks keyOn s) := by
  have hdriving : (powerOnBlocks keyOn s).anyDriving = false := rfl
  have hkey : (powerOnBlocks keyOn s).psc.key = keyOn := rfl
  rw [choosePower, hdriving, hkey]
  simp [resetNumber]

/-- Settles O4. -/
theorem supplyComesAndGoes : Obligations.SupplyComesAndGoes := by
  refine ⟨fun keyOn s => ?_, lossOfSupply_keepsTheStore, exec_unpowered⟩
  obtain ⟨u, hu⟩ : ∃ u, u = powerOnBlocks keyOn s := ⟨_, rfl⟩
  obtain ⟨t, ht⟩ : ∃ t, t = choosePower .powerOn u := ⟨_, rfl⟩
  have hreset : u.blocksAtReset := hu ▸ powerOnBlocks_atReset keyOn s
  have hqueue : u.lp.queue = [] := by rw [hu]; rfl
  have hslot : ∀ i, u.slot i = .empty none := fun i => by rw [hu, powerOnBlocks_slot]
  have hchosen : t = if keyOn = true then enterProving 255 .powerOn u else handPowerState 255 .powerOn u := by
    rw [ht, hu, choosePower_powerOnBlocks]
  obtain ⟨hcs, hcfg⟩ := powerOn_loads keyOn s
  rw [powerOn_eq, ← hu, ← ht] at hcs hcfg
  have hpowered : t.powered = true := by simp [ht, hu, powerOnBlocks, resetBlocks]
  have hentry : ∀ q, t.entry q = .fresh s.now := fun q => by
    rw [State.entry_of u t (by simp [ht]), hu, powerOnBlocks_entry]
  obtain ⟨hreply, hlost, hheld, hkey, hduty⟩ := choosePower_atReset .powerOn u hreset
  rw [← ht] at hreply hlost hheld hkey hduty
  obtain ⟨hclock, -, -, -, hslots, -⟩ := hduty
  obtain ⟨hlock, hsaving⟩ := s.cs.afterReset_parts
  refine ⟨t, by rw [ht, hu]; rfl, hpowered, by rw [hkey, hu]; rfl, ?_, by rw [hcs, hlock],
    by rw [State.saving, hcs, hsaving]; rfl, by rw [hclock, hu]; rfl, fun i => ?_, hlost, hheld, hreply, fun q => ?_,
    ⟨u, hreset, hqueue, by rw [hcfg, hu]; rfl, hslot, hchosen⟩, fun hoff => ?_, ?_⟩
  · have hsleep : u.psc.state = .sleep := by rw [hu]; rfl
    rw [hchosen]
    cases keyOn <;> simp [enterProving_psc, hsleep]
  · rw [hslots i, hslot i]
    rfl
  · rw [hentry q]
    exact ⟨rfl, rfl, rfl⟩
  · have hoffState : t = handPowerState 255 .powerOn u := by rw [hchosen, hoff]; rfl
    rw [hoffState]
    refine ⟨handPowerState_atReset 255 .powerOn u hreset hqueue, fun i => ?_, fun urgent hroute => ?_⟩
    · rw [State.slot_of u _ (by simp), hslot i]
    · have hclock : u.dtu.clock = 0 := by rw [hu]; rfl
      rw [handPowerState_opens 255 .powerOn u hqueue (by rw [hu]; rfl) urgent (by simpa using hroute), hclock]
      rfl
  · rw [hcfg, hcs]
    exact afterReset_loads s

end Sys2Proof.Machine
end

section
/-! PROOFS. O13: the end of a reply and the LINK RESET. -/
namespace Sys2Proof.Machine

/-! ### The derived quantities written with no entry shown (R131) -/

/-- With no entry shown, a write has nothing to acknowledge. -/
theorem writeEntry_noneShown (q : Fin 48) (e : Quantity) (s : State) (hshown : s.anu.shown = none) :
    writeEntry q e s = s.setEntry q e := by
  have hacknowledge : acknowledgeShown (s.setEntry q e) = s.setEntry q e := by simp [acknowledgeShown, hshown]
  rw [writeEntry, hacknowledge, ite_self]

theorem writeDerivedIfPresent_noneShown (i : Fin 2) (s : State) (hshown : s.anu.shown = none) :
    (writeDerivedIfPresent i s).lp = s.lp ∧ (writeDerivedIfPresent i s).weu = s.weu ∧
    (writeDerivedIfPresent i s).dtu = s.dtu ∧ (writeDerivedIfPresent i s).anu = s.anu := by
  unfold writeDerivedIfPresent writeDerived writeRemaining
  split
  · rw [writeEntry_noneShown _ _ s hshown, writeEntry_noneShown _ _ _ (by simp [hshown])]
    simp
  · exact ⟨rfl, rfl, rfl, rfl⟩

/-- An entry after its derived quantity has been written. -/
def State.derivedEntry (s : State) (i : Fin 2) (daily : Bool) (e : Quantity) : Quantity :=
  { e with value := max (-32768) (s.remaining i (if daily then .daily else .continuous)), status := .valid,
           restarted := s.now }

theorem derivedQuantity_inj : ∀ (i j : Fin 2) (d e : Bool), derivedQuantity i d = derivedQuantity j e ↔ i = j ∧ d = e := by
  decide

theorem State.remaining_of {s t : State} (hcfg : t.cfg = s.cfg) (hdtu : t.dtu = s.dtu) (i : Fin 2) (k : Track) :
    t.remaining i k = s.remaining i k := by
  simp [State.remaining, hcfg, State.slot_of s t hdtu]

theorem derivedEntry_of {s t : State} (hcfg : t.cfg = s.cfg) (hdtu : t.dtu = s.dtu) (hnow : t.now = s.now) (i : Fin 2)
    (daily : Bool) (e : Quantity) : t.derivedEntry i daily e = s.derivedEntry i daily e := by
  simp [State.derivedEntry, State.remaining_of hcfg hdtu, hnow]

theorem writeDerivedIfPresent_entry (i : Fin 2) (s : State) (hshown : s.anu.shown = none) :
    (∀ q, ((s.slot i).card.isSome = true → ∀ daily, q ≠ derivedQuantity i daily) →
      (writeDerivedIfPresent i s).entry q = s.entry q) ∧
    ((s.slot i).card.isSome = true → ∀ daily, (writeDerivedIfPresent i s).entry (derivedQuantity i daily) =
      s.derivedEntry i daily (s.entry (derivedQuantity i daily))) := by
  by_cases hcard : (s.slot i).card.isSome = true
  · obtain ⟨m, hm⟩ : ∃ m, m = writeRemaining i false s := ⟨_, rfl⟩
    have hset : m = s.setEntry (derivedQuantity i false) (s.derivedEntry i false (s.entry (derivedQuantity i false))) :=
      hm ▸ writeEntry_noneShown _ _ s hshown
    have hwrite : writeDerivedIfPresent i s =
        m.setEntry (derivedQuantity i true) (m.derivedEntry i true (m.entry (derivedQuantity i true))) := by
      rw [writeDerivedIfPresent, if_pos hcard, writeDerived, ← hm]
      exact writeEntry_noneShown _ _ m (by rw [hset]; simp [hshown])
    have hderived : ∀ e, m.derivedEntry i true e = s.derivedEntry i true e :=
      derivedEntry_of (by rw [hset]; simp) (by rw [hset]; simp) (by rw [hset]; simp) i true
    rw [hwrite, hset]
    rw [hset] at hderived
    refine ⟨fun q hq => ?_, fun _ daily => ?_⟩
    · simp [hq hcard true, hq hcard false]
    · cases daily <;> simp [derivedQuantity_inj, hderived]
  · refine ⟨fun q _ => ?_, fun h => absurd h hcard⟩
    rw [writeDerivedIfPresent, if_neg hcard]

/-- What the two writes leave: the quantities of each PRESENT slot written, every other entry as it was. -/
theorem writeBothDerived_entry (s u : State) (hshown : s.anu.shown = none)
    (hu : u = writeDerivedIfPresent 1 (writeDerivedIfPresent 0 s)) :
    (∀ q, (∀ i, (s.slot i).card.isSome = true → ∀ daily, q ≠ derivedQuantity i daily) → u.entry q = s.entry q) ∧
    ∀ i, (s.slot i).card.isSome = true → ∀ daily, u.entry (derivedQuantity i daily) =
      s.derivedEntry i daily (s.entry (derivedQuantity i daily)) := by
  obtain ⟨m, hm⟩ : ∃ m, m = writeDerivedIfPresent 0 s := ⟨_, rfl⟩
  obtain ⟨hother0, hown0⟩ := writeDerivedIfPresent_entry 0 s hshown
  obtain ⟨-, -, hdtu, hanu⟩ := writeDerivedIfPresent_noneShown 0 s hshown
  rw [← hm] at hother0 hown0 hdtu hanu hu
  obtain ⟨hother1, hown1⟩ := writeDerivedIfPresent_entry 1 m (hanu ▸ hshown)
  rw [← hu, State.slot_of s m hdtu] at hother1 hown1
  have hderived : ∀ daily e, m.derivedEntry 1 daily e = s.derivedEntry 1 daily e :=
    fun daily e => derivedEntry_of (by rw [hm]; simp) hdtu (by rw [hm]; simp) 1 daily e
  refine ⟨fun q hq => (hother1 q (hq 1)).trans (hother0 q (hq 0)), fun i hcard daily => ?_⟩
  obtain rfl | rfl : i = 0 ∨ i = 1 := by omega
  · rw [hother1 _ (fun _ d => by simp [derivedQuantity_inj]), hown0 hcard]
  · rw [hown1 hcard, hderived, hother0 _ (fun _ d => by simp [derivedQuantity_inj])]

/-! ### The blocks that LINK RESET chooses a power state for -/

def linkResetBlocks (keyOn : Bool) (s : State) : State :=
  resetBlocks { s.cs.afterReset.loaded with duty := { s.cs.afterReset.loaded.duty with limits := s.cfg.duty.limits } }
    s.cs.afterReset s.dtu.unmarked s.qt.sampleDue s.psc.keyDue keyOn s

def linkResetDerived (keyOn : Bool) (s : State) : State :=
  writeDerivedIfPresent 1 (writeDerivedIfPresent 0 (linkResetBlocks keyOn s))

theorem linkReset_eq (keyOn : Bool) (s : State) : linkReset keyOn s = choosePower .linkReset (linkResetDerived keyOn s) := rfl

theorem linkResetDerived_same (keyOn : Bool) (s : State) :
    (linkResetBlocks keyOn s).sameBut (linkResetDerived keyOn s) [.qt] := by
  have hshown : (linkResetBlocks keyOn s).anu.shown = none := rfl
  obtain ⟨hlp, hweu, hdtu, hanu⟩ := writeDerivedIfPresent_noneShown 0 _ hshown
  obtain ⟨hlp', hweu', hdtu', hanu'⟩ := writeDerivedIfPresent_noneShown 1 (writeDerivedIfPresent 0 (linkResetBlocks keyOn s))
    (hanu ▸ hshown)
  rw [State.sameBut_parts]
  simp [linkResetDerived, *]

/-- A slot keeps everything but its announcement marks (R133). -/
theorem unmarked_slot (s t : State) (hdtu : t.dtu = s.dtu.unmarked) (i : Fin 2) :
    t.slot i = { s.slot i with tracks := (s.slot i).tracks.unmarked } := by
  simp [State.slot, hdtu, Duty.unmarked]

theorem unmarked_track (s t : State) (hdtu : t.dtu = s.dtu.unmarked) (i : Fin 2) (k : Track) :
    t.track i k = { s.track i k with offered := false } := by
  rw [State.track, unmarked_slot s t hdtu]
  cases k <;> rfl

theorem State.anyDriving_iff (s : State) : s.anyDriving = true ↔ ∃ i, (s.slot i).driving = true := by
  have hmem : ∀ x, x ∈ s.dtu.slots.items ↔ ∃ i, s.slot i = x := by
    intro x
    rw [List.mem_iff_getElem]
    constructor
    · rintro ⟨n, hn, rfl⟩
      exact ⟨⟨n, s.dtu.slots.size ▸ hn⟩, rfl⟩
    · rintro ⟨i, rfl⟩
      exact ⟨i.val, s.dtu.slots.size.symm ▸ i.isLt, rfl⟩
  simp [State.anyDriving, hmem]

theorem unmarked_anyDriving (s t : State) (hdtu : t.dtu = s.dtu.unmarked) : t.anyDriving = s.anyDriving := by
  rw [Bool.eq_iff_iff, State.anyDriving_iff, State.anyDriving_iff]
  simp [unmarked_slot s t hdtu, Slot.driving]

theorem linkResetDerived_entry (keyOn : Bool) (s : State) :
    (∀ q, (∀ i, (s.slot i).card.isSome = true → ∀ daily, q ≠ derivedQuantity i daily) →
      (linkResetDerived keyOn s).entry q = .fresh s.now) ∧
    ∀ i, (s.slot i).card.isSome = true → ∀ daily, (linkResetDerived keyOn s).entry (derivedQuantity i daily) =
      s.derivedEntry i daily (.fresh s.now) := by
  obtain ⟨b, hb⟩ : ∃ b, b = linkResetBlocks keyOn s := ⟨_, rfl⟩
  have hslot : ∀ i, b.slot i = { s.slot i with tracks := (s.slot i).tracks.unmarked } :=
    unmarked_slot s b (by rw [hb]; rfl)
  have hlimits : b.cfg.duty.limits = s.cfg.duty.limits := by rw [hb]; rfl
  have hfresh : ∀ q, b.entry q = .fresh s.now := fun q => by
    rw [hb]
    exact Table.get_replicate _ _
  have hnow : b.now = s.now := by rw [hb]; rfl
  have hderived : ∀ i daily e, b.derivedEntry i daily e = s.derivedEntry i daily e := fun i daily e => by
    cases daily <;> simp [State.derivedEntry, State.remaining, Slot.counter, hslot, hlimits, hnow]
  obtain ⟨hother, hown⟩ := writeBothDerived_entry b (linkResetDerived keyOn s) (by rw [hb]; rfl) (by rw [hb]; rfl)
  simp only [hslot, hfresh, hderived] at hother hown
  exact ⟨hother, hown⟩

/-! ### The LINK RESET (R188) -/

theorem replySent_exec (keyOn : Bool) (s : State) (r : Reply) (hpowered : s.powered = true) (hreply : s.lp.reply = some r) :
    exec (.replySent keyOn) s = .next (replySent keyOn r s) := by
  simp [exec, execReplySent, hpowered, hreply]

theorem Reply.resets_iff (r : Reply) : r.resets = true ↔ r.kind = 0x06#8 ∧ r.status = .ok :=
  decide_eq_true_iff

/-- The announcement marks apart, the duty unit is as it was before they were cleared. -/
theorem SameDuty.of_unmarked {s u t : State} (hdtu : u.dtu = s.dtu.unmarked) (h : SameDuty True u t) : SameDuty True s t := by
  have hunmarked : SameDuty True s u := by
    refine ⟨by rw [hdtu]; rfl, by rw [hdtu]; rfl, by rw [hdtu]; rfl, by rw [hdtu]; rfl, fun i => ?_, fun i k => ?_⟩
    · rw [unmarked_slot s u hdtu i]
    · rw [unmarked_track s u hdtu i k]
      exact ⟨rfl, fun _ => rfl⟩
  exact hunmarked.trans h

/-- The load of a reset that breaks off a save (R190, R191). -/
theorem afterReset_brokenOff (s : State) (x : Settings) (h : s.cs.saving = some x) : s.cs.afterReset.invalid = true ∧
    ∃ k, s.cs.afterReset.image = .held x k ∧ k ≠ x.check :=
  ⟨((afterReset_loads s).2 (.inl (by simp [h]))).1, Store.abandoned_image _ x h⟩

theorem linkResetDerived_absent (keyOn : Bool) (s : State) (q : Fin 48)
    (hq : ∀ i : Fin 2, q.val = 44 + 2 * i.val ∨ q.val = 45 + 2 * i.val → (s.slot i).card = none) :
    (linkResetDerived keyOn s).entry q = .fresh s.now := by
  refine (linkResetDerived_entry keyOn s).1 q fun i hcard daily hderived => ?_
  have hnone := hq i (by
    rw [hderived]
    cases daily <;> simp [derivedQuantity]
    omega)
  simp [hnone] at hcard

theorem linkResetDerived_valid (keyOn : Bool) (s : State) (i : Fin 2) (hcard : (s.slot i).card.isSome = true)
    (q : Fin 48) (daily : Bool) (hq : q.val = 44 + 2 * i.val + (if daily then 1 else 0)) :
    (linkResetDerived keyOn s).entry q = s.derivedEntry i daily (.fresh s.now) := by
  rw [show q = derivedQuantity i daily from Fin.ext hq]
  exact (linkResetDerived_entry keyOn s).2 i hcard daily

/-- The key line and the DRIVING question choose (R161, R188). -/
theorem choosePower_linkReset (keyOn : Bool) (s u : State) (hkey : u.psc.key = keyOn) (hdtu : u.dtu = s.dtu.unmarked) :
    choosePower .linkReset u = if keyOn = true ∨ s.anyDriving = true then enterProving 255 .linkReset u
      else handPowerState 255 .linkReset u := by
  rw [choosePower, hkey, unmarked_anyDriving s u hdtu, resetNumber]

/-- Settles O13. -/
theorem replySentMakesTheLinkReset : Obligations.ReplySentMakesTheLinkReset := by
  intro keyOn s r hpowered hreply
  rw [replySent_exec keyOn s r hpowered hreply]
  refine ⟨fun hother => ?_, fun hkind hstatus => ?_⟩
  · have hresets : ¬ r.resets = true := by
      rw [Reply.resets_iff]
      tauto
    rw [replySent, if_neg hresets]
  rw [replySent, if_pos (r.resets_iff.mpr ⟨hkind, hstatus⟩), linkReset_eq]
  obtain ⟨hcs, hcfg⟩ := linkReset_loads keyOn s
  rw [linkReset_eq] at hcs hcfg
  have habsent := linkResetDerived_absent keyOn s
  have hvalid := linkResetDerived_valid keyOn s
  have hsame := linkResetDerived_same keyOn s
  obtain ⟨u, hu⟩ : ∃ u, u = linkResetDerived keyOn s := ⟨_, rfl⟩
  rw [← hu] at hcs hcfg habsent hvalid hsame ⊢
  simp only [State.sameBut_parts, List.mem_singleton, reduceCtorEq, false_or] at hsame
  obtain ⟨-, hnow, -, -, hucfg, hlp, -, hssu, hgdu, hweu, hdtu, hanu, hpsc, -⟩ := hsame
  have hreset : u.blocksAtReset := (resetBlocks_atReset _ _ _ _ _ _ _).of_parts
    (hlp ▸ (resetBlocks_atReset _ _ _ _ _ _ s).1) hucfg hnow hssu hgdu hweu hanu
  have hqueue : u.lp.queue = [] := by rw [hlp]; rfl
  have hudtu : u.dtu = s.dtu.unmarked := hdtu
  have hunow : u.now = s.now := hnow
  have hukey : u.psc.key = keyOn := by rw [hpsc]; rfl
  have husleep : u.psc.state = .sleep := by rw [hpsc]; rfl
  have hchosen := choosePower_linkReset keyOn s u hukey hudtu
  obtain ⟨hnoReply, hlost, hheld, hkey, hduty⟩ := choosePower_atReset .linkReset u hreset
  obtain ⟨hclock, hminute, hcount, hmismatch, hslots, htracks⟩ := SameDuty.of_unmarked hudtu hduty
  obtain ⟨-, htnow, -, -, htcfg, hqt, -⟩ := choosePower_frame .linkReset u
  have hentry := State.entry_of u _ hqt
  obtain ⟨hlock, hsaving⟩ := s.cs.afterReset_parts
  refine ⟨choosePower .linkReset u, rfl, hnoReply, hheld, hlost, hclock, hminute, htnow.trans hunow, hslots,
    fun i k => ⟨(htracks i k).1, (htracks i k).2 trivial⟩, hcount, hmismatch,
    ⟨s.cs.afterReset.loaded, hcs ▸ afterReset_loads s, hcfg⟩, by rw [hcs, hlock],
    by rw [State.saving, hcs, hsaving]; rfl, fun x hx => hcs ▸ afterReset_brokenOff s x hx, hkey.trans hukey, ?_,
    fun q hq => ?_, fun i hcard q => ⟨fun hq => ?_, fun hq => ?_⟩,
    ⟨u, hreset, hqueue, htcfg.symm, unmarked_track s u hudtu, hchosen⟩, fun hoff hstill => ?_⟩
  · rw [hchosen]
    split <;> simp [enterProving_psc, husleep]
  · rw [hentry, habsent q hq]
    exact ⟨rfl, rfl, rfl⟩
  · rw [hentry, hvalid i hcard q false (by simpa using hq)]
    exact ⟨rfl, rfl, rfl⟩
  · rw [hentry, hvalid i hcard q true (by simp; omega)]
    exact ⟨rfl, rfl, rfl⟩
  · have hasleep : choosePower .linkReset u = handPowerState 255 .linkReset u := by
      rw [hchosen, hoff, hstill]
      rfl
    rw [hasleep]
    refine ⟨handPowerState_atReset 255 .linkReset u hreset hqueue, fun i k => ?_, fun urgent hroute => ?_⟩
    · rw [unmarked_track s _ (by simp [hudtu])]
    · rw [handPowerState_opens 255 .linkReset u hqueue husleep urgent (by simpa using hroute), hudtu]
      rfl

end Sys2Proof.Machine
end

section
/-! PROOFS. O18: the entry to PROVING, in four stages: the blocks before the gauges, the orders to the gauges, the offers made
under the proof hold, and the Link Port's own timer and line. -/
namespace Sys2Proof.Machine

/-! ### The coil-open input of one gauge (R58) -/

theorem watchCoil_closed {g : Fin 6} {s : State} (h : s.coilOpen.get g = false) : watchCoil g s = s := by
  simp [watchCoil, h]

theorem watchCoil_undriven {g : Fin 6} {s : State} (h : (s.gauge g).state = .unhomed ∨ (s.gauge g).state = .fault) :
    watchCoil g s = s := by
  have hundriven : s.coilsDriven g = false := by
    rcases h with h | h <;> simp_all [State.coilsDriven, State.gauge]
  simp [watchCoil, hundriven]

theorem watchCoil_other {g x : Fin 6} {s : State} (h : x ≠ g) : (watchCoil g s).gauge x = s.gauge x := by
  unfold watchCoil
  split
  · simp [enterFault, h]
  · rfl

theorem Gauge.putStaged_updateDue (r : Gauge) : r.putStaged.updateDue = r.updateDue := by
  unfold Gauge.putStaged
  split <;> rfl

theorem watchCoil_updateDue (g : Fin 6) (s : State) : ((watchCoil g s).gauge g).updateDue = (s.gauge g).updateDue := by
  unfold watchCoil
  split
  · simp [enterFault, Gauge.putStaged_updateDue]
  · rfl

/-- A gauge stopped by its open coil (R58). -/
def Gauge.coilFaulted (r : Gauge) : Prop :=
  r.state = .fault ∧ r.faultDetail = some .coilOpen ∧ r.position = none ∧ r.move = none ∧ r.homing = none

theorem watchCoil_open {g : Fin 6} {s : State} (hpowered : s.powered = true) (hawake : s.psc.state ≠ .sleep)
    (hopen : s.coilOpen.get g = true) (hunhomed : (s.gauge g).state ≠ .unhomed) (hfault : (s.gauge g).state ≠ .fault) :
    ((watchCoil g s).gauge g).coilFaulted := by
  have hdriven : s.coilsDriven g = true := by
    simp_all [State.coilsDriven, State.gauge]
  simp [watchCoil, hdriven, hopen, enterFault, Gauge.coilFaulted]

/-! ### The order to one gauge (R60) -/

/-- A gauge sent HOMING by its configuration (R46). -/
def Gauge.homes (r : Gauge) (c : GaugeSettings) : Gauge :=
  { r with
    state := .homing, faultDetail := none, position := none, move := none, following := none
    homing := some ⟨c.homingMode, c.homeTravel, c.homingSpeed, 0, false⟩ }

theorem enterHoming_eq (g : Fin 6) (s : State) :
    enterHoming g s = watchCoil g (s.setGauge g ((s.gauge g).homes (s.gaugeConfig g))) := rfl

theorem enterHoming_closed {g : Fin 6} {s : State} (h : s.coilOpen.get g = false) :
    (enterHoming g s).gauge g = (s.gauge g).homes (s.gaugeConfig g) := by
  rw [enterHoming_eq, watchCoil_closed (by simpa using h)]
  simp

theorem enterHoming_open {g : Fin 6} {s : State} (hpowered : s.powered = true) (hawake : s.psc.state ≠ .sleep)
    (hopen : s.coilOpen.get g = true) : ((enterHoming g s).gauge g).coilFaulted := by
  rw [enterHoming_eq]
  exact watchCoil_open (by simpa using hpowered) (by simpa using hawake) (by simpa using hopen) (by simp [Gauge.homes])
    (by simp [Gauge.homes])

theorem enterSweeping_gauge (g : Fin 6) (s : State) : (enterSweeping g s).gauge g =
    if (s.gauge g).position = some (s.gaugeConfig g).calibration.maxPos then
      Gauge.takeTarget (s.gaugeConfig g).calibration.minPos { s.gauge g with state := .sweeping, sweepBack := true }
    else
      Gauge.takeTarget (s.gaugeConfig g).calibration.maxPos { s.gauge g with state := .sweeping, sweepBack := false } := by
  unfold enterSweeping
  split <;> simp_all

/-- What R60 orders a gauge to HOMING for: it is UNHOMED, or it is PARKED or in FAULT with the rehome flag set. -/
def Gauge.mustHome (r : Gauge) (c : GaugeSettings) : Prop :=
  r.state = .unhomed ∨ (r.state ∈ [GaugeState.parked, .fault] ∧ c.rehome = true)

theorem proofOrder_homes {g : Fin 6} {s : State} (h : (s.gauge g).mustHome (s.gaugeConfig g)) :
    proofOrder g s = enterHoming g s := by
  rcases h with h | ⟨h, hrehome⟩
  · simp [proofOrder, h]
  · simp only [List.mem_cons, List.not_mem_nil, or_false] at h
    rcases h with h | h <;> simp [proofOrder, h, hrehome]

theorem proofOrder_sweeps {g : Fin 6} {s : State} (h : (s.gauge g).state = .parked) (hrehome : (s.gaugeConfig g).rehome = false)
    (hsweep : (s.gaugeConfig g).sweepAtProof = true) : proofOrder g s = enterSweeping g s := by
  simp [proofOrder, h, hrehome, hsweep]

theorem proofOrder_tracks {g : Fin 6} {s : State} (h : (s.gauge g).state = .parked) (hrehome : (s.gaugeConfig g).rehome = false)
    (hsweep : (s.gaugeConfig g).sweepAtProof = false) : proofOrder g s = enterTracking g s := by
  simp [proofOrder, h, hrehome, hsweep]

theorem proofOrder_fault {g : Fin 6} {s : State} (h : (s.gauge g).state = .fault) (hrehome : (s.gaugeConfig g).rehome = false) :
    proofOrder g s = s := by
  simp [proofOrder, h, hrehome]

/-- Every order is a homing, a sweep, tracking, or none. -/
theorem proofOrder_cases (g : Fin 6) (s : State) : proofOrder g s = enterHoming g s ∨ proofOrder g s = enterSweeping g s ∨
    proofOrder g s = enterTracking g s ∨ proofOrder g s = s := by
  unfold proofOrder
  dsimp only
  (repeat' split) <;> simp

theorem proofOrder_other {g x : Fin 6} {s : State} (h : x ≠ g) : (proofOrder g s).gauge x = s.gauge x := by
  rcases proofOrder_cases g s with ho | ho | ho | ho <;> rw [ho]
  · rw [enterHoming_eq, watchCoil_other h]
    simp [h]
  · simp [enterSweeping, h]
  · simp [enterTracking, h]

theorem proofOrder_updateDue (g : Fin 6) (s : State) : ((proofOrder g s).gauge g).updateDue = (s.gauge g).updateDue := by
  rcases proofOrder_cases g s with ho | ho | ho | ho <;> rw [ho]
  · rw [enterHoming_eq, watchCoil_updateDue]
    simp [Gauge.homes]
  · simp [enterSweeping]
  · simp [enterTracking, Gauge.track]

/-! ### The gauges at the entry to PROVING (R60, R62) -/

/-- Two states agree on what a gauge's order is decided by, beside the gauge itself. -/
def SameOrders (s t : State) : Prop :=
  t.cfg = s.cfg ∧ t.coilOpen = s.coilOpen ∧ t.powered = s.powered ∧ t.psc = s.psc

theorem startUpdates_gauge (g : Fin 6) (s : State) :
    (startUpdates s).gauge g = { s.gauge g with updateDue := some (s.now + Config.updateInterval) } := by
  simp [startUpdates, State.gauge]

/-- Each gauge has its coil watched, and is then given its order, on states that differ from the first in other gauges
alone. -/
theorem gaugesAtProving_turns (g : Fin 6) (s : State) : ∃ u v, SameOrders s u ∧ SameOrders s v ∧
    u.gauge g = { s.gauge g with updateDue := some (s.now + Config.updateInterval) } ∧
    v.gauge g = (watchCoil g u).gauge g ∧ (gaugesAtProving s).gauge g = (proofOrder g v).gauge g := by
  obtain ⟨u, hu, hug, hwatched⟩ := forEach_turn State.gauge (SameOrders s) watchCoil
    (fun i t ht => by simpa [SameOrders] using ht) (fun i j t h => watchCoil_other h) g (startUpdates s)
    (by simp [SameOrders])
  obtain ⟨v, hv, hvg, hordered⟩ := forEach_turn State.gauge (SameOrders s) proofOrder
    (fun i t ht => by simpa [SameOrders] using ht) (fun i j t h => proofOrder_other h) g (forEach watchCoil (startUpdates s))
    (by simp [SameOrders])
  exact ⟨u, v, hu, hv, hug.trans (startUpdates_gauge g s), hvg.trans hwatched, hordered⟩

theorem gaugesAtProving_updateDue (g : Fin 6) (s : State) :
    ((gaugesAtProving s).gauge g).updateDue = some (s.now + Config.updateInterval) := by
  obtain ⟨u, v, -, -, hu, hv, ht⟩ := gaugesAtProving_turns g s
  rw [ht, proofOrder_updateDue, hv, watchCoil_updateDue, hu]

section
variable {g : Fin 6} {s : State} {r : Gauge} {c : GaugeSettings}

/-- A gauge whose coil is closed, or is not driven, is given its order as it stands. -/
theorem gaugesAtProving_unwatched (hc : c = s.gaugeConfig g)
    (hr : r = { s.gauge g with updateDue := some (s.now + Config.updateInterval) })
    (h : s.coilOpen.get g = false ∨ r.state = .unhomed ∨ r.state = .fault) :
    ∃ v, SameOrders s v ∧ v.gauge g = r ∧ v.gaugeConfig g = c ∧ (gaugesAtProving s).gauge g = (proofOrder g v).gauge g := by
  obtain ⟨u, v, husame, hvsame, hu, hv, ht⟩ := gaugesAtProving_turns g s
  rw [← hr] at hu
  have hwatch : watchCoil g u = u := by
    rcases h with h | h
    · exact watchCoil_closed (by rw [husame.2.1]; exact h)
    · exact watchCoil_undriven (by rw [hu]; exact h)
  exact ⟨v, hvsame, by rw [hv, hwatch, hu], by rw [hc, State.gaugeConfig, hvsame.1, State.gaugeConfig], ht⟩

/-- The order to a gauge in FAULT without the rehome flag: none. -/
theorem gaugesAtProving_fault (hc : c = s.gaugeConfig g)
    (hr : r = { s.gauge g with updateDue := some (s.now + Config.updateInterval) }) (hstate : r.state = .fault)
    (hrehome : c.rehome = false) : (gaugesAtProving s).gauge g = r := by
  obtain ⟨v, -, hv, hvc, ht⟩ := gaugesAtProving_unwatched hc hr (.inr (.inr hstate))
  rw [ht, proofOrder_fault (hv ▸ hstate) (hvc ▸ hrehome), hv]

theorem gaugesAtProving_homes (hc : c = s.gaugeConfig g)
    (hr : r = { s.gauge g with updateDue := some (s.now + Config.updateInterval) }) (hclosed : s.coilOpen.get g = false)
    (hhome : r.mustHome c) : (gaugesAtProving s).gauge g = r.homes c := by
  obtain ⟨v, hsame, hv, hvc, ht⟩ := gaugesAtProving_unwatched hc hr (.inl hclosed)
  rw [ht, proofOrder_homes (by rw [hv, hvc]; exact hhome), enterHoming_closed (by rw [hsame.2.1]; exact hclosed), hv, hvc]

theorem gaugesAtProving_tracks (hc : c = s.gaugeConfig g)
    (hr : r = { s.gauge g with updateDue := some (s.now + Config.updateInterval) }) (hclosed : s.coilOpen.get g = false)
    (hstate : r.state = .parked) (hrehome : c.rehome = false) (hsweep : c.sweepAtProof = false) :
    (gaugesAtProving s).gauge g = r.track := by
  obtain ⟨v, -, hv, hvc, ht⟩ := gaugesAtProving_unwatched hc hr (.inl hclosed)
  rw [ht, proofOrder_tracks (hv ▸ hstate) (hvc ▸ hrehome) (hvc ▸ hsweep), enterTracking, State.setGauge_gauge, if_pos rfl, hv]

theorem gaugesAtProving_sweeps (hc : c = s.gaugeConfig g)
    (hr : r = { s.gauge g with updateDue := some (s.now + Config.updateInterval) }) (hclosed : s.coilOpen.get g = false)
    (hstate : r.state = .parked) (hrehome : c.rehome = false) (hsweep : c.sweepAtProof = true) :
    (gaugesAtProving s).gauge g = if r.position = some c.calibration.maxPos then
      Gauge.takeTarget c.calibration.minPos { r with state := .sweeping, sweepBack := true }
    else Gauge.takeTarget c.calibration.maxPos { r with state := .sweeping, sweepBack := false } := by
  obtain ⟨v, -, hv, hvc, ht⟩ := gaugesAtProving_unwatched hc hr (.inl hclosed)
  rw [ht, proofOrder_sweeps (hv ▸ hstate) (hvc ▸ hrehome) (hvc ▸ hsweep), enterSweeping_gauge, hv, hvc]

/-- A gauge sent HOMING on an open coil stops in FAULT as its homing begins. -/
theorem proofOrder_open {v : State} (hsame : SameOrders s v) (hpowered : s.powered = true) (hawake : s.psc.state ≠ .sleep)
    (hopen : s.coilOpen.get g = true) (hhome : (v.gauge g).mustHome (v.gaugeConfig g)) :
    ((proofOrder g v).gauge g).coilFaulted := by
  obtain ⟨-, hcoil, hsupply, hpsc⟩ := hsame
  rw [proofOrder_homes hhome]
  exact enterHoming_open (hsupply.trans hpowered) (hpsc ▸ hawake) (hcoil ▸ hopen)

/-- A PARKED gauge with an open coil is found before its order, which finds it in FAULT (R60, log entry 19). -/
theorem gaugesAtProving_open_parked (hpowered : s.powered = true) (hawake : s.psc.state ≠ .sleep)
    (hopen : s.coilOpen.get g = true) (hparked : (s.gauge g).state = .parked) :
    ((gaugesAtProving s).gauge g).coilFaulted := by
  obtain ⟨u, v, ⟨-, hcoil, hsupply, hpsc⟩, hvsame, hu, hv, ht⟩ := gaugesAtProving_turns g s
  have hstate : (u.gauge g).state = .parked := by rw [hu, hparked]
  have hfaulted : (v.gauge g).coilFaulted := hv ▸ watchCoil_open (hsupply.trans hpowered) (hpsc ▸ hawake) (hcoil ▸ hopen)
    (by simp [hstate]) (by simp [hstate])
  rw [ht]
  cases hrehome : (v.gaugeConfig g).rehome
  · rwa [proofOrder_fault hfaulted.1 hrehome]
  · exact proofOrder_open hvsame hpowered hawake hopen (.inr ⟨by simp [hfaulted.1], hrehome⟩)

theorem gaugesAtProving_open (hpowered : s.powered = true) (hawake : s.psc.state ≠ .sleep) (hc : c = s.gaugeConfig g)
    (hr : r = { s.gauge g with updateDue := some (s.now + Config.updateInterval) }) (hopen : s.coilOpen.get g = true)
    (h : r.state ∈ [GaugeState.unhomed, .parked] ∨ (r.state = .fault ∧ c.rehome = true)) :
    ((gaugesAtProving s).gauge g).coilFaulted := by
  by_cases hparked : r.state = .parked
  · exact gaugesAtProving_open_parked hpowered hawake hopen (by simpa [hr] using hparked)
  · have hundriven : r.state = .unhomed ∨ (r.state = .fault ∧ c.rehome = true) := by simpa [hparked] using h
    obtain ⟨v, hsame, hv, hvc, ht⟩ := gaugesAtProving_unwatched hc hr (.inr (hundriven.imp id And.left))
    rw [ht]
    refine proofOrder_open hsame hpowered hawake hopen ?_
    rw [hv, hvc]
    exact hundriven.imp id fun hfault => ⟨by simp [hfault.1], hfault.2⟩

end

/-! ### Offers under the proof hold (R139, R140, R144) -/

/-- What offers leave as it was while the line is held: the hold, the timers of the line and of the Warning Evaluation Unit,
and, with no entry shown, that none is shown and what sounds. -/
structure HeldAlike (s t : State) : Prop where
  hold : t.anu.proofHold = s.anu.proofHold
  refresh : t.anu.refreshDue = s.anu.refreshDue
  quiet : s.anu.shown = none → t.anu.shown = none ∧ t.anu.sounder = s.anu.sounder
  timers : t.weu.evalDue = s.weu.evalDue ∧ t.weu.flash = s.weu.flash ∧ t.weu.lampDue = s.weu.lampDue

theorem HeldAlike.of_parts {s t : State} (hanu : t.anu = s.anu)
    (hweu : t.weu.evalDue = s.weu.evalDue ∧ t.weu.flash = s.weu.flash ∧ t.weu.lampDue = s.weu.lampDue) : HeldAlike s t :=
  ⟨by rw [hanu], by rw [hanu], fun h => by rw [hanu]; exact ⟨h, rfl⟩, hweu⟩

theorem HeldAlike.refl (s : State) : HeldAlike s s := .of_parts rfl ⟨rfl, rfl, rfl⟩

theorem HeldAlike.trans {a b c : State} (h : HeldAlike a b) (k : HeldAlike b c) : HeldAlike a c where
  hold := k.hold.trans h.hold
  refresh := k.refresh.trans h.refresh
  quiet hshown :=
    have hb := h.quiet hshown
    have hc := k.quiet hb.1
    ⟨hc.1, hc.2.trans hb.2⟩
  timers := ⟨k.timers.1.trans h.timers.1, k.timers.2.1.trans h.timers.2.1, k.timers.2.2.trans h.timers.2.2⟩

theorem setQueue_heldAlike (s : State) (q : List Entry) : HeldAlike s (s.setQueue q) :=
  ⟨rfl, rfl, fun h => ⟨h, rfl⟩, rfl, rfl, rfl⟩

theorem gainArrival_heldAlike (s : State) : HeldAlike s (gainArrival s) := by
  unfold gainArrival
  dsimp only
  split
  · exact ⟨rfl, rfl, fun h => ⟨h, rfl⟩, rfl, rfl, rfl⟩
  · exact ⟨rfl, rfl, fun h => ⟨by simp [renumber, h], rfl⟩, rfl, rfl, rfl⟩

/-- The notice of a dropped entry changes a mark alone (R142). -/
theorem endEntry_dropped_heldAlike (e : Entry) (s : State) : HeldAlike s (endEntry .dropped e s) := by
  have howner : (tellOwner .dropped e s).weu.evalDue = s.weu.evalDue ∧ (tellOwner .dropped e s).weu.flash = s.weu.flash ∧
      (tellOwner .dropped e s).weu.lampDue = s.weu.lampDue := by
    unfold tellOwner
    cases e.source <;> simp [warningEntryEnded]
  exact .of_parts (by simp) (by simpa [endEntry] using howner)

/-- A new entry joins the queue, and the held line is not decided. -/
theorem joinQueue_heldAlike (o : Offer) {s : State} (hhold : s.anu.proofHold = true) : HeldAlike s (joinQueue o s) := by
  have hjoined := (gainArrival_heldAlike s).trans (setQueue_heldAlike (gainArrival s)
    (enqueue ((gainArrival s).newEntry o) (gainArrival s).anu.queue))
  unfold joinQueue
  rwa [decideLine_held _ (by simp [Annunciation.held, hjoined.hold, hhold])]

theorem updateShown_heldAlike (o : Offer) (sh : Shown) {s : State} (hshown : s.anu.shown ≠ none) :
    HeldAlike s (updateShown o sh s) :=
  ⟨by simp [updateShown], by simp [updateShown], fun h => absurd h hshown, by simp, by simp, by simp⟩

theorem offerOnFull_heldAlike (o : Offer) {s : State} (hhold : s.anu.proofHold = true) : HeldAlike s (offerOnFull o s) := by
  unfold offerOnFull
  split
  · exact joinQueue_heldAlike o hhold
  · next low _ =>
    split
    · have hdropped := (setQueue_heldAlike s s.anu.queue.dropLast).trans (endEntry_dropped_heldAlike low _)
      exact hdropped.trans (joinQueue_heldAlike o (hdropped.hold.trans hhold))
    · exact (gainArrival_heldAlike s).trans (endEntry_dropped_heldAlike _ _)

theorem offer_heldAlike (o : Offer) {s : State} (hhold : s.anu.proofHold = true) : HeldAlike s (offer o s) := by
  unfold offer
  split
  · next sh hsh => exact updateShown_heldAlike o sh fun h => by simp [h] at hsh
  · split
    · exact setQueue_heldAlike s _
    · split
      · exact joinQueue_heldAlike o hhold
      · exact offerOnFull_heldAlike o hhold

/-! ### The warnings and tracks offered again (R97, R129) -/

theorem reofferWarning_offers {w : Fin 48} {s : State} {m : Fin 64} (hlatched : (s.warning w).state = .latched)
    (hclear : (s.warning w).acknowledged = false) (hmessage : (s.cfg.warnings.get w).message = some m) :
    reofferWarning w s =
      offer ⟨.warning w, (s.cfg.warnings.get w).cls.announced, m, (s.cfg.warnings.get w).chime, .normal⟩
        (s.setWarning w { s.warning w with mark := .normal }) := by
  simp [reofferWarning, hlatched, hclear, offerWarning, hmessage, State.setMark]

theorem reofferWarning_rests {w : Fin 48} {s : State} (h : (s.warning w).state ≠ .latched ∨
    (s.warning w).acknowledged = true ∨ (s.cfg.warnings.get w).message = none) : reofferWarning w s = s := by
  rcases h with h | h | h <;> simp [reofferWarning, offerWarning, h]

theorem reofferTrack_offers {i : Fin 2} {k : Track} {s : State} {o : Offer} (hproving : s.psc.state = .proving)
    (hcard : (s.slot i).card.isSome = true) (hstage : (s.track i k).stage ≠ .normal)
    (hclear : (s.track i k).acknowledged = false) (hmark : (s.track i k).offered = false)
    (hoffer : s.dutyOffer i k (s.track i k).stage = some o) :
    reofferTrack i k s = offer o (s.setTrack i k { s.track i k with offered := true }) := by
  simp [reofferTrack, hcard, hstage, hclear, hmark, offerTrack, hproving, hoffer]

theorem reofferTrack_rests {i : Fin 2} {k : Track} {s : State} (h : (s.slot i).card = none ∨ (s.track i k).stage = .normal ∨
    (s.track i k).acknowledged = true ∨ (s.track i k).offered = true ∨ s.dutyOffer i k (s.track i k).stage = none) :
    reofferTrack i k s = s := by
  rcases h with h | h | h | h | h <;> simp [reofferTrack, offerTrack, h]

theorem reofferWarning_heldAlike (w : Fin 48) {s : State} (hhold : s.anu.proofHold = true) :
    HeldAlike s (reofferWarning w s) := by
  have hmarked : HeldAlike s (s.setMark w .normal) := ⟨rfl, rfl, fun h => ⟨h, rfl⟩, rfl, rfl, rfl⟩
  unfold reofferWarning offerWarning
  dsimp only
  split
  · split
    · exact .refl s
    · exact hmarked.trans (offer_heldAlike _ hhold)
  · exact .refl s

theorem reofferTrack_heldAlike (i : Fin 2) (k : Track) {s : State} (hhold : s.anu.proofHold = true) :
    HeldAlike s (reofferTrack i k s) := by
  have hmarked : ∀ r, HeldAlike s (s.setTrack i k r) := fun r => .of_parts rfl ⟨rfl, rfl, rfl⟩
  unfold reofferTrack offerTrack
  dsimp only
  split
  · split
    · exact .refl s
    · split
      · exact .refl s
      · exact (hmarked _).trans (offer_heldAlike _ hhold)
  · exact .refl s

theorem reofferSlot_heldAlike (i : Fin 2) {s : State} (hhold : s.anu.proofHold = true) : HeldAlike s (reofferSlot i s) :=
  have hcontinuous := reofferTrack_heldAlike i .continuous hhold
  have hdaily := hcontinuous.trans (reofferTrack_heldAlike i .daily (hcontinuous.hold.trans hhold))
  hdaily.trans (reofferTrack_heldAlike i .weekly (hdaily.hold.trans hhold))

theorem forEach_heldAlike {n : Nat} (f : Fin n → State → State)
    (hf : ∀ i t, t.anu.proofHold = true → HeldAlike t (f i t)) {s : State} (hhold : s.anu.proofHold = true) :
    HeldAlike s (forEach f s) :=
  forEach_keeps (HeldAlike s) f (fun i t h => h.trans (hf i t (h.hold.trans hhold))) s (.refl s)

theorem reofferWarning_drives (w : Fin 48) (s : State) : SameDrives s (reofferWarning w s) := by
  unfold reofferWarning
  split
  · exact offerWarning_drives w _ _ s
  · exact .of_parts rfl rfl rfl

theorem reofferTrack_drives (i : Fin 2) (k : Track) (s : State) : SameDrives s (reofferTrack i k s) := by
  unfold reofferTrack offerTrack
  dsimp only
  split
  · split
    · exact .of_parts rfl rfl rfl
    · split
      · exact .of_parts rfl rfl rfl
      · exact SameDrives.trans (.of_parts (t := s.setTrack i k _) rfl rfl rfl) (offer_drives _ _)
  · exact .of_parts rfl rfl rfl

theorem reofferSlot_drives (i : Fin 2) (s : State) : SameDrives s (reofferSlot i s) :=
  (reofferTrack_drives i .continuous s).trans ((reofferTrack_drives i .daily _).trans (reofferTrack_drives i .weekly _))

theorem forEach_drives {n : Nat} (f : Fin n → State → State) (hf : ∀ i t, SameDrives t (f i t)) (s : State) :
    SameDrives s (forEach f s) :=
  forEach_keeps (SameDrives s) f (fun i t h => h.trans (hf i t)) s (.of_parts rfl rfl rfl)

/-- The offers of the entry to PROVING: the warnings, then the slots. -/
def provingOffers (s : State) : State := forEach reofferSlot (forEach reofferWarning s)

theorem provingOffers_link (s : State) : LinkGrows s (provingOffers s) :=
  (forEach_link reofferWarning reofferWarning_link s).trans (forEach_link reofferSlot reofferSlot_link _)

theorem provingOffers_drives (s : State) : SameDrives s (provingOffers s) :=
  (forEach_drives reofferWarning reofferWarning_drives s).trans (forEach_drives reofferSlot reofferSlot_drives _)

theorem provingOffers_heldAlike {s : State} (hhold : s.anu.proofHold = true) : HeldAlike s (provingOffers s) :=
  have hwarnings := forEach_heldAlike reofferWarning (fun w _ => reofferWarning_heldAlike w) hhold
  hwarnings.trans (forEach_heldAlike reofferSlot (fun i _ => reofferSlot_heldAlike i) (hwarnings.hold.trans hhold))

theorem provingOffers_frame (s : State) : (provingOffers s).now = s.now ∧ (provingOffers s).cfg = s.cfg ∧
    (provingOffers s).ssu = s.ssu ∧ (provingOffers s).gdu = s.gdu ∧ (provingOffers s).psc = s.psc := by
  simp [provingOffers]

/-! ### The entry to PROVING, stage by stage (R163) -/

/-- The power state and the proof timer with the POWER STATE record (R163, R172). -/
def provingPower (old : Nat) (cause : PowerCause) (s : State) : State :=
  handPowerState old cause (s.setPower .proving (.running (s.now + Config.sec s.cfg.power.proofTime)))

/-- The part when the gauges are given their orders. -/
def beforeOrders (old : Nat) (cause : PowerCause) (s : State) : State :=
  autostart (lineAtProving (provingPower old cause s))

/-- The timers of the Warning Evaluation Unit started and every lamp re-judged (R74, R100, R101). -/
def startEvaluation (s : State) : State :=
  judgeLamps (s.setWeu { s.weu with
    evalDue := some (s.now + Config.ms s.cfg.evalInterval)
    flash := some ⟨true, s.now + Config.flashHalf⟩
    lampDue := some (s.now + Config.lampInterval) })

/-- The part when the offers are made. -/
def beforeOffers (old : Nat) (cause : PowerCause) (s : State) : State :=
  startEvaluation (gaugesAtProving (beforeOrders old cause s))

/-- The Link Port's part, which ends the entry: the silence timer and the attention line (R177, R182). -/
def settleLink (s : State) : State := judgeAttention (restartSilence s)

theorem enterProving_stages (old : Nat) (cause : PowerCause) (s : State) :
    enterProving old cause s = settleLink (provingOffers (beforeOffers old cause s)) := by
  rw [settleLink, provingOffers, beforeOffers, startEvaluation, beforeOrders, provingPower]
  rfl

theorem settleLink_frame (s : State) : (settleLink s).now = s.now ∧ (settleLink s).cfg = s.cfg ∧
    (settleLink s).ssu = s.ssu ∧ (settleLink s).gdu = s.gdu ∧ (settleLink s).weu = s.weu ∧ (settleLink s).dtu = s.dtu ∧
    (settleLink s).anu = s.anu ∧ (settleLink s).psc = s.psc := by
  simp [settleLink]

theorem settleLink_queue (s : State) : (settleLink s).lp.queue = s.lp.queue := by
  simp [settleLink, judgeAttention]

theorem settleLink_attention (s : State) : (settleLink s).lp.attention = (settleLink s).wantsAttention := rfl

theorem settleLink_silence (s : State) (h : s.psc.state = .proving) : (settleLink s).lp.silenceDue =
    if s.cfg.link.silence ≠ 0 ∧ s.lp.lostSince = none then some (s.now + s.cfg.link.silence * 1000)
    else s.lp.silenceDue := by
  simp only [settleLink, judgeAttention, restartSilence, State.linkLost, h, Config.ms]
  split <;> simp_all

theorem startEvaluation_frame (s : State) : (startEvaluation s).now = s.now ∧ (startEvaluation s).cfg = s.cfg ∧
    (startEvaluation s).lp = s.lp ∧ (startEvaluation s).ssu = s.ssu ∧ (startEvaluation s).gdu = s.gdu ∧
    (startEvaluation s).dtu = s.dtu ∧ (startEvaluation s).anu = s.anu ∧ (startEvaluation s).psc = s.psc ∧
    (startEvaluation s).weu.warnings = s.weu.warnings := by
  simp [startEvaluation, judgeLamps]

theorem startEvaluation_timers (s : State) :
    (startEvaluation s).weu.evalDue = some (s.now + s.cfg.evalInterval * 1000) ∧
    (startEvaluation s).weu.flash = some ⟨true, s.now + 500000⟩ ∧
    (startEvaluation s).weu.lampDue = some (s.now + 200000) :=
  ⟨rfl, rfl, rfl⟩

/-- The proof hold, the proof tone and the line refresh (R156); the proof tone sounds over a shown entry too. -/
theorem lineAtProving_anu (s : State) : (lineAtProving s).anu.proofHold = true ∧
    (lineAtProving s).anu.refreshDue = some (s.now + 1000000) ∧ (lineAtProving s).anu.queue = s.anu.queue ∧
    (lineAtProving s).anu.shown = s.anu.shown ∧ (lineAtProving s).anu.sounder = .oneShot .proofTone (s.now + 200000) := by
  simp [lineAtProving, State.setSounder, OneShot.length, Config.ms, Config.sec, Config.refreshInterval]

theorem autostart_runs (s : State) (hauto : s.cfg.scan.autostart = true) (hlist : s.cfg.scan.list ≠ [])
    (hstopped : s.ssu.mode = .stopped) : (autostart s).ssu.mode = .continuous := by
  simp [autostart, hauto, hlist, hstopped, startContinuous]

theorem autostart_rests (s : State)
    (h : s.cfg.scan.autostart = false ∨ s.cfg.scan.list = [] ∨ s.ssu.mode ≠ .stopped) : autostart s = s := by
  rcases h with h | h | h <;> simp [autostart, h]

section
variable (old : Nat) (cause : PowerCause) (s : State)

theorem beforeOrders_frame : (beforeOrders old cause s).now = s.now ∧ (beforeOrders old cause s).powered = s.powered ∧
    (beforeOrders old cause s).coilOpen = s.coilOpen ∧ (beforeOrders old cause s).cfg = s.cfg ∧
    (beforeOrders old cause s).lp = (provingPower old cause s).lp ∧ (beforeOrders old cause s).gdu = s.gdu ∧
    (beforeOrders old cause s).weu = s.weu ∧ (beforeOrders old cause s).dtu = s.dtu ∧
    (beforeOrders old cause s).psc.state = .proving := by
  simp [beforeOrders, provingPower, State.setPower]

theorem beforeOrders_anu : (beforeOrders old cause s).anu = (lineAtProving (provingPower old cause s)).anu := by
  simp [beforeOrders]

/-! ### What the whole entry makes of each block -/

theorem beforeOffers_frame : (beforeOffers old cause s).now = s.now ∧ (beforeOffers old cause s).cfg = s.cfg ∧
    (beforeOffers old cause s).ssu = (beforeOrders old cause s).ssu ∧
    (beforeOffers old cause s).gdu = (gaugesAtProving (beforeOrders old cause s)).gdu ∧
    (beforeOffers old cause s).dtu = s.dtu ∧ (beforeOffers old cause s).anu = (beforeOrders old cause s).anu ∧
    (beforeOffers old cause s).psc = (beforeOrders old cause s).psc ∧
    (beforeOffers old cause s).weu.warnings = s.weu.warnings := by
  simp [beforeOffers, startEvaluation_frame, beforeOrders_frame]

/-- The announcement unit when the offers are made (R156). -/
theorem beforeOffers_anu : (beforeOffers old cause s).anu.proofHold = true ∧
    (beforeOffers old cause s).anu.refreshDue = some (s.now + 1000000) ∧
    (beforeOffers old cause s).anu.queue = s.anu.queue ∧ (beforeOffers old cause s).anu.shown = s.anu.shown ∧
    (beforeOffers old cause s).anu.sounder = .oneShot .proofTone (s.now + 200000) := by
  simpa [beforeOffers_frame, beforeOrders_anu, provingPower] using lineAtProving_anu (provingPower old cause s)

theorem beforeOffers_timers : (beforeOffers old cause s).weu.evalDue = some (s.now + s.cfg.evalInterval * 1000) ∧
    (beforeOffers old cause s).weu.flash = some ⟨true, s.now + 500000⟩ ∧
    (beforeOffers old cause s).weu.lampDue = some (s.now + 200000) := by
  simpa [beforeOffers, beforeOrders_frame] using startEvaluation_timers (gaugesAtProving (beforeOrders old cause s))

theorem beforeOffers_link : LinkGrows (provingPower old cause s) (beforeOffers old cause s) :=
  (LinkGrows.of_lp (t := beforeOrders old cause s) (by simp [beforeOrders])).trans
    ((gaugesAtProving_link _).trans (.of_lp (startEvaluation_frame _).2.2.1))

theorem enterProving_anu : (enterProving old cause s).anu.proofHold = true ∧
    (enterProving old cause s).anu.refreshDue = some (s.now + 1000000) ∧
    (s.anu.shown = none → (enterProving old cause s).anu.shown = none ∧
      (enterProving old cause s).anu.sounder = .oneShot .proofTone (s.now + 200000)) := by
  obtain ⟨hhold, hrefresh, -, hshown, hsounder⟩ := beforeOffers_anu old cause s
  have hoffers := provingOffers_heldAlike hhold
  simp only [enterProving_stages, settleLink_frame]
  refine ⟨hoffers.hold.trans hhold, hoffers.refresh.trans hrefresh, fun hnone => ?_⟩
  obtain ⟨hquiet, hsame⟩ := hoffers.quiet (hshown.trans hnone)
  exact ⟨hquiet, hsame.trans hsounder⟩

theorem enterProving_timers : (enterProving old cause s).weu.evalDue = some (s.now + s.cfg.evalInterval * 1000) ∧
    (enterProving old cause s).weu.flash = some ⟨true, s.now + 500000⟩ ∧
    (enterProving old cause s).weu.lampDue = some (s.now + 200000) := by
  simpa only [enterProving_stages, settleLink_frame, (provingOffers_heldAlike (beforeOffers_anu old cause s).1).timers]
    using beforeOffers_timers old cause s

theorem enterProving_ssu : (enterProving old cause s).ssu = (beforeOrders old cause s).ssu := by
  simp only [enterProving_stages, settleLink_frame, provingOffers_frame, beforeOffers_frame]

theorem enterProving_scanStarts (hauto : s.cfg.scan.autostart = true) (hlist : s.cfg.scan.list ≠ [])
    (hstopped : s.ssu.mode = .stopped) : (enterProving old cause s).ssu.mode = .continuous := by
  rw [enterProving_ssu]
  exact autostart_runs _ (by simpa [provingPower] using hauto) (by simpa [provingPower] using hlist)
    (by simpa [provingPower] using hstopped)

theorem enterProving_scanRests (h : s.cfg.scan.autostart = false ∨ s.cfg.scan.list = [] ∨ s.ssu.mode ≠ .stopped) :
    (enterProving old cause s).ssu = s.ssu := by
  rw [enterProving_ssu, beforeOrders, autostart_rests _ (by simpa [provingPower] using h)]
  simp [provingPower]

theorem enterProving_gauge (g : Fin 6) :
    (enterProving old cause s).gauge g = (gaugesAtProving (beforeOrders old cause s)).gauge g :=
  State.gauge_of _ _ (by simp only [enterProving_stages, settleLink_frame, provingOffers_frame, beforeOffers_frame]) g

theorem enterProving_updateDue (g : Fin 6) : ((enterProving old cause s).gauge g).updateDue = some (s.now + 20000) := by
  rw [enterProving_gauge, gaugesAtProving_updateDue, (beforeOrders_frame old cause s).1]
  rfl

/-- Every lamp has the drive of R100, which is STEADY for a proved one (R101). -/
theorem enterProving_proved (l : Fin 32) (hproved : (s.cfg.lamps.get l).proved = true) :
    ((enterProving old cause s).lamp l).drive = .steady := by
  have hkept : (provingOffers (beforeOffers old cause s)).lampsKept :=
    (provingOffers_drives _).kept (judgeLamps_kept _)
  rw [enterProving_stages, State.lamp_of _ _ (settleLink_frame _).2.2.2.2.1, hkept l]
  simp [State.driveOf, provingOffers_frame, beforeOffers_frame, beforeOrders_frame, hproved]

theorem enterProving_grows : LinkGrows (provingPower old cause s) (provingOffers (beforeOffers old cause s)) :=
  (beforeOffers_link old cause s).trans (provingOffers_link _)

theorem enterProving_silence : (enterProving old cause s).lp.silenceDue =
    if s.cfg.link.silence ≠ 0 ∧ s.lp.lostSince = none then some (s.now + s.cfg.link.silence * 1000)
    else s.lp.silenceDue := by
  obtain ⟨-, -, -, -, hlost, hsilence⟩ := enterProving_grows old cause s
  rw [enterProving_stages, settleLink_silence, hlost, hsilence]
  · simp [provingOffers_frame, beforeOffers_frame, provingPower, handPowerState]
  · simp [provingOffers_frame, beforeOffers_frame, beforeOrders_frame]

theorem enterProving_attention : (enterProving old cause s).lp.attention = (enterProving old cause s).wantsAttention := by
  rw [enterProving_stages]
  exact settleLink_attention _

end

/-- The order of R60 to one gauge, as the entry to PROVING makes it. -/
theorem enterProving_order (old : Nat) (cause : PowerCause) (s : State) (g : Fin 6) (r : Gauge) (c : GaugeSettings)
    (hpowered : s.powered = true) (hc : c = s.gaugeConfig g)
    (hr : r = { s.gauge g with updateDue := some (s.now + 20000) }) :
    (r.state = .fault → c.rehome = false → (enterProving old cause s).gauge g = r) ∧
    (s.coilOpen.get g = false →
      (r.mustHome c → (enterProving old cause s).gauge g = r.homes c) ∧
      (r.state = .parked → c.rehome = false →
        (c.sweepAtProof = false → (enterProving old cause s).gauge g = r.track) ∧
        (c.sweepAtProof = true →
          (r.position = some c.calibration.maxPos → (enterProving old cause s).gauge g =
            Gauge.takeTarget c.calibration.minPos { r with state := .sweeping, sweepBack := true }) ∧
          (r.position ≠ some c.calibration.maxPos → (enterProving old cause s).gauge g =
            Gauge.takeTarget c.calibration.maxPos { r with state := .sweeping, sweepBack := false })))) ∧
    (s.coilOpen.get g = true → r.state ∈ [GaugeState.unhomed, .parked] ∨ (r.state = .fault ∧ c.rehome = true) →
      ((enterProving old cause s).gauge g).coilFaulted) := by
  obtain ⟨hnow, hsupply, hcoil, hcfg, -, hgdu, -, -, hproving⟩ := beforeOrders_frame old cause s
  rw [enterProving_gauge]
  obtain ⟨u, hu⟩ : ∃ u, u = beforeOrders old cause s := ⟨_, rfl⟩
  rw [← hu] at hnow hsupply hcoil hcfg hgdu hproving ⊢
  rw [← hcoil]
  have huc : c = u.gaugeConfig g := by rw [hc, State.gaugeConfig, State.gaugeConfig, hcfg]
  have hur : r = { u.gauge g with updateDue := some (u.now + Config.updateInterval) } := by
    rw [hr, hnow, State.gauge_of s u hgdu]
    rfl
  refine ⟨gaugesAtProving_fault huc hur, fun hclosed => ⟨gaugesAtProving_homes huc hur hclosed, fun hparked hrehome =>
    ⟨gaugesAtProving_tracks huc hur hclosed hparked hrehome, fun hsweep => ⟨fun hmax => ?_, fun hmax => ?_⟩⟩⟩,
    gaugesAtProving_open (hsupply.trans hpowered) (by simp [hproving]) huc hur⟩
  · rw [gaugesAtProving_sweeps huc hur hclosed hparked hrehome hsweep, if_pos hmax]
  · rw [gaugesAtProving_sweeps huc hur hclosed hparked hrehome hsweep, if_neg hmax]

/-- Settles O18, block by block: the offers are made under the proof hold, which keeps what the blocks before them made. -/
theorem entryToProvingOrdersEveryBlock : Obligations.EntryToProvingOrdersEveryBlock := by
  rintro old cause s t rfl
  obtain ⟨hhold, hrefresh, hquiet⟩ := enterProving_anu old cause s
  obtain ⟨heval, hflash, hlamp⟩ := enterProving_timers old cause s
  refine ⟨enterProving_psc old cause s, hhold, hrefresh, hquiet, enterProving_scanStarts old cause s,
    enterProving_scanRests old cause s, enterProving_updateDue old cause s, heval, hflash, hlamp,
    enterProving_proved old cause s, ?_, ?_, enterProving_order old cause s, ⟨beforeOffers old cause s, ?_⟩,
    fun w v => ⟨fun m => reofferWarning_offers, reofferWarning_rests⟩,
    fun i v => ⟨rfl, fun k hproving => ⟨fun o => reofferTrack_offers hproving, reofferTrack_rests⟩⟩,
    enterProving_silence old cause s, enterProving_attention old cause s⟩
  · simp [State.sameBut_parts]
  · rw [enterProving_stages, settleLink_queue]
    exact (enterProving_grows old cause s).1
  · obtain ⟨hbefore, -, hqueue, hshown, -⟩ := beforeOffers_anu old cause s
    obtain ⟨-, hcfg, -, -, hdtu, -, -, hwarnings⟩ := beforeOffers_frame old cause s
    refine ⟨hcfg, ?_, hwarnings, hdtu, hqueue, hshown, hbefore, enterProving_stages old cause s⟩
    simp only [enterProving_stages, settleLink_frame, provingOffers_frame]

end Sys2Proof.Machine
end

section
/-! PROOFS. O30: a value mapped through the breakpoints (R39). The breakpoints before the value's segment are passed over, and
where two segments meet they give the same position. -/
namespace Sys2Proof.Machine

theorem strictlyIncreasing_iff_pairwise (l : List Int) : strictlyIncreasing l = true ↔ l.Pairwise (· < ·) := by
  rw [← List.isChain_iff_pairwise]
  induction l with
  | nil => simp [strictlyIncreasing]
  | cons x l ih =>
    cases l with
    | nil => simp [strictlyIncreasing]
    | cons y l => simp [strictlyIncreasing, ih]

/-! ### The ends and the turns of a segment -/

theorem interpolate_start (lo hi : Int × Nat) : interpolate lo hi lo.1 = lo.2 := by simp [interpolate]

theorem interpolate_end {lo hi : Int × Nat} (h : lo.1 < hi.1) : interpolate lo hi hi.1 = hi.2 := by
  rw [interpolate, Int.mul_tdiv_cancel _ (by omega)]
  omega

theorem mapThrough_first {v : Int} {p : Int × Nat} (points : List (Int × Nat)) (h : v ≤ p.1) :
    mapThrough v (p :: points) = p.2 := by
  cases points <;> simp [mapThrough, h]

theorem mapThrough_past {v : Int} {p q : Int × Nat} (points : List (Int × Nat)) (hpq : p.1 < q.1) (h : q.1 ≤ v) :
    mapThrough v (p :: q :: points) = mapThrough v (q :: points) := by
  have hp : ¬v ≤ p.1 := by omega
  simp [mapThrough, hp, Int.not_lt.mpr h]

theorem mapThrough_segment {v : Int} {p q : Int × Nat} (points : List (Int × Nat)) (hpq : p.1 < q.1) (hp : p.1 ≤ v)
    (hq : v ≤ q.1) : mapThrough v (p :: q :: points) = interpolate p q v := by
  by_cases hstart : v = p.1
  · subst hstart
    rw [mapThrough_first _ le_rfl, interpolate_start]
  · by_cases hend : v = q.1
    · subst hend
      rw [mapThrough_past _ hpq le_rfl, mapThrough_first _ le_rfl, interpolate_end hpq]
    · have hlow : ¬v ≤ p.1 := by omega
      have hhigh : v < q.1 := by omega
      simp [mapThrough, hlow, hhigh]

/-! ### The segment that a value lies in -/

theorem mapThrough_last {v : Int} {p : Int × Nat} (points : List (Int × Nat))
    (hsorted : (points.map Prod.fst).Pairwise (· < ·)) (hlast : points.getLast? = some p) (hv : p.1 ≤ v) :
    mapThrough v points = p.2 := by
  induction points with
  | nil => simp at hlast
  | cons a points ih =>
    cases points with
    | nil =>
      obtain rfl : a = p := by simpa using hlast
      rfl
    | cons b points =>
      obtain ⟨hab, hrest⟩ := List.pairwise_cons.mp hsorted
      have hlast' : (b :: points).getLast? = some p := by simpa using hlast
      have hbp : b.1 ≤ p.1 := by
        rcases List.mem_cons.mp (List.mem_of_getLast? hlast') with rfl | hp
        · exact le_rfl
        · exact le_of_lt ((List.pairwise_cons.mp hrest).1 _ (List.mem_map_of_mem hp))
      rw [mapThrough_past _ (hab _ (by simp)) (hbp.trans hv)]
      exact ih hrest hlast'

theorem mapThrough_between {v : Int} {lo hi : Int × Nat} (points : List (Int × Nat))
    (hsorted : (points.map Prod.fst).Pairwise (· < ·)) (i : Nat) (hlo : points[i]? = some lo)
    (hhi : points[i + 1]? = some hi) (hv : lo.1 ≤ v) (hv' : v ≤ hi.1) : mapThrough v points = interpolate lo hi v := by
  induction points generalizing i with
  | nil => simp at hlo
  | cons a points ih =>
    obtain ⟨ha, hrest⟩ := List.pairwise_cons.mp hsorted
    cases points with
    | nil => simp at hhi
    | cons b points =>
      cases i with
      | zero =>
        obtain ⟨rfl, rfl⟩ : a = lo ∧ b = hi := by simpa using And.intro hlo hhi
        exact mapThrough_segment _ (ha _ (by simp)) hv hv'
      | succ i =>
        have hlo' : (b :: points)[i]? = some lo := by simpa using hlo
        have hblo : b.1 ≤ lo.1 := by
          rcases List.mem_cons.mp (List.mem_of_getElem? hlo') with rfl | hmem
          · exact le_rfl
          · exact le_of_lt ((List.pairwise_cons.mp hrest).1 _ (List.mem_map_of_mem hmem))
        rw [mapThrough_past _ (ha _ (by simp)) (hblo.trans hv)]
        exact ih hrest i hlo' (by simpa using hhi)

/-! ### The position, held within the range -/

theorem Calibration.map_eq (c : Calibration) (v : Int) :
    (c.map v : Int) = max (c.minPos : Int) (min (c.maxPos : Int) (mapThrough v c.breakpoints)) := by
  unfold Calibration.map
  omega

theorem Calibration.map_of_position {c : Calibration} {v : Int} {n : Nat} (h : mapThrough v c.breakpoints = n) :
    c.map v = max c.minPos (min c.maxPos n) := by
  have := c.map_eq v
  omega

/-- Settles O30: the clamp gives the bounds, and `mapThrough` the position at each end and in each segment. -/
theorem mappedPositionFollowsTheBreakpoints : Obligations.MappedPositionFollowsTheBreakpoints := by
  intro c v _ hincreasing hrange
  have hsorted := (strictlyIncreasing_iff_pairwise _).mp hincreasing
  have hmap := c.map_eq v
  refine ⟨by omega, by omega, fun p hfirst hv => Calibration.map_of_position ?_,
    fun p hlast hv => Calibration.map_of_position (mapThrough_last _ hsorted hlast hv),
    fun i lo hi hlo hhi hv hv' => ?_⟩
  · obtain ⟨points, hpoints⟩ := List.head?_eq_some_iff.mp hfirst
    rw [hpoints, mapThrough_first _ hv]
  · rw [hmap, mapThrough_between _ hsorted i hlo hhi hv hv', interpolate]

end Sys2Proof.Machine
end

section
/-! PROOFS. O31: moves (R42 to R45). What a new target makes of a gauge, by its move and its stopping distance. -/
namespace Sys2Proof.Machine

/-! ### The stopping distance (R43) -/

theorem stoppingDistance_pos (accel speedSq : Nat) : 1 ≤ stoppingDistance accel speedSq := by
  unfold stoppingDistance
  split
  · exact le_rfl
  · exact Nat.le_add_left 1 _

/-- A needle stops in a distance exactly when the speed at its start allows it; the stopping distance is the least such
one. -/
theorem stoppingDistance_le_iff {accel speedSq n : Nat} (haccel : 0 < accel) (hn : 1 ≤ n) :
    stoppingDistance accel speedSq ≤ n ↔ speedSq ≤ 2500 + 2 * accel * (n - 1) := by
  obtain ⟨k, rfl⟩ : ∃ k, n = k + 1 := ⟨n - 1, by omega⟩
  unfold stoppingDistance
  rw [Nat.add_sub_cancel]
  split
  · next hstart => exact iff_of_true hn (hstart.trans (Nat.le_add_right _ _))
  · obtain ⟨d, hd⟩ : ∃ d, d = 2 * accel := ⟨_, rfl⟩
    rw [← hd, Nat.add_le_add_iff_right, ← Nat.lt_add_one_iff, Nat.div_lt_iff_lt_mul (by omega), Nat.add_one_mul,
      Nat.mul_comm k]
    omega

/-! ### A new target (R44) -/

section
variable {r : Gauge} {p t : Nat} {m : Move}

theorem takeTarget_unknown (h : r.position = none) : r.takeTarget t = r := by simp [Gauge.takeTarget, h]

theorem takeTarget_reached (hp : r.position = some p) (hm : r.move = none) : r.takeTarget p = r := by
  simp [Gauge.takeTarget, hp, hm]

theorem takeTarget_starts (hp : r.position = some p) (hm : r.move = none) (ht : t ≠ p) :
    r.takeTarget t = { r with move := some ⟨t, 2500⟩ } := by
  simp [Gauge.takeTarget, hp, hm, ht, startSpeedSq]

/-- The target lies ahead of the needle, at the stopping distance or further. -/
def Gauge.canReach (r : Gauge) (p : Nat) (m : Move) (t : Nat) : Prop :=
  (p < m.target ∧ p + stoppingDistance r.profile.accel m.speedSq ≤ t) ∨
    (m.target < p ∧ t + stoppingDistance r.profile.accel m.speedSq ≤ p)

theorem canReach_iff (hne : m.target ≠ p) : r.canReach p m t ↔
    ahead p m.target t = true ∧ stoppingDistance r.profile.accel m.speedSq ≤ distance p t := by
  have hpos := stoppingDistance_pos r.profile.accel m.speedSq
  unfold Gauge.canReach ahead distance
  by_cases h : p < m.target
  · simp only [h, if_true, decide_eq_true_eq, true_and, Nat.not_lt.mpr h.le, false_and, or_false]
    split <;> omega
  · have hdown : m.target < p := by omega
    simp only [h, if_false, decide_eq_true_eq, false_and, hdown, true_and, false_or]
    split <;> omega

theorem takeTarget_continues (hp : r.position = some p) (hm : r.move = some m) (hne : m.target ≠ p)
    (h : r.canReach p m t) : r.takeTarget t = { r with move := some ⟨t, m.speedSq⟩, following := none } := by
  simp [Gauge.takeTarget, hp, hm, (canReach_iff hne).mp h]

theorem takeTarget_reverses (hp : r.position = some p) (hm : r.move = some m) (hne : m.target ≠ p)
    (h : ¬r.canReach p m t) : r.takeTarget t =
      { r with move := some ⟨toward p m.target (stoppingDistance r.profile.accel m.speedSq), m.speedSq⟩, following := some t } := by
  rw [canReach_iff hne] at h
  simp only [Gauge.takeTarget, hp, hm, if_neg h, Gauge.stopPoint]

end

/-- Settles O31: the three cases of a new target, and the stopping distance from `stoppingDistance_le_iff`. -/
theorem newTargetStartsContinuesOrReverses : Obligations.NewTargetStartsContinuesOrReverses := by
  refine ⟨fun r p t hp => ⟨fun hm ht => ?_, fun hm ht => takeTarget_starts hp hm ht, fun m n hm hne hn => ?_⟩,
    fun accel speedSq haccel => ?_⟩
  · rw [ht, takeTarget_reached hp hm]
  · subst hn
    exact ⟨takeTarget_continues hp hm hne, takeTarget_reverses hp hm hne⟩
  · have hpos := stoppingDistance_pos accel speedSq
    exact ⟨hpos, (stoppingDistance_le_iff haccel hpos).mp le_rfl, fun n hn => (stoppingDistance_le_iff haccel hn).mpr⟩

end Sys2Proof.Machine
end

section
/-! PROOFS. O32: CONFIGURE GAUGE (R45, R63, R64). What it makes of the damping depth, the profile and the history, and then the
request. -/
namespace Sys2Proof.Machine

/-! ### The damping depth (R63) -/

theorem storedDamping_eq (depth : Nat) : storedDamping depth = if depth ∈ [1, 2, 4, 8] then depth else 1 := by
  simp [storedDamping]

theorem storedDamping_same (depth : Nat) : storedDamping depth = depth ↔ depth ∈ [1, 2, 4, 8] := by
  rw [storedDamping_eq]
  split
  · next h => exact iff_of_true rfl h
  · next h => exact iff_of_false (fun he => h (by simp [← he])) h

/-- A coerced depth is named in the reply (R176). -/
theorem configuredGauge_eq (c : GaugeSettings) (after : State) : configuredGauge c after =
    ⟨after, if c.damping ∈ [1, 2, 4, 8] then .ok else .coerced, if c.damping ∈ [1, 2, 4, 8] then [] else [1#8]⟩ := by
  by_cases h : c.damping ∈ [1, 2, 4, 8]
  · rw [configuredGauge, if_pos ((storedDamping_same _).mpr h), if_pos h, if_pos h, Answer.ok]
  · rw [configuredGauge, if_neg (mt (storedDamping_same _).mp h), if_neg h, if_neg h, storedDamping_eq, if_neg h]
    rfl

/-! ### The profile and the history (R45, R64) -/

/-- A profile is in force at once, or staged while the needle moves (R45). -/
theorem giveProfile_cases (p : Profile) (r : Gauge) : ∃ profile staged,
    r.giveProfile p = { r with profile := profile, staged := staged } ∧
    (p = r.profile → profile = r.profile ∧ staged = none) ∧
    (p ≠ r.profile →
      ((r.move = none ∧ r.homing = none) ∨ r.state ∈ [GaugeState.unhomed, .fault] → profile = p ∧ staged = none) ∧
      (¬((r.move = none ∧ r.homing = none) ∨ r.state ∈ [GaugeState.unhomed, .fault]) →
        profile = r.profile ∧ staged = some p)) := by
  have hrest : (r.atRest = true ∨ r.state = .unhomed ∨ r.state = .fault) ↔
      (r.move = none ∧ r.homing = none) ∨ r.state ∈ [GaugeState.unhomed, .fault] := by simp [Gauge.atRest]
  unfold Gauge.giveProfile
  simp only [hrest]
  split
  · next hp => exact ⟨r.profile, none, rfl, fun _ => ⟨rfl, rfl⟩, fun hne => absurd hp hne⟩
  · next hp =>
    split
    · next hforce => exact ⟨p, none, rfl, fun he => absurd he hp, fun _ => ⟨fun _ => ⟨rfl, rfl⟩, fun h => absurd hforce h⟩⟩
    · next hstage =>
      exact ⟨r.profile, some p, rfl, fun he => absurd he hp, fun _ => ⟨fun h => absurd h hstage, fun _ => ⟨rfl, rfl⟩⟩⟩

theorem rehistory_eq (old new : GaugeSettings) (r : Gauge) : r.rehistory old new = { r with
    history := if old.source = new.source ∧ old.calibration = new.calibration ∧ old.damping = new.damping then r.history
      else [] } := by
  unfold Gauge.rehistory
  split <;> rfl

theorem configureGauge_cfg (g : Fin 6) (c : GaugeSettings) (s : State) : (configureGauge g c s).cfg =
    { s.cfg with gauges := s.cfg.gauges.set g { c with damping := storedDamping c.damping } } := by
  simp [configureGauge]

theorem configureGauge_gauge (g x : Fin 6) (c : GaugeSettings) (s : State) : (configureGauge g c s).gauge x =
    if x = g then ((s.gauge g).rehistory (s.gaugeConfig g) { c with damping := storedDamping c.damping }).giveProfile c.profile
    else s.gauge x := by
  simp [configureGauge]

/-! ### The request -/

theorem readGaugeSettings_noGauge {b : List Byte} (h : 6 ≤ byteAt b 0) : readGaugeSettings b = none := by
  rw [readGaugeSettings, readIndex_out h]
  rfl

@[simp] theorem goodFrame_gaugeChecks (g : Fin 6) (c : GaugeSettings) (s : State) :
    (goodFrame s).calibrationLocked g c = s.calibrationLocked g c ∧ (goodFrame s).rangeForbidden g c = s.rangeForbidden g c := by
  simp [State.calibrationLocked, State.rangeForbidden]

/-- What CONFIGURE GAUGE answers once its fields are read (R63). -/
theorem configureGauge_run {body : List Byte} {g : Fin 6} {c : GaugeSettings} (s : State) (hs : s.saving = false)
    (hread : readGaugeSettings body = some (g, c)) : configureGaugeRequest.run body (goodFrame s) =
      if s.calibrationLocked g c then Answer.refuse (goodFrame s) .locked
      else if s.rangeForbidden g c then Answer.refuse (goodFrame s) .state
      else configuredGauge c (configureGauge g c (goodFrame s)) :=
  (configuring_accepts _ _ (goodFrame s) (g, c) (by simpa using hs) hread).trans (by simp)

/-- Settles O32: the request checks in the order of R63, and then replaces the configuration and gives the profile. -/
theorem configureGaugeTakesEffectByField : Obligations.ConfigureGaugeTakesEffectByField := by
  refine ⟨fun tag body s hconf hfits h => ?_, fun tag body s g c hconf hfits hread => ?_⟩
  · have hread : readGaugeSettings body = none := h.elim id readGaugeSettings_noGauge
    exact configureGaugeRequest.take_awake tag body s hconf.1 hfits
      (configuring_range _ _ _ (by simpa using hconf.2) hread)
  have hrun := configureGauge_run s hconf.2 hread
  refine ⟨fun hlock hchanged => ?_, fun hunlocked hforbidden => ?_, fun hunlocked hallowed => ?_⟩
  · refine configureGaugeRequest.take_awake tag body s hconf.1 hfits (hrun.trans ?_)
    have hlocked : s.calibrationLocked g c = true := by simp [State.calibrationLocked, State.gaugeConfig, hlock, hchanged]
    rw [if_pos hlocked, Answer.refuse]
  · refine configureGaugeRequest.take_awake tag body s hconf.1 hfits (hrun.trans ?_)
    simp [hunlocked, hforbidden, Answer.refuse]
  · refine ⟨_, _, _, rfl, rfl, rfl, answers_awake _ configureGaugeRequest tag body s hconf.1 rfl hfits
      (t := configureGauge g c (goodFrame s)) ?_ (by split <;> simp) ?_⟩
    · rw [hrun, configuredGauge_eq]
      simp [hunlocked, hallowed]
    · obtain ⟨profile, staged, hgive, hsame, hother⟩ := giveProfile_cases c.profile
        ((s.gauge g).rehistory (s.gaugeConfig g) { c with damping := storedDamping c.damping })
      simp only [rehistory_eq] at hgive hsame hother
      refine ⟨by simp [configureGauge_cfg, storedDamping_eq], (State.sameBut_parts _ _ _).mpr (by simp),
        fun x hx => by simp [configureGauge_gauge, hx], profile, staged, _, ?_, hsame, hother, rfl⟩
      simpa [configureGauge_gauge, rehistory_eq, storedDamping_eq, State.gaugeConfig] using hgive

end Sys2Proof.Machine
end

section
/-! PROOFS. Gauges: one record replaced, the changes of power state that a change of one gauge makes due, what such a change
leaves of a gauge, and the record that a change of a gauge hands on first. -/
namespace Sys2Proof.Machine

/-! ### One record replaced -/

theorem Table.set_set {n : Nat} {α : Type} (t : Table n α) (i : Fin n) (x y : α) : (t.set i x).set i y = t.set i y := by
  simp [Table.set]

theorem Table.set_get {n : Nat} {α : Type} (t : Table n α) (i : Fin n) : t.set i (t.get i) = t := by
  cases t
  simp [Table.set, Table.get]

@[simp] theorem State.setGauge_setGauge (s : State) (g : Fin 6) (a b : Gauge) :
    (s.setGauge g a).setGauge g b = s.setGauge g b :=
  congrArg s.setGdu (Table.set_set s.gdu g a b)

@[simp] theorem State.setGauge_self (s : State) (g : Fin 6) : s.setGauge g (s.gauge g) = s :=
  congrArg s.setGdu (Table.set_get s.gdu g)

/-- The profile in force after a staged one is put in force, if one is held (R45). -/
theorem putStaged_eq (r : Gauge) : r.putStaged = { r with profile := r.staged.getD r.profile, staged := none } := by
  rcases r with ⟨_, _, _, _, _, _, staged, _⟩
  cases staged <;> rfl

/-- A gauge in one of some states is in none of some others. -/
theorem GaugeState.not_mem_of_mem {x : GaugeState} {l k : List GaugeState} (hx : x ∈ l) (h : ∀ y ∈ l, y ∉ k) : x ∉ k :=
  h x hx

/-- A new target leaves what is no part of the move. -/
@[simp] theorem takeTarget_leaves (t : Nat) (r : Gauge) :
    (r.takeTarget t).faultDetail = r.faultDetail ∧ (r.takeTarget t).profile = r.profile ∧
    (r.takeTarget t).staged = r.staged ∧ (r.takeTarget t).restTaken = r.restTaken ∧
    (r.takeTarget t).sweepBack = r.sweepBack := by
  unfold Gauge.takeTarget
  (repeat' split) <;> simp

/-- A gauge that does not rest at a target does not rest there when it takes that target. -/
theorem takeTarget_unfinished {r : Gauge} {t : Nat} (h : r.position ≠ some t ∨ r.move ≠ none) :
    ¬((r.takeTarget t).move = none ∧ (r.takeTarget t).position = some t) := by
  rintro ⟨hmove, hposition⟩
  rw [(takeTarget_keeps t r).2.2.2.1] at hposition
  have hmoving : r.move ≠ none := h.resolve_left (not_not.mpr hposition)
  obtain ⟨m, hm⟩ := Option.ne_none_iff_exists'.mp hmoving
  unfold Gauge.takeTarget at hmove
  simp only [hposition, hm] at hmove
  split at hmove <;> simp at hmove

/-! ### Changes of power state made due (R61) -/

theorem gaugesReady_iff (s : State) : s.gaugesReady = true ↔ ∀ g, (s.gauge g).state ∉ [GaugeState.homing, .sweeping] := by
  rw [State.gaugesReady, all_gauges]
  simp

theorem gaugesParked_iff (s : State) :
    s.gaugesParked = true ↔ ∀ g, (s.gauge g).state ∈ [GaugeState.parked, .unhomed, .fault] := by
  rw [State.gaugesParked, all_gauges]
  simp

/-- A change of one gauge makes no change of power state due, unless it ends a homing or a sweep in PROVING or comes to rest
in PARKING. -/
theorem settled_of_gauge {s t : State} {g : Fin 6} (hs : s.settled) (hpsc : t.psc = s.psc)
    (hother : ∀ x, x ≠ g → t.gauge x = s.gauge x)
    (hready : s.psc.state = .proving → (s.gauge g).state ∈ [GaugeState.homing, .sweeping] →
      (t.gauge g).state ∈ [GaugeState.homing, .sweeping])
    (hparked : s.psc.state = .parking → (t.gauge g).state ∈ [GaugeState.parked, .unhomed, .fault] →
      (s.gauge g).state ∈ [GaugeState.parked, .unhomed, .fault]) : t.settled := by
  unfold State.settled
  rw [hpsc]
  refine ⟨fun hproving hexpired => ?_, fun hparking => ?_⟩
  · refine Bool.eq_false_iff.mpr fun ht => Bool.eq_false_iff.mp (hs.1 hproving hexpired) ?_
    rw [gaugesReady_iff] at ht ⊢
    intro x
    by_cases hx : x = g
    · subst hx
      exact fun h => ht x (hready hproving h)
    · rw [← hother x hx]
      exact ht x
  · refine Bool.eq_false_iff.mpr fun ht => Bool.eq_false_iff.mp (hs.2 hparking) ?_
    rw [gaugesParked_iff] at ht ⊢
    intro x
    by_cases hx : x = g
    · subst hx
      exact hparked hparking (ht x)
    · rw [← hother x hx]
      exact ht x

/-- The same for a record replaced. -/
theorem settled_setGauge {s : State} {g : Fin 6} {r : Gauge} (hs : s.settled)
    (hready : s.psc.state = .proving → (s.gauge g).state ∈ [GaugeState.homing, .sweeping] →
      r.state ∈ [GaugeState.homing, .sweeping])
    (hparked : s.psc.state = .parking → r.state ∈ [GaugeState.parked, .unhomed, .fault] →
      (s.gauge g).state ∈ [GaugeState.parked, .unhomed, .fault]) : (s.setGauge g r).settled :=
  settled_of_gauge (g := g) hs (by simp) (fun x hx => by simp [hx]) (by simpa using hready) (by simpa using hparked)

/-- A gauge whose state stays makes no change of power state due. -/
theorem settled_setGauge_same {s : State} {g : Fin 6} {r : Gauge} (hs : s.settled) (h : r.state = (s.gauge g).state) :
    (s.setGauge g r).settled :=
  settled_setGauge hs (fun _ => by simp [h]) (fun _ => by simp [h])

theorem goodFrame_settled {s : State} (hs : s.settled) : (goodFrame s).settled :=
  settled_congr s _ hs (by simp) (by simp)

/-! ### What a change of power state leaves of a gauge -/

theorem judgePower_gauge_keeps (s : State) (g : Fin 6) :
    ((judgePower s).gauge g).state = (s.gauge g).state ∧
    ((judgePower s).gauge g).faultDetail = (s.gauge g).faultDetail ∧
    ((judgePower s).gauge g).position = (s.gauge g).position ∧ ((judgePower s).gauge g).homing = (s.gauge g).homing ∧
    ((judgePower s).gauge g).parkPending = (s.gauge g).parkPending ∧
    ((judgePower s).gauge g).profile = (s.gauge g).profile ∧ ((judgePower s).gauge g).staged = (s.gauge g).staged ∧
    ((judgePower s).gauge g).history = (s.gauge g).history := by
  rcases judgePower_gauge s g with h | h <;> simp [h]

/-- A change of power state starts no move. -/
theorem judgePower_gauge_rest {s : State} {g : Fin 6} :
    ((s.gauge g).move = none → ((judgePower s).gauge g).move = none) ∧
    ((s.gauge g).following = none → ((judgePower s).gauge g).following = none) := by
  rcases judgePower_gauge s g with h | h <;> simp [h]

/-- Outside PARKING no change of power state reaches the gauges, the quantities or the scan (R62, R164). -/
theorem judgePower_outside_parking {s : State} (h : s.psc.state ≠ .parking) :
    (judgePower s).gdu = s.gdu ∧ (judgePower s).qt = s.qt ∧ (judgePower s).ssu = s.ssu := by
  unfold judgePower
  split
  · split <;> simp
  · contradiction
  · exact ⟨rfl, rfl, rfl⟩
  · exact ⟨rfl, rfl, rfl⟩

theorem judgePower_gauge_same {s : State} (h : s.psc.state ≠ .parking) (g : Fin 6) : (judgePower s).gauge g = s.gauge g :=
  State.gauge_of _ _ (judgePower_outside_parking h).1 g

theorem judgePower_proving {s : State} (h : s.psc.state = .proving) :
    judgePower s = if s.psc.proof = .expired ∧ s.gaugesReady = true then finishProof s else s := by
  simp only [judgePower, h]

theorem judgePower_parking {s : State} (h : s.psc.state = .parking) :
    judgePower s = if s.gaugesParked = true then enterSleep s else s := by
  simp only [judgePower, h]

@[simp] theorem finishProof_state (s : State) : (finishProof s).psc.state = .run := by
  simp [finishProof, State.setPower]

@[simp] theorem enterSleep_state (s : State) : (enterSleep s).psc.state = .sleep := by
  simp [enterSleep, judgeAttention, State.setPower]

@[simp] theorem enterSleep_clock (s : State) : (enterSleep s).dtu.clock = s.dtu.clock := by
  simp [enterSleep, judgeAttention, Duty.unmarked]

@[simp] theorem enterSleep_gaugesParked (s : State) : (enterSleep s).gaugesParked = s.gaugesParked :=
  gaugesParked_congr _ _ fun g => by simp [enterSleep_gauge]

/-! ### The record handed on first (R179) -/

theorem ReportedFirst.mem {k : ReportKind} {a b : Nat} {s t : State} {urgent : Bool} (h : ReportedFirst k a b s t)
    (hroute : s.cfg.routes.get (routeIndex k .stop) = if urgent = true then .urgent else .post)
    (hroom : s.lp.queue.length < 32) :
    (⟨k, BitVec.ofNat 8 a, BitVec.ofNat 16 b, BitVec.ofNat 16 s.dtu.clock, urgent⟩ : Report) ∈ t.lp.queue :=
  (h urgent hroute hroom).subset (by simp)

/-- A record handed on right after a gauge's record is replaced is the first. -/
theorem hand_setGauge_first (k : ReportKind) (a b : Nat) (g : Fin 6) (r : Gauge) (s : State) :
    ReportedFirst k a b s (hand k a b (s.setGauge g r)) :=
  hand_first k a b s (s.setGauge g r) _ (by simp) (by simp) (by simp) List.prefix_rfl

end Sys2Proof.Machine
end

section
/-! PROOFS. O33: the requests to one gauge (R49, R54, R56, R57): what each operation makes of a gauge by its state, and then
the requests. -/
namespace Sys2Proof.Machine

/-! ### Homing ordered by the host (R49) -/

theorem homeGauge_closed {g : Fin 6} {s : State} (hs : s.settled) (hclosed : s.coilOpen.get g = false) :
    homeGauge g s = s.setGauge g (({ s.gauge g with parkPending := false } : Gauge).homes (s.gaugeConfig g)) := by
  have henter : enterHoming g (s.setGauge g { s.gauge g with parkPending := false }) =
      s.setGauge g (({ s.gauge g with parkPending := false } : Gauge).homes (s.gaugeConfig g)) := by
    rw [enterHoming_eq, watchCoil_closed (by simpa using hclosed)]
    simp [State.gaugeConfig]
  rw [homeGauge, henter]
  exact judgePower_settled _ (settled_setGauge hs (fun _ _ => by simp [Gauge.homes]) (fun _ h => by simp [Gauge.homes] at h))

theorem homeGauge_open {g : Fin 6} {s : State} (hpowered : s.powered = true) (hawake : s.psc.state ≠ .sleep)
    (hopen : s.coilOpen.get g = true) : ((homeGauge g s).gauge g).coilFaulted := by
  obtain ⟨hstate, hdetail, hposition, hmove, hhoming⟩ := enterHoming_open (g := g)
    (s := s.setGauge g { s.gauge g with parkPending := false }) (by simpa using hpowered) (by simpa using hawake)
    (by simpa using hopen)
  obtain ⟨kstate, kdetail, kposition, khoming, -⟩ :=
    judgePower_gauge_keeps (enterHoming g (s.setGauge g { s.gauge g with parkPending := false })) g
  exact ⟨kstate.trans hstate, kdetail.trans hdetail, kposition.trans hposition, judgePower_gauge_rest.1 hmove,
    khoming.trans hhoming⟩

/-! ### Parks (R54, R55) -/

theorem arrivePark_arrives {g : Fin 6} {s : State} (hstate : (s.gauge g).state = .parking) (hmove : (s.gauge g).move = none)
    (hposition : (s.gauge g).position = some (s.gauge g).restTaken) : arrivePark g s =
      hand .gaugeParked g.val (s.gauge g).restTaken (s.setGauge g { s.gauge g with state := .parked }) := by
  simp [arrivePark, hstate, hmove, hposition]

theorem arrivePark_rests {g : Fin 6} {s : State} (h : (s.gauge g).state = .parking →
    ¬((s.gauge g).move = none ∧ (s.gauge g).position = some (s.gauge g).restTaken)) : arrivePark g s = s :=
  if_neg fun hall => h hall.1 hall.2

/-- A gauge that goes to park takes the rest position configured then (R54, R64). -/
def Gauge.toPark (rest : Nat) (r : Gauge) : Gauge :=
  Gauge.takeTarget rest { r with state := .parking, following := none, restTaken := rest }

theorem enterParking_eq (g : Fin 6) (s : State) :
    enterParking g s = arrivePark g (s.setGauge g ((s.gauge g).toPark (s.gaugeConfig g).rest)) := rfl

theorem enterParking_arrives {g : Fin 6} {s : State} (hposition : (s.gauge g).position = some (s.gaugeConfig g).rest)
    (hmove : (s.gauge g).move = none) : enterParking g s = hand .gaugeParked g.val (s.gaugeConfig g).rest (s.setGauge g
      { s.gauge g with state := .parked, following := none, restTaken := (s.gaugeConfig g).rest }) := by
  have htarget : (s.gauge g).toPark (s.gaugeConfig g).rest =
      { s.gauge g with state := .parking, following := none, restTaken := (s.gaugeConfig g).rest } :=
    takeTarget_reached hposition hmove
  rw [enterParking_eq, htarget, arrivePark_arrives] <;> simp [hposition, hmove]

theorem enterParking_moves {g : Fin 6} {s : State}
    (h : (s.gauge g).position ≠ some (s.gaugeConfig g).rest ∨ (s.gauge g).move ≠ none) :
    enterParking g s = s.setGauge g ((s.gauge g).toPark (s.gaugeConfig g).rest) := by
  rw [enterParking_eq]
  refine arrivePark_rests fun _ => ?_
  simpa [Gauge.toPark] using takeTarget_unfinished (t := (s.gaugeConfig g).rest)
    (r := { s.gauge g with state := .parking, following := none, restTaken := (s.gaugeConfig g).rest }) h

theorem orderPark_enters {g : Fin 6} {s : State} (h : (s.gauge g).state ∈ [GaugeState.tracking, .held, .resting, .test]) :
    orderPark g s = enterParking g s := by
  unfold orderPark
  split <;> simp_all

theorem orderPark_marks {g : Fin 6} {s : State} (h : (s.gauge g).state ∈ [GaugeState.homing, .sweeping]) :
    orderPark g s = s.setGauge g { s.gauge g with parkPending := true } := by
  unfold orderPark
  split <;> simp_all

theorem orderPark_rests {g : Fin 6} {s : State} (h : (s.gauge g).state ∈ [GaugeState.parking, .parked]) :
    orderPark g s = s := by
  unfold orderPark
  split <;> simp_all

/-! ### Releases (R56) -/

theorem releasedByHost_cases (r : Gauge) :
    (r.state ∈ [GaugeState.parked, .parking, .test] → r.releasedByHost = { r with state := .tracking, history := [] }) ∧
    (r.state ∈ [GaugeState.homing, .sweeping] → r.releasedByHost = { r with parkPending := false }) ∧
    (r.state ∈ [GaugeState.tracking, .held, .resting] → r.releasedByHost = r) := by
  unfold Gauge.releasedByHost Gauge.released Gauge.track
  refine ⟨fun h => ?_, fun h => ?_, fun h => ?_⟩ <;> cases hs : r.state <;> simp_all

/-! ### Positions ordered by the host (R57) -/

theorem positionGauge_outside_parking {g : Fin 6} {p : Nat} {s : State} (h : s.psc.state ≠ .parking) :
    (∀ x, (positionGauge g p s).gauge x =
      if x = g then Gauge.takeTarget p { s.gauge g with state := .test, parkPending := false } else s.gauge x) ∧
    (positionGauge g p s).qt = s.qt ∧ (positionGauge g p s).ssu = s.ssu := by
  obtain ⟨hgdu, hqt, hssu⟩ := judgePower_outside_parking
    (s := s.setGauge g (Gauge.takeTarget p { s.gauge g with state := .test, parkPending := false })) (by simpa using h)
  exact ⟨fun x => (State.gauge_of _ _ hgdu x).trans (by simp), hqt.trans (by simp), hssu.trans (by simp)⟩

/-! ### Bodies -/

theorem readGauge_some {b : Byte} {g : Fin 6} (h : b.toNat = g.val) (rest : List Byte) : readGauge (b :: rest) = some g := by
  simp [readGauge, h]

theorem readGauge_none {b : Byte} (h : 6 ≤ b.toNat) (rest : List Byte) : readGauge (b :: rest) = none :=
  readIndex_out h

theorem readPosition_none {b : Byte} (s : State) (h : 6 ≤ b.toNat) (rest : List Byte) : s.readPosition (b :: rest) = none := by
  rw [State.readPosition, readGauge_none h]
  rfl

/-- The position that POSITION GAUGE names, held to the gauge's range (R57). -/
theorem readPosition_eq {b : Byte} {g : Fin 6} (s : State) (h : b.toNat = g.val) (hi lo : Byte) :
    s.readPosition [b, hi, lo] =
      if (s.gaugeConfig g).calibration.minPos ≤ hi.toNat * 256 + lo.toNat ∧
          hi.toNat * 256 + lo.toNat ≤ (s.gaugeConfig g).calibration.maxPos
      then some (g, hi.toNat * 256 + lo.toNat) else none := by
  have hword : wordAt [b, hi, lo] 1 = hi.toNat * 256 + lo.toNat := rfl
  simp only [State.readPosition, readGauge_some h, hword, readRange, readWhen, decide_eq_true_eq,
    Option.bind_eq_bind, Option.bind_some]
  split <;> rfl

theorem unplaced_iff (x : GaugeState) : x.unplaced = true ↔ x ∈ [GaugeState.unhomed, .homing, .fault] := by
  cases x <;> decide

/-! ### The requests -/

/-- An index that names no gauge is refused with RANGE, but by RELEASE GAUGE in PARKING (R49, R54, R56, R57). -/
theorem gaugeRequests_range (tag b : Byte) (s : State) (h : s.awake) (hb : 6 ≤ b.toNat) :
    AnswersRange (.homeGauge tag [b]) s tag 0x21#8 ∧ AnswersRange (.parkGauge tag [b]) s tag 0x22#8 ∧
    (s.psc.state ≠ .parking → AnswersRange (.releaseGauge tag [b]) s tag 0x23#8) ∧
    ∀ hi lo, AnswersRange (.positionGauge tag [b, hi, lo]) s tag 0x24#8 := by
  refine ⟨homeGaugeRequest.take_awake tag [b] s h rfl (reading_range _ _ (readGauge_none hb [])),
    parkGaugeRequest.take_awake tag [b] s h rfl (reading_range _ _ (readGauge_none hb [])),
    fun hp => releaseGaugeRequest.take_awake tag [b] s h rfl ?_,
    fun hi lo => positionGaugeRequest.take_awake tag [b, hi, lo] s h rfl (reading_range _ _ (readPosition_none _ hb _))⟩
  exact (if_neg (by simpa using hp)).trans (reading_range _ _ (readGauge_none hb []))

section
variable {b : Byte} {g : Fin 6} (tag : Byte) {s : State}

/-- HOME GAUGE is answered with the homing. -/
theorem homeGauge_answers (h : s.awake) (hb : b.toNat = g.val) {P : State → Prop}
    (hP : P (beginReply tag 0x21#8 .ok [] (homeGauge g (goodFrame s)))) :
    Answers (.homeGauge tag [b]) s tag 0x21#8 .ok [] P :=
  answers_awake _ homeGaugeRequest tag [b] s h rfl rfl (reading_accepts _ _ (goodFrame s) g (readGauge_some hb []))
    (by simp) hP

/-- PARK GAUGE is answered as `parkGauge` says. -/
theorem parkGauge_next (h : s.awake) (hb : b.toNat = g.val) {t : State} {status : Status}
    (hrun : parkGauge g (goodFrame s) = ⟨t, status, []⟩) :
    exec (.parkGauge tag [b]) s = .next (beginReply tag 0x22#8 status [] t) :=
  parkGaugeRequest.take_awake tag [b] s h rfl ((reading_accepts _ _ (goodFrame s) g (readGauge_some hb [])).trans hrun)

/-- Outside PARKING, PARK GAUGE of a gauge that is not UNHOMED or in FAULT orders the park. -/
theorem parkGauge_run (hs : s.settled) (hp : s.psc.state ≠ .parking)
    (hg : (s.gauge g).state ∉ [GaugeState.unhomed, .fault]) :
    parkGauge g (goodFrame s) = ⟨orderPark g (goodFrame s), .ok, []⟩ :=
  parkGauge_orders g (goodFrame s) (goodFrame_settled hs) (by simpa using hp) (by simpa using hg)

theorem releaseGauge_refused (h : s.awake) (hb : b.toNat = g.val)
    (hrefused : s.psc.state = .parking ∨ (s.gauge g).state ∈ [GaugeState.unhomed, .fault]) :
    exec (.releaseGauge tag [b]) s = .next (beginReply tag 0x23#8 .state [] (goodFrame s)) := by
  refine releaseGaugeRequest.take_awake tag [b] s h rfl ?_
  by_cases hp : s.psc.state = .parking
  · exact if_pos (by simpa using hp)
  · have hg : (s.gauge g).state = .unhomed ∨ (s.gauge g).state = .fault := by simpa [hp] using hrefused
    refine (if_neg (by simpa using hp)).trans ((reading_accepts _ _ (goodFrame s) g (readGauge_some hb [])).trans ?_)
    exact if_pos (by simpa using hg)

theorem releaseGauge_releases (h : s.awake) (hb : b.toNat = g.val) (hp : s.psc.state ≠ .parking)
    (hg : (s.gauge g).state ∉ [GaugeState.unhomed, .fault]) :
    exec (.releaseGauge tag [b]) s =
      .next (beginReply tag 0x23#8 .ok [] ((goodFrame s).setGauge g (s.gauge g).releasedByHost)) := by
  refine releaseGaugeRequest.take_awake tag [b] s h rfl ((if_neg (by simpa using hp)).trans
    ((reading_accepts _ _ (goodFrame s) g (readGauge_some hb [])).trans ?_))
  refine (if_neg (by simpa using hg)).trans ?_
  simp [Answer.ok]

theorem positionGauge_run (hb : b.toNat = g.val) (hi lo : Byte) : positionGaugeRequest.run [b, hi, lo] (goodFrame s) =
    if (s.gaugeConfig g).calibration.minPos ≤ hi.toNat * 256 + lo.toNat ∧
        hi.toNat * 256 + lo.toNat ≤ (s.gaugeConfig g).calibration.maxPos then
      if (s.gauge g).state ∈ [GaugeState.unhomed, .homing, .fault] ∨ s.psc.state = .parking then
        Answer.refuse (goodFrame s) .state
      else Answer.ok (positionGauge g (hi.toNat * 256 + lo.toNat) (goodFrame s))
    else Answer.refuse (goodFrame s) .range := by
  simp only [positionGaugeRequest, readPosition_eq _ hb, goodFrame_reads, goodFrame_frame, reading, unplaced_iff]
  by_cases hrange : (s.gaugeConfig g).calibration.minPos ≤ hi.toNat * 256 + lo.toNat ∧
      hi.toNat * 256 + lo.toNat ≤ (s.gaugeConfig g).calibration.maxPos
  · simp only [if_pos hrange]
  · simp only [if_neg hrange]

/-- The parks of R54, outside PARKING. -/
theorem parkGauge_byState (h : s.awake) (hs : s.settled) (hb : b.toNat = g.val) (hp : s.psc.state ≠ .parking) :
    ((s.gauge g).state ∈ [.unhomed, .fault] →
      exec (.parkGauge tag [b]) s = .next (beginReply tag 0x22#8 .state [] (goodFrame s))) ∧
    ((s.gauge g).state ∈ [.parking, .parked] →
      exec (.parkGauge tag [b]) s = .next (beginReply tag 0x22#8 .ok [] (goodFrame s))) ∧
    ((s.gauge g).state ∈ [.homing, .sweeping] → exec (.parkGauge tag [b]) s = .next (beginReply tag 0x22#8 .ok []
      ((goodFrame s).setGauge g { s.gauge g with parkPending := true }))) ∧
    ((s.gauge g).state ∈ [.tracking, .held, .resting, .test] → exec (.parkGauge tag [b]) s =
      .next (beginReply tag 0x22#8 .ok [] (enterParking g (goodFrame s)))) := by
  have hrun : (s.gauge g).state ∉ [GaugeState.unhomed, .fault] → exec (.parkGauge tag [b]) s =
      .next (beginReply tag 0x22#8 .ok [] (orderPark g (goodFrame s))) := fun hg =>
    parkGauge_next tag h hb (parkGauge_run hs hp hg)
  refine ⟨fun hg => ?_, fun hg => ?_, fun hg => ?_, fun hg => ?_⟩
  · exact parkGauge_next tag h hb (parkGauge_refused g _ (by simpa using hp) (by simpa using hg))
  · rw [hrun (GaugeState.not_mem_of_mem hg (by decide)), orderPark_rests (by simpa using hg)]
  · rw [hrun (GaugeState.not_mem_of_mem hg (by decide)), orderPark_marks (by simpa using hg)]
    simp
  · rw [hrun (GaugeState.not_mem_of_mem hg (by decide)), orderPark_enters (by simpa using hg)]

/-- The park of a gauge that stands at rest on its rest position (R54, R55). -/
theorem enterParking_answered (hposition : (s.gauge g).position = some (s.gaugeConfig g).rest)
    (hmove : (s.gauge g).move = none) {t : State}
    (ht : t = beginReply tag 0x22#8 .ok [] (enterParking g (goodFrame s))) :
    t.gauge g = { s.gauge g with state := .parked, following := none, restTaken := (s.gaugeConfig g).rest } ∧
    (∀ x, x ≠ g → t.gauge x = s.gauge x) ∧ s.sameBut t [.lp, .gdu] ∧
    Reported .gaugeParked .stop g.val (s.gaugeConfig g).rest s t := by
  have henter := enterParking_arrives (g := g) (s := goodFrame s) (by simpa using hposition) (by simpa using hmove)
  simp only [goodFrame_reads] at henter
  have hreported : Reported .gaugeParked .stop g.val (s.gaugeConfig g).rest (goodFrame s) (enterParking g (goodFrame s)) := by
    rw [henter]
    exact hand_reported _ _ _ _ ((goodFrame s).setGauge g _) _ (by simp) (by simp) (by simp) List.prefix_rfl
  subst ht
  refine ⟨?_, fun x hx => ?_, (State.sameBut_parts _ _ _).mpr (by simp), hreported.ofGoodFrame.beginReply _ _ _ _⟩
  · simp [henter]
  · simp [henter, hx]

/-- The releases of R56, outside PARKING. -/
theorem releaseGauge_byState (h : s.awake) (hb : b.toNat = g.val) (hp : s.psc.state ≠ .parking) :
    ((s.gauge g).state ∈ [.parked, .parking, .test] → exec (.releaseGauge tag [b]) s = .next (beginReply tag 0x23#8 .ok []
      ((goodFrame s).setGauge g { s.gauge g with state := .tracking, history := [] }))) ∧
    ((s.gauge g).state ∈ [.homing, .sweeping] → exec (.releaseGauge tag [b]) s = .next (beginReply tag 0x23#8 .ok []
      ((goodFrame s).setGauge g { s.gauge g with parkPending := false }))) ∧
    ((s.gauge g).state ∈ [.tracking, .held, .resting] →
      exec (.releaseGauge tag [b]) s = .next (beginReply tag 0x23#8 .ok []
        ((goodFrame s).setGauge g (s.gauge g)))) := by
  obtain ⟨htracks, hunmarked, hsame⟩ := releasedByHost_cases (s.gauge g)
  refine ⟨fun hg => ?_, fun hg => ?_, fun hg => ?_⟩ <;>
    rw [releaseGauge_releases tag h hb hp (GaugeState.not_mem_of_mem hg (by decide))]
  · rw [htracks hg]
  · rw [hunmarked hg]
  · rw [hsame hg]

/-- POSITION GAUGE by range, state and power state (R57). -/
theorem positionGauge_byState (h : s.awake) (hb : b.toNat = g.val) (hi lo : Byte) :
    (hi.toNat * 256 + lo.toNat < (s.gaugeConfig g).calibration.minPos ∨
        (s.gaugeConfig g).calibration.maxPos < hi.toNat * 256 + lo.toNat →
      exec (.positionGauge tag [b, hi, lo]) s = .next (beginReply tag 0x24#8 .range [] (goodFrame s))) ∧
    ((s.gaugeConfig g).calibration.minPos ≤ hi.toNat * 256 + lo.toNat →
      hi.toNat * 256 + lo.toNat ≤ (s.gaugeConfig g).calibration.maxPos →
      ((s.gauge g).state ∈ [.unhomed, .homing, .fault] ∨ s.psc.state = .parking →
        exec (.positionGauge tag [b, hi, lo]) s = .next (beginReply tag 0x24#8 .state [] (goodFrame s))) ∧
      ((s.gauge g).state ∉ [.unhomed, .homing, .fault] → s.psc.state ≠ .parking →
        Answers (.positionGauge tag [b, hi, lo]) s tag 0x24#8 .ok [] fun t =>
          t.gauge g = Gauge.takeTarget (hi.toNat * 256 + lo.toNat)
            { s.gauge g with state := .test, parkPending := false } ∧
          (∀ x, x ≠ g → t.gauge x = s.gauge x) ∧ s.sameBut t [.lp, .gdu, .weu, .dtu, .anu, .psc])) := by
  have hrun := positionGauge_run (s := s) hb hi lo
  refine ⟨fun hout => ?_, fun hmin hmax => ⟨fun hrefused => ?_, fun hg hp => ?_⟩⟩
  · refine positionGaugeRequest.take_awake tag [b, hi, lo] s h rfl (hrun.trans ?_)
    rw [if_neg (by omega), Answer.refuse]
  · refine positionGaugeRequest.take_awake tag [b, hi, lo] s h rfl (hrun.trans ?_)
    rw [if_pos ⟨hmin, hmax⟩, if_pos hrefused, Answer.refuse]
  · rw [if_pos ⟨hmin, hmax⟩, if_neg (not_or.mpr ⟨hg, hp⟩)] at hrun
    refine answers_awake _ positionGaugeRequest tag [b, hi, lo] s h rfl rfl hrun (by simp) ?_
    obtain ⟨hgauge, hqt, hssu⟩ := positionGauge_outside_parking (g := g) (p := hi.toNat * 256 + lo.toNat)
      (s := goodFrame s) (by simpa using hp)
    exact ⟨by simp [hgauge], fun x hx => by simp [hgauge, hx], (State.sameBut_parts _ _ _).mpr (by simp [hqt, hssu])⟩

end

/-- Settles O33, request by request. -/
theorem gaugeRequestsByGaugeState : Obligations.GaugeRequestsByGaugeState := by
  refine ⟨gaugeRequests_range, fun tag b s g h hs hb => ⟨fun hclosed => ?_, fun hopen => ?_,
    fun hg => releaseGauge_refused tag h hb (.inr hg), fun hp => ?_, fun hp => ?_,
    fun hp => releaseGauge_refused tag h hb (.inl hp), fun hp => releaseGauge_byState tag h hb hp,
    fun hi lo => positionGauge_byState tag h hb hi lo⟩⟩
  · have hhome := homeGauge_closed (g := g) (goodFrame_settled hs) (by simpa using hclosed)
    refine homeGauge_answers tag h hb ⟨(State.sameBut_parts _ _ _).mpr ?_, fun x hx => ?_, ?_⟩ <;> rw [hhome]
    · simp
    · simp [hx]
    · simp [Gauge.homes]
  · obtain ⟨hstate, hdetail, hposition, -, hhoming⟩ := homeGauge_open (g := g) (s := goodFrame s) (by simpa using h.1.1)
      (by simpa using h.2) (by simpa using hopen)
    exact homeGauge_answers tag h hb (by simp [hstate, hdetail, hposition, hhoming])
  · exact parkGauge_next tag h hb (parkGauge_in_parking g _ (by simpa using hp))
  · obtain ⟨hrefused, hsame, hmarked, henters⟩ := parkGauge_byState tag h hs hb hp
    refine ⟨hrefused, hsame, hmarked, fun hg => ⟨fun hposition hmove => ?_, fun hmoves => ?_⟩⟩
    · exact ⟨_, henters hg, by simp, enterParking_answered tag hposition hmove rfl⟩
    · rw [henters hg, enterParking_moves (by simpa using hmoves)]
      simp [Gauge.toPark]

end Sys2Proof.Machine
end

section
/-! PROOFS. The grades and the STATUS terms (O37). -/
namespace Sys2Proof.Machine

/-! ### The seven cases of a grade -/

namespace Shape
section
variable {f : Shape} {v : Int}

theorem grade_within (hb : f.b ≤ v) (hc : v ≤ f.c) : f.grade v = 255 := if_pos ⟨hb, hc⟩

theorem grade_openLow (hb : v < f.b) (hopen : f.openLow = true) : f.grade v = 255 := by
  rw [grade, if_neg (by omega), if_pos ⟨hb, hopen⟩]

theorem grade_openHigh (hc : f.c < v) (hopen : f.openHigh = true) : f.grade v = 255 := by
  rw [grade, if_neg (by omega), if_pos (c := f.c < v ∧ f.openHigh = true) ⟨hc, hopen⟩, ite_self]

/-- Outside both plateaus the two feet decide. -/
theorem grade_outside (hin : ¬ (f.b ≤ v ∧ v ≤ f.c)) (hlow : ¬ (v < f.b ∧ f.openLow = true))
    (hhigh : ¬ (f.c < v ∧ f.openHigh = true)) : f.grade v =
      if v ≤ f.a then 0 else if f.d ≤ v then 0
      else if v < f.b then (255 * (v - f.a)).toNat / (f.b - f.a).toNat
      else (255 * (f.d - v)).toNat / (f.d - f.c).toNat := by
  rw [grade, if_neg hin, if_neg hlow, if_neg hhigh]

/-- The quotient of a rising or falling flank is that of the integers. -/
theorem flank_cast {x y : Int} (hx : 0 ≤ x) (hy : 0 ≤ y) : (((255 * x).toNat / y.toNat : Nat) : Int) = 255 * x / y := by
  rw [Int.natCast_ediv, Int.toNat_of_nonneg (by omega), Int.toNat_of_nonneg hy]

section
variable (hbc : f.b ≤ f.c) (hcd : f.c ≤ f.d)
include hbc

theorem grade_below (hb : v < f.b) (hclosed : f.openLow = false) (ha : v ≤ f.a) : f.grade v = 0 := by
  rw [grade_outside (by omega) (by simp [hclosed]) (by omega), if_pos ha]

theorem grade_above (hc : f.c < v) (hclosed : f.openHigh = false) (hd : f.d ≤ v) : f.grade v = 0 := by
  rw [grade_outside (by omega) (by omega) (by simp [hclosed]), if_pos hd, ite_self]

include hcd in
theorem grade_rising (ha : f.a < v) (hb : v < f.b) (hclosed : f.openLow = false) :
    (f.grade v : Int) = 255 * (v - f.a) / (f.b - f.a) := by
  rw [grade_outside (by omega) (by simp [hclosed]) (by omega), if_neg (by omega), if_neg (by omega), if_pos hb,
    flank_cast (by omega) (by omega)]

theorem grade_falling (hab : f.a ≤ f.b) (hc : f.c < v) (hd : v < f.d) (hclosed : f.openHigh = false) :
    (f.grade v : Int) = 255 * (f.d - v) / (f.d - f.c) := by
  rw [grade_outside (by omega) (by omega) (by simp [hclosed]), if_neg (by omega), if_neg (by omega), if_neg (by omega),
    flank_cast (by omega) (by omega)]

end
end
end Shape

/-! ### The grade that a shape in force gives -/

section
variable {s : State} {k : Fin 32} {q : Fin 48}

theorem State.validValue_of_valid (h : (s.entry q).status = .valid) : s.validValue (some q) = some (s.entry q).value := if_pos h

theorem State.gradeOf_valid (hq : (s.weu.inForce.get k).quantity = some q) (h : (s.entry q).status = .valid) :
    s.gradeOf k = (s.weu.inForce.get k).grade (s.entry q).value := by
  simp only [State.gradeOf, hq, State.validValue_of_valid h]

theorem State.validValue_eq_none {x : Option (Fin 48)} (h : ∀ q, x = some q → (s.entry q).status ≠ .valid) :
    s.validValue x = none := by
  cases x with
  | none => rfl
  | some q => exact if_neg (h q rfl)

theorem State.gradeOf_invalid (h : ∀ q, (s.weu.inForce.get k).quantity = some q → (s.entry q).status ≠ .valid) :
    s.gradeOf k = (s.weu.inForce.get k).invalid := by
  simp only [State.gradeOf, State.validValue_eq_none h]

end

/-! ### STATUS terms -/

theorem State.termValue_status (s : State) (q : Fin 48) (among : List QStatus) (complement : Bool) :
    s.termValue ⟨.status q among, complement⟩ = truth (decide ((s.entry q).status ∈ among) ^^ complement) := by
  by_cases h : (s.entry q).status ∈ among <;> cases complement <;> simp [State.termValue, State.rawTerm, truth, h]

/-- Settles O37. -/
theorem gradesAndStatusTerms : Obligations.GradesAndStatusTerms := by
  refine ⟨?_, fun s => ⟨fun q among => ⟨fun h => ?_, fun h => ?_⟩, fun k => State.gradeOf_invalid⟩⟩
  · rintro s k q f v rfl hq hvalid rfl hab hbc hcd
    rw [State.gradeOf_valid hq hvalid]
    exact ⟨fun h => Shape.grade_within h.1 h.2, Shape.grade_openLow, Shape.grade_openHigh, Shape.grade_below hbc,
      Shape.grade_above hbc, Shape.grade_rising hbc hcd, Shape.grade_falling hbc hab⟩
  all_goals simp [State.termValue_status, truth, h]

end Sys2Proof.Machine
end

section
/-! PROOFS. What keeps the commands that wait, the timers and the lamp drives (O2, O59): a change is calm when it touches
neither the queue of commands, the power state, the timers, the criteria and the pass under way, nor the state of a gauge,
and leaves every lamp at the drive of R100's table. Nearly every operation of the part makes a calm change; what makes
another one is shown apart. -/
namespace Sys2Proof.Machine

/-! ### What stays steady -/

/-- The evaluation unit without its warnings and lamps. -/
def Evaluation.bare (u : Evaluation) : Evaluation :=
  { u with warnings := .replicate 48 (.afterReset .builtIn), lamps := .replicate 32 .afterReset }

/-- The proof hold, the line refresh, and the evaluation unit without its warnings and lamps. -/
def State.steady (s : State) : Bool × Option Nat × Evaluation := (s.anu.proofHold, s.anu.refreshDue, s.weu.bare)

theorem State.steady_of_units {s t : State} (hanu : t.anu = s.anu) (hweu : t.weu = s.weu) : t.steady = s.steady := by
  simp [State.steady, hanu, hweu]

/-- The proof hold, which of the periodic timers run, and the pass under way. -/
def State.timing (s : State) : Bool × Bool × Bool × Bool × Bool × Option Pass :=
  (s.anu.proofHold, s.anu.refreshDue.isSome, s.weu.evalDue.isSome, s.weu.flash.isSome, s.weu.lampDue.isSome, s.weu.pass)

theorem State.timing_eq_iff {s t : State} : t.timing = s.timing ↔
    t.anu.proofHold = s.anu.proofHold ∧ t.anu.refreshDue.isSome = s.anu.refreshDue.isSome ∧
    t.weu.evalDue.isSome = s.weu.evalDue.isSome ∧ t.weu.flash.isSome = s.weu.flash.isSome ∧
    t.weu.lampDue.isSome = s.weu.lampDue.isSome ∧ t.weu.pass = s.weu.pass := by
  simp [State.timing]

theorem State.timing_of_steady {s t : State} (h : t.steady = s.steady) : t.timing = s.timing := by
  simp only [State.steady, Evaluation.bare, Prod.mk.injEq, Evaluation.mk.injEq] at h
  simp [State.timing, h]

theorem State.timing_of_units {s t : State} (hanu : t.anu = s.anu) (hweu : t.weu = s.weu) : t.timing = s.timing :=
  State.timing_of_steady (State.steady_of_units hanu hweu)

@[simp] theorem hand_steady (k : ReportKind) (a b : Nat) (s : State) : (hand k a b s).steady = s.steady :=
  State.steady_of_units (by simp) (by simp)

@[simp] theorem setWarning_steady (s : State) (w : Fin 48) (r : Warning) : (s.setWarning w r).steady = s.steady := rfl

@[simp] theorem setLamp_steady (s : State) (l : Fin 32) (r : Lamp) : (s.setLamp l r).steady = s.steady := rfl

@[simp] theorem setQueue_steady (s : State) (q : List Entry) : (s.setQueue q).steady = s.steady := rfl

@[simp] theorem setTrack_steady (s : State) (i : Fin 2) (k : Track) (r : TrackRecord) :
    (s.setTrack i k r).steady = s.steady := rfl

@[simp] theorem setEntry_steady (s : State) (q : Fin 48) (e : Quantity) : (s.setEntry q e).steady = s.steady := rfl

@[simp] theorem stopShown_steady (s : State) : (stopShown s).steady = s.steady := rfl

@[simp] theorem renderLine_steady (s : State) : (renderLine s).steady = s.steady := by
  simp [State.steady]

@[simp] theorem gainArrival_steady (s : State) : (gainArrival s).steady = s.steady := by
  unfold gainArrival
  dsimp only
  split <;> rfl

@[simp] theorem tellLink_steady (e : Entry) (s : State) : (tellLink e s).steady = s.steady :=
  State.steady_of_units (by simp) (by simp)

@[simp] theorem showHead_steady (s : State) : (showHead s).steady = s.steady := by
  unfold showHead
  split
  · rfl
  · simp [State.steady, beginShowing, State.setShown, State.setQueue]

/-! ### The lamps and the warnings -/

@[simp] theorem judgeLamp_steady (l : Fin 32) (s : State) : (judgeLamp l s).steady = s.steady := rfl

@[simp] theorem judgeLampOf_steady (w : Fin 48) (s : State) : (judgeLampOf w s).steady = s.steady := by
  unfold judgeLampOf
  split <;> simp

@[simp] theorem judgeLamp?_steady (l : Option (Fin 32)) (s : State) : (judgeLamp? l s).steady = s.steady := by
  cases l <;> rfl

@[simp] theorem judgeLamps_steady (s : State) : (judgeLamps s).steady = s.steady := rfl

@[simp] theorem acknowledgeWarning_steady (w : Fin 48) (s : State) : (acknowledgeWarning w s).steady = s.steady := by
  unfold acknowledgeWarning
  dsimp only
  split <;> simp

/-! ### The message line -/

@[simp] theorem tellOwner_steady (cause : EndCause) (e : Entry) (s : State) : (tellOwner cause e s).steady = s.steady := by
  unfold tellOwner
  split <;> simp [warningEntryEnded]

@[simp] theorem endEntry_steady (cause : EndCause) (e : Entry) (s : State) : (endEntry cause e s).steady = s.steady := by
  simp [endEntry]

@[simp] theorem displace_steady (sh : Shown) (s : State) : (displace sh s).steady = s.steady := by
  unfold displace
  dsimp only
  split <;> simp

@[simp] theorem decideLine_steady (s : State) : (decideLine s).steady = s.steady := by
  unfold decideLine
  (repeat' split) <;> simp

@[simp] theorem decideAfterEnd_steady (s : State) : (decideAfterEnd s).steady = s.steady := by
  simp [decideAfterEnd]

@[simp] theorem joinQueue_steady (o : Offer) (s : State) : (joinQueue o s).steady = s.steady := by
  simp [joinQueue]

@[simp] theorem offerOnFull_steady (o : Offer) (s : State) : (offerOnFull o s).steady = s.steady := by
  unfold offerOnFull
  (repeat' split) <;> simp

@[simp] theorem offer_steady (o : Offer) (s : State) : (offer o s).steady = s.steady := by
  unfold offer
  (repeat' split)
  · simp [updateShown]
    rfl
  · rfl
  · simp
  · simp

@[simp] theorem withdraw_steady (x : AnnSource) (s : State) : (withdraw x s).steady = s.steady := by
  unfold withdraw
  (repeat' split) <;> simp

@[simp] theorem acknowledgeShown_steady (s : State) : (acknowledgeShown s).steady = s.steady := by
  unfold acknowledgeShown
  split <;> simp

@[simp] theorem writeEntry_steady (q : Fin 48) (e : Quantity) (s : State) : (writeEntry q e s).steady = s.steady := by
  unfold writeEntry
  split <;> simp

@[simp] theorem offerWarning_steady (w : Fin 48) (kind : AnnKind) (mark : AnnMark) (s : State) :
    (offerWarning w kind mark s).steady = s.steady := by
  unfold offerWarning
  dsimp only
  split <;> simp [State.setMark]

@[simp] theorem withdrawWarning_steady (w : Fin 48) (s : State) : (withdrawWarning w s).steady = s.steady := by
  unfold withdrawWarning
  split <;> simp [State.setMark]

end Sys2Proof.Machine
end

section
/-! PROOFS. Calm changes (O59), operation by operation. -/
namespace Sys2Proof.Machine

/-! ### What a calm change is -/

/-- Two states agree on the commands that wait, the power state and the proof timer, the criteria, the timers that run and
the pass under way, and the drives that were right in the first are right in the second. -/
structure Alike (s t : State) : Prop where
  pending : t.pending = s.pending
  state : t.psc.state = s.psc.state
  proof : t.psc.proof = s.psc.proof
  criteria : t.cfg.criteria = s.cfg.criteria
  timing : t.timing = s.timing
  lamps : s.lampsKept → t.lampsKept

/-- The same with every gauge in its state. -/
structure Calm (s t : State) : Prop extends Alike s t where
  gauges : ∀ g, (t.gauge g).state = (s.gauge g).state

section
variable {s t u : State}

theorem Alike.trans (h : Alike s t) (k : Alike t u) : Alike s u where
  pending := k.pending.trans h.pending
  state := k.state.trans h.state
  proof := k.proof.trans h.proof
  criteria := k.criteria.trans h.criteria
  timing := k.timing.trans h.timing
  lamps := k.lamps ∘ h.lamps

theorem Alike.of_same (h : t.pending = s.pending ∧ t.psc = s.psc ∧ t.cfg = s.cfg ∧ t.weu = s.weu ∧ t.anu = s.anu) :
    Alike s t := by
  obtain ⟨hpending, hpsc, hcfg, hweu, hanu⟩ := h
  exact ⟨hpending, by rw [hpsc], by rw [hpsc], by rw [hcfg], State.timing_of_units hanu hweu,
    (SameDrives.of_parts hpsc hcfg hweu).kept⟩

theorem Calm.trans (h : Calm s t) (k : Calm t u) : Calm s u where
  toAlike := h.toAlike.trans k.toAlike
  gauges g := (k.gauges g).trans (h.gauges g)

/-- The later change first, so that it says which state the earlier one leads to. -/
theorem Calm.after (k : Calm t u) (h : Calm s t) : Calm s u := h.trans k

/-- A change of none of the parts that matter. -/
theorem Calm.of_same (h : t.pending = s.pending ∧ t.psc = s.psc ∧ t.cfg = s.cfg ∧ t.gdu = s.gdu ∧ t.weu = s.weu ∧
    t.anu = s.anu) : Calm s t := by
  obtain ⟨hpending, hpsc, hcfg, hgdu, hweu, hanu⟩ := h
  exact ⟨.of_same ⟨hpending, hpsc, hcfg, hweu, hanu⟩, fun g => by rw [State.gauge_of s t hgdu]⟩

theorem Calm.refl (s : State) : Calm s s := .of_same ⟨rfl, rfl, rfl, rfl, rfl, rfl⟩

/-- A change that keeps the drives and the timers running. -/
theorem Calm.of_timing (hlamps : s.lampsKept → t.lampsKept)
    (h : t.pending = s.pending ∧ t.psc = s.psc ∧ t.cfg = s.cfg ∧ t.gdu = s.gdu) (htiming : t.timing = s.timing) :
    Calm s t := by
  obtain ⟨hpending, hpsc, hcfg, hgdu⟩ := h
  exact ⟨⟨hpending, by rw [hpsc], by rw [hpsc], by rw [hcfg], htiming, hlamps⟩, fun g => by rw [State.gauge_of s t hgdu]⟩

/-- A change of the line and the warnings that keeps the drives. -/
theorem Calm.of_frame (hlamps : s.lampsKept → t.lampsKept)
    (h : t.pending = s.pending ∧ t.psc = s.psc ∧ t.cfg = s.cfg ∧ t.gdu = s.gdu) (hsteady : t.steady = s.steady) : Calm s t :=
  .of_timing hlamps h (State.timing_of_steady hsteady)

/-- A change of settings that neither the drives nor the evaluation read. -/
theorem Calm.of_settings (hcfg : t.cfg.criteria = s.cfg.criteria ∧ t.cfg.lamps = s.cfg.lamps ∧
      t.cfg.warnings = s.cfg.warnings)
    (h : t.pending = s.pending ∧ t.psc = s.psc ∧ t.gdu = s.gdu ∧ t.weu = s.weu ∧ t.anu = s.anu) : Calm s t := by
  obtain ⟨hcriteria, hlamps, hwarnings⟩ := hcfg
  obtain ⟨hpending, hpsc, hgdu, hweu, hanu⟩ := h
  have hdrives : SameDrives s t := ⟨by rw [hpsc], hlamps, hwarnings, fun w => by simp [State.warning, hweu], by rw [hweu]⟩
  exact ⟨⟨hpending, by rw [hpsc], by rw [hpsc], hcriteria, State.timing_of_units hanu hweu, hdrives.kept⟩,
    fun g => by rw [State.gauge_of s t hgdu]⟩

theorem setCfg_calm {s : State} {c : Settings} (h : c.criteria = s.cfg.criteria ∧ c.lamps = s.cfg.lamps ∧
    c.warnings = s.cfg.warnings) : Calm s (s.setCfg c) :=
  .of_settings h ⟨rfl, rfl, rfl, rfl, rfl⟩

theorem Calm.ite {c : Prop} [Decidable c] {a b : State} (ha : Calm s a) (hb : Calm s b) : Calm s (if c then a else b) :=
  iteInduction (fun _ => ha) (fun _ => hb)

end

theorem forEach_calm {n : Nat} {f : Fin n → State → State} (hf : ∀ i t, Calm t (f i t)) (s : State) :
    Calm s (forEach f s) :=
  forEach_keeps (Calm s) f (fun i t h => h.trans (hf i t)) s (.refl s)

/-! ### The message line -/

theorem hand_calm (k : ReportKind) (a b : Nat) (s : State) : Calm s (hand k a b s) := .of_same (by simp)

theorem setEntry_calm (s : State) (q : Fin 48) (e : Quantity) : Calm s (s.setEntry q e) := .of_same (by simp)

theorem renderLine_calm (s : State) : Calm s (renderLine s) :=
  .of_frame (SameDrives.of_parts (by simp) (by simp) (by simp)).kept (by simp) (by simp)

theorem endEntry_calm (cause : EndCause) (e : Entry) (s : State) : Calm s (endEntry cause e s) :=
  .of_frame (endEntry_kept cause e s) (by simp) (by simp)

theorem decideLine_calm (s : State) : Calm s (decideLine s) := .of_frame (decideLine_drives s).kept (by simp) (by simp)

theorem decideAfterEnd_calm (s : State) : Calm s (decideAfterEnd s) :=
  .of_frame (decideAfterEnd_drives s).kept (by simp) (by simp)

theorem offer_calm (o : Offer) (s : State) : Calm s (offer o s) := .of_frame (offer_drives o s).kept (by simp) (by simp)

theorem withdraw_calm (x : AnnSource) (s : State) : Calm s (withdraw x s) :=
  .of_frame (withdraw_drives x s).kept (by simp) (by simp)

theorem acknowledgeShown_calm (s : State) : Calm s (acknowledgeShown s) :=
  .of_frame (acknowledgeShown_kept s) (by simp) (by simp)

theorem writeEntry_calm (q : Fin 48) (e : Quantity) (s : State) : Calm s (writeEntry q e s) :=
  .of_frame (writeEntry_kept q e s) (by simp) (by simp)

/-! ### The quantities and the scan -/

theorem handRecovered_calm (q : Fin 48) (before : QStatus) (s : State) : Calm s (handRecovered q before s) :=
  .of_same (by simp)

theorem applyPair_calm (first : Byte) (v : Int) (s : State) : Calm s (applyPair first v s).1 := by
  unfold applyPair
  split
  · exact .refl s
  · split
    · exact .ite (.of_same (by simp)) ((writeEntry_calm _ _ s).trans (handRecovered_calm _ _ _))
    all_goals exact .refl s

theorem applyPairs_calm (b : List Byte) (s : State) : Calm s (applyPairs b s).1 := by
  fun_induction applyPairs b s with
  | case1 first hi lo rest s one more ih => exact (applyPair_calm first _ s).trans ih
  | case2 => exact .refl _

theorem deliverInLimit_calm (q : Fin 48) (f : ScanFields) (filtered : Nat) (s : State) :
    Calm s (deliverInLimit q f filtered s) := by
  unfold deliverInLimit
  dsimp only
  split
  · exact writeEntry_calm _ _ s
  · exact writeEntry_calm _ _ s
  · exact (writeEntry_calm _ _ s).trans (handRecovered_calm _ _ _)
  · exact .ite ((writeEntry_calm _ _ s).trans (handRecovered_calm _ _ _)) (setEntry_calm _ _ _)

theorem deliver_calm (input : Fin 16) (raw filtered : Nat) (q : Fin 48) (s : State) :
    Calm s (deliver input raw filtered q s) := by
  unfold deliver
  split
  · exact .ite (.ite (.of_same (by simp)) (.ite (.of_same (by simp)) (deliverInLimit_calm q _ filtered s))) (.refl s)
  all_goals exact .refl s

theorem sampleSwitch_calm (levels : BitVec 8) (q : Fin 48) (s : State) : Calm s (sampleSwitch levels q s) := by
  unfold sampleSwitch
  split
  · exact .ite (writeEntry_calm _ _ s) (setEntry_calm _ _ _)
  all_goals exact .refl s

theorem nextConversion_calm (s : State) : Calm s (nextConversion s) := by
  unfold nextConversion
  (repeat' split) <;> exact .of_same (by simp)

theorem takeResult_calm (position : Nat) (e : ScanEntry) (raw : Nat) (s : State) : Calm s (takeResult position e raw s) := by
  unfold takeResult
  exact (forEach_calm (fun q t => deliver_calm _ _ _ q t) _).after (.of_same (by simp))

theorem moveRoundRobin_calm (position : Nat) (e : ScanEntry) (s : State) : Calm s (moveRoundRobin position e s) :=
  .of_same (by simp)

theorem completeConversion_calm (f : Flight) (raw : Nat) (s : State) : Calm s (completeConversion f raw s) := by
  unfold completeConversion
  split
  · exact nextConversion_calm s
  · next e _ =>
    exact (takeResult_calm f.position e raw s).trans ((moveRoundRobin_calm f.position e _).trans (nextConversion_calm _))

/-! ### Duty -/

theorem setTrack_calm (s : State) (i : Fin 2) (k : Track) (r : TrackRecord) : Calm s (s.setTrack i k r) :=
  .of_same (by simp)

theorem offerTrack_calm (i : Fin 2) (k : Track) (s : State) : Calm s (offerTrack i k s) := by
  unfold offerTrack
  refine .ite (.refl s) ?_
  split
  · exact .refl s
  · exact (setTrack_calm s i k _).trans (offer_calm _ _)

theorem withdrawTrack_calm (i : Fin 2) (k : Track) (s : State) : Calm s (withdrawTrack i k s) :=
  .ite ((setTrack_calm s i k _).trans (withdraw_calm _ _)) (.refl s)

theorem handStage_calm (i : Fin 2) (k : Track) (old new : Stage) (s : State) : Calm s (handStage i k old new s) :=
  .of_same (by simp)

theorem setStage_calm (s : State) (i : Fin 2) (k : Track) (stage : Stage) (acknowledged : Bool) :
    Calm s (s.setStage i k stage acknowledged) := setTrack_calm s i k _

theorem recomputeTrack_calm (i : Fin 2) (k : Track) (s : State) : Calm s (recomputeTrack i k s) := by
  have hlowered : ∀ stage acknowledged, Calm s ((withdrawTrack i k s).setStage i k stage acknowledged) := fun _ _ =>
    (withdrawTrack_calm i k s).trans (setStage_calm _ i k _ _)
  exact .ite (.refl s) (.ite ((hlowered _ _).trans ((offerTrack_calm i k _).trans (handStage_calm i k _ _ _)))
    ((hlowered _ _).trans (handStage_calm i k _ _ _)))

theorem recomputeStages_calm (i : Fin 2) (s : State) : Calm s (recomputeStages i s) :=
  (recomputeTrack_calm i .continuous s).trans ((recomputeTrack_calm i .daily _).trans (recomputeTrack_calm i .weekly _))

theorem insertTrack_calm (i : Fin 2) (k : Track) (s : State) : Calm s (insertTrack i k s) := by
  unfold insertTrack
  dsimp only
  split
  · exact .refl s
  · exact (setStage_calm s i k _ _).trans (handStage_calm i k _ _ _)
  all_goals exact (setStage_calm s i k _ _).trans ((offerTrack_calm i k _).trans (handStage_calm i k _ _ _))

theorem reofferTrack_calm (i : Fin 2) (k : Track) (s : State) : Calm s (reofferTrack i k s) :=
  .ite (offerTrack_calm i k s) (.refl s)

theorem reofferSlot_calm (i : Fin 2) (s : State) : Calm s (reofferSlot i s) :=
  (reofferTrack_calm i .continuous s).trans ((reofferTrack_calm i .daily _).trans (reofferTrack_calm i .weekly _))

theorem setSlot_calm (s : State) (i : Fin 2) (x : Slot) : Calm s (s.setSlot i x) := .of_same (by simp)

theorem loadStaged_calm (i : Fin 2) (s : State) : Calm s (loadStaged i s) := by
  unfold loadStaged
  split
  · exact .refl s
  · exact (hand_calm _ _ _ _).after (.of_settings ⟨rfl, rfl, rfl⟩ ⟨rfl, rfl, rfl, rfl, rfl⟩)

theorem dayStart_calm (i : Fin 2) (s : State) : Calm s (dayStart i s) :=
  .ite ((setSlot_calm s i _).trans ((hand_calm _ _ _ _).trans (loadStaged_calm i _))) (.refl s)

theorem weekStart_calm (i : Fin 2) (s : State) : Calm s (weekStart i s) := .of_same (by simp)

theorem writeDerived_calm (i : Fin 2) (s : State) : Calm s (writeDerived i s) :=
  (writeEntry_calm _ _ s).trans (writeEntry_calm _ _ _)

theorem mismatchCheck_calm (s : State) : Calm s (mismatchCheck s) := .of_same (by simp)

theorem account_calm (i : Fin 2) (s : State) : Calm s (account i s) := by
  have hcounted : Calm s (recomputeStages i (weekStart i (dayStart i (s.setSlot i ((s.slot i).minute (s.limits i)))))) :=
    (setSlot_calm s i _).trans ((dayStart_calm i _).trans ((weekStart_calm i _).trans (recomputeStages_calm i _)))
  unfold account
  split
  · refine Calm.trans ?_ (writeDerived_calm i _)
    split
    · exact hcounted.trans (mismatchCheck_calm _)
    · exact hcounted
  · exact .refl s

theorem minuteExpired_calm (due : Nat) (slot2First : Bool) (s : State) : Calm s (minuteExpired due slot2First s) := by
  have hclock : Calm s (s.setDtu { s.dtu with clock := gain 4294967295 s.dtu.clock, minuteDue := due + Config.minutes 1 }) :=
    .of_settings ⟨rfl, rfl, rfl⟩ ⟨rfl, rfl, rfl, rfl, rfl⟩
  unfold minuteExpired
  dsimp only
  split
  · exact hclock.trans ((account_calm 1 _).trans (account_calm 0 _))
  · exact hclock.trans ((account_calm 0 _).trans (account_calm 1 _))

theorem dutyReconfigured_calm (i : Fin 2) (s : State) : Calm s (dutyReconfigured i s) :=
  .ite ((setSlot_calm s i _).trans ((recomputeStages_calm i _).trans (writeDerived_calm i _))) (.refl s)

theorem configureDuty_calm (c : DutySettings) (s : State) : Calm s (configureDuty c s) :=
  Calm.trans (setCfg_calm (c := { s.cfg with duty := c }) ⟨rfl, rfl, rfl⟩)
    ((dutyReconfigured_calm 0 _).trans (dutyReconfigured_calm 1 _))

theorem clearMismatch_calm (i : Fin 2) (s : State) : Calm s (clearMismatch i s) := .of_same (by simp)

theorem insertCard_calm (i : Fin 2) (token : BitVec 32) (activity : Activity) (c : Summary) (s : State) :
    Calm s (insertCard i token activity c s) :=
  (setSlot_calm s i _).trans ((clearMismatch_calm i _).trans ((insertTrack_calm i .continuous _).trans
    ((insertTrack_calm i .daily _).trans ((insertTrack_calm i .weekly _).trans (writeDerived_calm i _)))))

theorem removeCard_calm (i : Fin 2) (s : State) : Calm s (removeCard i s) :=
  (setSlot_calm s i _).trans ((withdraw_calm _ _).trans ((withdraw_calm _ _).trans ((withdraw_calm _ _).trans
    ((setSlot_calm _ i _).trans ((clearMismatch_calm i _).trans
      ((writeEntry_calm _ _ _).trans (writeEntry_calm _ _ _)))))))

end Sys2Proof.Machine
end

section
/-! PROOFS. Calm changes of the lamps, the warnings, the scan, the line, the gauges and the link (O59). -/
namespace Sys2Proof.Machine

/-! ### The lamps -/

/-- The host level of one lamp has no part in the drive of another (R100). -/
theorem setLamp_driveOf_ne {s : State} {l x : Fin 32} (r : Lamp) (h : x ≠ l) : (s.setLamp l r).driveOf x = s.driveOf x :=
  driveOf_congr s _ x (by simp) (by simp) (by simp [h]) fun _ => ⟨rfl, rfl⟩

/-- A lamp changed in neither drive nor host level (R104). -/
theorem setLamp_calm {s : State} {l : Fin 32} {r : Lamp} (hdrive : r.drive = (s.lamp l).drive)
    (hlevel : r.hostLevel = (s.lamp l).hostLevel) : Calm s (s.setLamp l r) := by
  refine .of_frame (fun h x => ?_) (by simp) (by simp)
  have hsame : (s.setLamp l r).driveOf x = s.driveOf x := by
    refine driveOf_congr s _ x (by simp) (by simp) ?_ fun _ => ⟨rfl, rfl⟩
    by_cases hx : x = l <;> simp [hx, hlevel]
  rw [hsame, ← h x]
  by_cases hx : x = l <;> simp [hx, hdrive]

theorem sampleLamp_calm (openLoads : BitVec 32) (l : Fin 32) (s : State) : Calm s (sampleLamp openLoads l s) := by
  unfold sampleLamp
  split
  · dsimp only
    split
    · exact setLamp_calm rfl rfl
    · exact .ite ((hand_calm _ _ _ _).after (setLamp_calm rfl rfl)) (setLamp_calm rfl rfl)
    · exact .refl s
    · exact (hand_calm _ _ _ _).after (setLamp_calm rfl rfl)
  · exact .refl s

theorem lampSampled_calm (openLoads : BitVec 32) (due : Nat) (s : State) (h : s.weu.lampDue.isSome = true) :
    Calm s (lampSampled openLoads due s) := by
  have hdue : Calm s (s.setWeu { s.weu with lampDue := some (due + Config.lampInterval), driveLevel := s.dimmed }) :=
    .of_timing (SameDrives.kept (s := s) (by simp [SameDrives, State.warning])) ⟨rfl, rfl, rfl, rfl⟩ (by simp [State.timing, h])
  exact hdue.trans (forEach_calm (sampleLamp_calm openLoads) _)

theorem flashHalf_calm (f : Flash) (s : State) (h : s.weu.flash.isSome = true) :
    Calm s (s.setWeu { s.weu with flash := some f }) :=
  .of_timing (SameDrives.kept (s := s) (by simp [SameDrives, State.warning])) ⟨rfl, rfl, rfl, rfl⟩ (by simp [State.timing, h])

theorem hostLevelsOff_calm (s : State) : Calm s (hostLevelsOff s) :=
  .of_frame (fun _ => judgeLamps_kept _) ⟨rfl, rfl, rfl, rfl⟩ rfl

theorem setHostLevel_calm (l : Fin 32) (level : HostLevel) (s : State) : Calm s (setHostLevel l level s) := by
  refine .of_frame (fun h => judgeLamp_kept _ l fun x hx => ?_) ⟨rfl, rfl, rfl, rfl⟩ rfl
  rw [setLamp_driveOf_ne _ hx, State.setLamp_lamp, if_neg hx, h x]

theorem configureLamp_calm (l : Fin 32) (c : LampSettings) (s : State) : Calm s (configureLamp l c s) := by
  have hother (x : Fin 32) (hx : x ≠ l) :
      (s.setCfg { s.cfg with lamps := s.cfg.lamps.set l c }).driveOf x = s.driveOf x :=
    driveOf_congr s _ x rfl (by simp [Table.get_set_ne, hx]) rfl fun _ => ⟨rfl, rfl⟩
  refine ⟨⟨by simp, by simp, by simp, ?_, ?_, fun h => ?_⟩, fun g => by rw [State.gauge_of s _ (by simp)]⟩
  all_goals unfold configureLamp; dsimp only; split
  · rfl
  · rfl
  · rfl
  · rfl
  · refine judgeLamp_kept _ l fun x hx => ?_
    rw [hother x hx, ← h x]
    rfl
  · refine judgeLamp_kept _ l fun x hx => ?_
    rw [setLamp_driveOf_ne _ hx, hother x hx, ← h x, State.setLamp_lamp, if_neg hx]
    rfl

theorem applyLampPair_calm (index level : Byte) (s : State) : Calm s (applyLampPair index level s).1 := by
  unfold applyLampPair
  split
  · split
    · exact setHostLevel_calm _ _ s
    · exact .refl s
  · exact .refl s

theorem applyLampPairs_calm (b : List Byte) (s : State) : Calm s (applyLampPairs b s).1 := by
  fun_induction applyLampPairs b s with
  | case1 index level rest s one more ih => exact (applyLampPair_calm index level s).trans ih
  | case2 => exact .refl _

/-! ### The warnings -/

theorem goOff_steady (w : Fin 48) (cause : WarnEnd) (s : State) : (goOff w cause s).steady = s.steady := by
  simp [goOff, handWarningEnded]

@[simp] theorem handWarningRaised_steady (w : Fin 48) (cls : WarnClass) (fromLatched offered : Bool) (s : State) :
    (handWarningRaised w cls fromLatched offered s).steady = s.steady :=
  State.steady_of_units (by simp [handWarningRaised]) (by simp [handWarningRaised])

theorem enterActiveNew_steady (w : Fin 48) (fromLatched : Bool) (s : State) :
    (enterActiveNew w fromLatched s).steady = s.steady := by
  unfold enterActiveNew
  dsimp only
  split <;> simp

theorem endAtStrength_steady (w : Fin 48) (s : State) : (endAtStrength w s).steady = s.steady := by
  unfold endAtStrength
  split
  · dsimp only
    split <;> simp
  · exact goOff_steady w .strength s

theorem actOnStrength_steady (w : Fin 48) (strength : Nat) (s : State) : (actOnStrength w strength s).steady = s.steady := by
  unfold actOnStrength
  dsimp only
  (repeat' split) <;> simp [enterActiveNew_steady, endAtStrength_steady]

theorem acknowledgeWarning_calm (w : Fin 48) (s : State) : Calm s (acknowledgeWarning w s) :=
  .of_frame (acknowledgeWarning_kept w s) (by simp) (by simp)

theorem withdrawWarning_calm (w : Fin 48) (s : State) : Calm s (withdrawWarning w s) :=
  .of_frame (withdrawWarning_drives w s).kept (by simp) (by simp)

theorem enterActiveNew_calm (w : Fin 48) (fromLatched : Bool) (s : State) : Calm s (enterActiveNew w fromLatched s) :=
  .of_frame (enterActiveNew_kept w fromLatched s) (by simp) (enterActiveNew_steady w fromLatched s)

theorem goOff_calm (w : Fin 48) (cause : WarnEnd) (s : State) : Calm s (goOff w cause s) :=
  .of_frame (goOff_kept w cause s) (by simp) (goOff_steady w cause s)

theorem actOnStrength_calm (w : Fin 48) (strength : Nat) (s : State) : Calm s (actOnStrength w strength s) :=
  .of_frame (actOnStrength_kept w strength s) (by simp) (actOnStrength_steady w strength s)

/-- A warning that is OFF or DISABLED is left, and any other goes OFF (R96). -/
theorem putOff_cases (w : Fin 48) (s : State) :
    ((s.warning w).state ∈ [.off, .disabled] → putOff w s = s) ∧
    ((s.warning w).state ∉ [.off, .disabled] → putOff w s = goOff w .reconfigured s) := by
  cases h : (s.warning w).state <;> simp [putOff, h]

theorem putOff_calm (w : Fin 48) (s : State) : Calm s (putOff w s) := by
  obtain ⟨hleft, hoff⟩ := putOff_cases w s
  by_cases h : (s.warning w).state ∈ [.off, .disabled]
  · rw [hleft h]
    exact .refl s
  · rw [hoff h]
    exact goOff_calm w .reconfigured s

theorem putOff_steady (w : Fin 48) (s : State) : (putOff w s).steady = s.steady := by
  obtain ⟨hleft, hoff⟩ := putOff_cases w s
  by_cases h : (s.warning w).state ∈ [.off, .disabled]
  · rw [hleft h]
  · rw [hoff h, goOff_steady]

theorem reconfigureWarning_calm (w : Fin 48) (c : WarnSettings) (s : State) : Calm s (reconfigureWarning w c s) where
  pending := by simp
  state := by simp
  proof := by simp
  criteria := by simp [reconfigureWarning, State.setWarnSettings]
  timing := by
    refine State.timing_of_steady ?_
    simp only [reconfigureWarning, judgeLamp?_steady, setWarning_steady]
    exact putOff_steady w s
  lamps := reconfigureWarning_kept w c s
  gauges g := by rw [State.gauge_of s _ (by simp)]

/-- A warning put in a state, with what the drives do not read, and its lamp re-judged. -/
theorem judgeLampOf_calm {s t : State} {w : Fin 48} (r : Warning) (h : SameDrives (s.setWarning w r) t)
    (hsame : t.pending = s.pending ∧ t.psc = s.psc ∧ t.cfg = s.cfg ∧ t.gdu = s.gdu) (hsteady : t.steady = s.steady) :
    Calm s (judgeLampOf w t) :=
  .of_frame (judgeLampOf_kept s t w r · h) (by simpa using hsame) (by simp [hsteady])

theorem suppress_calm (w : Fin 48) (s : State) : Calm s (suppress w s) := by
  have hdrives := withdrawWarning_drives w (s.setWarning w ((s.warning w).restedIn .suppressed))
  unfold suppress
  dsimp only
  split
  · exact judgeLampOf_calm _ (hdrives.trans (handWarningEnded_drives w _ _)) (by simp [handWarningEnded])
      (by simp [handWarningEnded])
  · exact judgeLampOf_calm _ hdrives (by simp) (by simp)

theorem acknowledgeByHost_calm (w : Fin 48) (s : State) : Calm s (acknowledgeByHost w s).state := by
  have hacknowledged := (acknowledgeWarning_calm w s).trans (withdrawWarning_calm w _)
  unfold acknowledgeByHost
  split
  · exact hacknowledged
  · exact hacknowledged
  · split
    · exact .refl s
    · exact hacknowledged
  all_goals exact .refl s

theorem clearByHost_calm (w : Fin 48) (s : State) : Calm s (clearByHost w s).state := by
  unfold clearByHost
  split
  · exact goOff_calm w .cleared s
  all_goals exact .refl s

theorem suppressByHost_calm (w : Fin 48) (s : State) : Calm s (suppressByHost w s).state := by
  unfold suppressByHost
  split
  · exact .refl s
  · exact .refl s
  all_goals exact suppress_calm w s

theorem restoreByHost_calm (w : Fin 48) (s : State) : Calm s (restoreByHost w s).state := by
  unfold restoreByHost
  split
  · exact judgeLampOf_calm _ (.of_parts rfl rfl rfl) ⟨rfl, rfl, rfl, rfl⟩ rfl
  · exact .refl s

theorem reminderExpired_calm (w : Fin 48) (s : State) : Calm s (reminderExpired w s) :=
  .of_frame (SameDrives.trans (SameDrives.setWarning s w { s.warning w with
      reminderDue := some (s.now + Config.minutes (s.cfg.warnings.get w).reminder) } rfl rfl)
    (offerWarning_drives w .reminder .reminder _)).kept (by simp [reminderExpired])
    (by simp [reminderExpired])

/-! ### The line -/

theorem renderIfOnLine_calm (m : Fin 64) (s : State) : Calm s (renderIfOnLine m s) := .ite (renderLine_calm s) (.refl s)

/-- A change of the line alone that leaves the proof hold and the refresh timer. -/
theorem Calm.of_line {s t : State} (hhold : t.anu.proofHold = s.anu.proofHold)
    (hrefresh : t.anu.refreshDue.isSome = s.anu.refreshDue.isSome)
    (h : t.pending = s.pending ∧ t.psc = s.psc ∧ t.cfg = s.cfg ∧ t.gdu = s.gdu ∧ t.weu = s.weu) : Calm s t := by
  obtain ⟨hpending, hpsc, hcfg, hgdu, hweu⟩ := h
  exact .of_timing (SameDrives.of_parts hpsc hcfg hweu).kept ⟨hpending, hpsc, hcfg, hgdu⟩
    (by simp [State.timing, hhold, hrefresh, hweu])

theorem setAnu_calm {s : State} {a : Annunciation} (hhold : a.proofHold = s.anu.proofHold)
    (hrefresh : a.refreshDue.isSome = s.anu.refreshDue.isSome) : Calm s (s.setAnu a) :=
  .of_line hhold hrefresh ⟨rfl, rfl, rfl, rfl, rfl⟩

theorem configureLine_calm (c : LineSettings) (s : State) : Calm s (configureLine c s) :=
  Calm.trans (setCfg_calm (c := { s.cfg with line := c }) ⟨rfl, rfl, rfl⟩) (setAnu_calm rfl rfl)

theorem setPriorityMap_calm (m : Table 6 AnnClass) (s : State) : Calm s (setPriorityMap m s) :=
  Calm.trans (setCfg_calm (c := { s.cfg with priorityMap := m }) ⟨rfl, rfl, rfl⟩) (setAnu_calm rfl rfl)

theorem setRestingPage_calm (page : Option (Fin 64)) (s : State) : Calm s (setRestingPage page s) := by
  have hset : Calm s (s.setCfg { s.cfg with restingPage := page }) := setCfg_calm ⟨rfl, rfl, rfl⟩
  exact .ite (hset.trans (renderLine_calm _)) hset

theorem stopShown_calm (s : State) : Calm s (stopShown s) := setAnu_calm rfl rfl

theorem dwellElapsed_calm (sh : Shown) (s : State) : Calm s (dwellElapsed sh s) :=
  (decideLine_calm _).after (setAnu_calm rfl rfl)

theorem showTimeExpired_calm (sh : Shown) (s : State) : Calm s (showTimeExpired sh s) :=
  (stopShown_calm s).trans ((endEntry_calm _ _ _).trans (decideAfterEnd_calm _))

theorem showHead_calm (s : State) : Calm s (showHead s) :=
  .of_frame (SameDrives.of_parts (by simp) (by simp) (by simp)).kept (by simp) (by simp)

theorem gainArrival_calm (s : State) : Calm s (gainArrival s) :=
  .of_frame (SameDrives.of_parts (by simp) (by simp) (by simp)).kept (by simp) (by simp)

theorem rotate_calm (s : State) : Calm s (rotate s) := by
  unfold rotate
  dsimp only
  split
  · exact gainArrival_calm s
  · exact (gainArrival_calm s).trans ((stopShown_calm _).trans ((showHead_calm _).after (setAnu_calm rfl rfl)))

theorem rotationExpired_calm (sh : Shown) (s : State) : Calm s (rotationExpired sh s) :=
  .ite (rotate_calm s) (setAnu_calm rfl rfl)

theorem completeTransfer_calm (x : Transfer) (s : State) : Calm s (completeTransfer x s) := by
  have hdone : Calm s (s.setAnu { s.anu with lastSent := x.content, transfer := none, owed := false }) := setAnu_calm rfl rfl
  exact .ite (hdone.trans (renderLine_calm _)) hdone

/-! ### The sources and the scan list -/

theorem refreshExpired_calm (q : Fin 48) (s : State) : Calm s (refreshExpired q s) := .of_same (by simp)

theorem configureEntry_calm (q : Fin 48) (new : QSource) (s : State) : Calm s (configureEntry q new s) :=
  (setEntry_calm _ q _).after (setCfg_calm ⟨rfl, rfl, rfl⟩)

theorem configureScan_calm (c : ScanSettings) (s : State) : Calm s (configureScan c s) :=
  .of_settings ⟨rfl, rfl, rfl⟩ ⟨rfl, rfl, rfl, rfl, rfl⟩

/-! ### The gauges -/

theorem setGauge_alike (s : State) (g : Fin 6) (r : Gauge) : Alike s (s.setGauge g r) := .of_same (by simp)

theorem setGauge_calm {s : State} {g : Fin 6} {r : Gauge} (h : r.state = (s.gauge g).state) : Calm s (s.setGauge g r) where
  toAlike := setGauge_alike s g r
  gauges x := by
    by_cases hx : x = g
    · simp [hx, h]
    · simp [hx]

theorem configureGauge_calm (g : Fin 6) (c : GaugeSettings) (s : State) : Calm s (configureGauge g c s) := by
  refine (setGauge_calm ?_).after (setCfg_calm ⟨rfl, rfl, rfl⟩)
  simp only [Gauge.giveProfile, Gauge.rehistory]
  (repeat' split) <;> rfl

/-! ### Time, the store and the link -/

theorem reach_calm (s : State) (due : Nat) : Calm s (s.reach due) := .of_same ⟨rfl, rfl, rfl, rfl, rfl, rfl⟩

theorem endSave_calm (written : Settings) (outcome : SaveOutcome) (s : State) : Calm s (endSave written outcome s) :=
  .of_same (by simp)

theorem beginLinkLost_calm (s : State) : Calm s (beginLinkLost s) :=
  Calm.trans (.of_same (by simp))
    ((hostLevelsOff_calm _).trans (forEach_calm (fun h t => withdraw_calm (.host h) t) _))

theorem goodFrame_calm (s : State) : Calm s (goodFrame s) := .of_same (by simp)

theorem beginReply_calm (tag kind : Byte) (status : Status) (body : List Byte) (s : State) :
    Calm s (beginReply tag kind status body s) := .of_same (by simp)

end Sys2Proof.Machine
end

section
/-! PROOFS. What keeps the timers and the lamp drives without being calm: the changes of power state, the orders to the
gauges, the evaluation and the resets (O59). -/
namespace Sys2Proof.Machine

/-! ### The property, and what a change has to do -/

/-- No more values are held as read than the criterion under evaluation has terms (R76). -/
def State.readFits (s : State) : Prop :=
  ∀ p, s.weu.pass = some p → p.replaced = false → p.read.length ≤ (s.cfg.criteria.get p.criterion).flatten.length

/-- The timers run in the power states they belong to, whether or not a change of power state is due (R163, R164, R74, R100,
R101, R152). -/
structure State.timersPlaced (s : State) : Prop where
  proof : s.psc.proof ≠ .stopped ↔ s.psc.state = .proving
  hold : s.anu.proofHold = true ↔ s.psc.state = .proving
  eval : s.weu.evalDue.isSome = true ↔ s.psc.state ≠ .sleep
  flash : s.weu.flash.isSome = true ↔ s.psc.state ≠ .sleep
  lamp : s.weu.lampDue.isSome = true ↔ s.psc.state ≠ .sleep
  refresh : s.anu.refreshDue.isSome = true ↔ s.psc.state ≠ .sleep
  read : s.readFits

theorem State.timersKept_iff (s : State) : s.timersKept ↔ s.timersPlaced ∧ s.settled := by
  constructor
  · rintro ⟨hproof, hhold, heval, hflash, hlamp, hrefresh, hread, hsettled⟩
    exact ⟨⟨hproof, hhold, heval, hflash, hlamp, hrefresh, hread⟩, hsettled⟩
  · rintro ⟨⟨hproof, hhold, heval, hflash, hlamp, hrefresh, hread⟩, hsettled⟩
    exact ⟨hproof, hhold, heval, hflash, hlamp, hrefresh, hread, hsettled⟩

/-- A change that leaves the commands that wait, keeps the timers, and keeps the lamp drives. -/
structure Sustains (s t : State) : Prop where
  pending : t.pending = s.pending
  timers : s.timersKept → t.timersKept
  lamps : s.lampsKept → t.lampsKept

section
variable {s t u : State}

theorem Sustains.refl (s : State) : Sustains s s := ⟨rfl, id, id⟩

theorem Sustains.trans (h : Sustains s t) (k : Sustains t u) : Sustains s u :=
  ⟨k.pending.trans h.pending, k.timers ∘ h.timers, k.lamps ∘ h.lamps⟩

/-- The later change first, so that it says which state the earlier one leads to. -/
theorem Sustains.after (k : Sustains t u) (h : Sustains s t) : Sustains s u := h.trans k

theorem Sustains.ite {c : Prop} [Decidable c] {a b : State} (ha : c → Sustains s a) (hb : ¬ c → Sustains s b) :
    Sustains s (if c then a else b) :=
  iteInduction ha hb

theorem State.readFits.of_same (h : s.readFits) (hpass : t.weu.pass = s.weu.pass)
    (hcriteria : t.cfg.criteria = s.cfg.criteria) : t.readFits := by
  rw [State.readFits, hpass, hcriteria]
  exact h

theorem Alike.placed (h : Alike s t) (k : s.timersPlaced) : t.timersPlaced := by
  obtain ⟨hhold, hrefresh, heval, hflash, hlamp, hpass⟩ := State.timing_eq_iff.mp h.timing
  refine ⟨?_, ?_, ?_, ?_, ?_, ?_, k.read.of_same hpass h.criteria⟩ <;> rw [h.state]
  · rw [h.proof]
    exact k.proof
  · rw [hhold]
    exact k.hold
  · rw [heval]
    exact k.eval
  · rw [hflash]
    exact k.flash
  · rw [hlamp]
    exact k.lamp
  · rw [hrefresh]
    exact k.refresh

/-- No change of power state is due while the gauges' states, the power state and the proof timer stay. -/
theorem Calm.settled (h : Calm s t) (k : s.settled) : t.settled := by
  simp only [State.settled, h.state, h.proof, gaugesReady_congr s t h.gauges, gaugesParked_congr s t h.gauges]
  exact k

theorem Calm.sustains (h : Calm s t) : Sustains s t where
  pending := h.pending
  timers k := by
    rw [State.timersKept_iff] at k ⊢
    exact ⟨h.placed k.1, h.settled k.2⟩
  lamps := h.lamps

/-- A change of the evaluation and the criteria that leaves the flash clock, the lamp sample, the warnings and the lamps. -/
theorem Sustains.of_evaluation (hread : s.readFits → t.readFits)
    (heval : s.timersPlaced → t.weu.evalDue.isSome = s.weu.evalDue.isSome)
    (hweu : t.weu.flash = s.weu.flash ∧ t.weu.lampDue = s.weu.lampDue ∧ t.weu.warnings = s.weu.warnings ∧
      t.weu.lamps = s.weu.lamps) (hcfg : t.cfg.lamps = s.cfg.lamps ∧ t.cfg.warnings = s.cfg.warnings)
    (h : t.pending = s.pending ∧ t.psc = s.psc ∧ t.anu = s.anu ∧ t.gdu = s.gdu) : Sustains s t where
  pending := h.1
  timers k := by
    obtain ⟨hflash, hlampDue, -⟩ := hweu
    obtain ⟨-, hpsc, hanu, hgdu⟩ := h
    rw [State.timersKept_iff] at k ⊢
    obtain ⟨hplaced, hsettled⟩ := k
    refine ⟨⟨?_, ?_, ?_, ?_, ?_, ?_, hread hplaced.read⟩, settled_congr s t hsettled (fun g => by
      rw [State.gauge_of s t hgdu]) hpsc⟩ <;> rw [hpsc]
    · exact hplaced.proof
    · rw [hanu]
      exact hplaced.hold
    · rw [heval hplaced]
      exact hplaced.eval
    · rw [hflash]
      exact hplaced.flash
    · rw [hlampDue]
      exact hplaced.lamp
    · rw [hanu]
      exact hplaced.refresh
  lamps := by
    obtain ⟨-, hpsc, -⟩ := h
    obtain ⟨-, -, hwarnings, hlamps⟩ := hweu
    obtain ⟨hcfgLamps, hcfgWarnings⟩ := hcfg
    have hdrives : SameDrives s t :=
      ⟨by rw [hpsc], hcfgLamps, hcfgWarnings, fun w => by simp [State.warning, hwarnings], hlamps⟩
    exact hdrives.kept

end

/-! ### RUN and PARKING -/

section
variable {s t : State}

/-- The timers between RUN and PARKING, and at the end of PROVING: the proof timer and the proof hold are off, and the rest
goes on (R164, R166, R167). -/
theorem State.timersPlaced.goOn (h : s.timersPlaced) (hawake : s.psc.state ≠ .sleep)
    (hstate : t.psc.state = .run ∨ t.psc.state = .parking) (hproof : t.psc.proof = .stopped)
    (htiming : t.timing = (false, s.timing.2)) (hcriteria : t.cfg.criteria = s.cfg.criteria) : t.timersPlaced := by
  simp only [State.timing, Prod.mk.injEq] at htiming
  obtain ⟨hhold, hrefresh, heval, hflash, hlamp, hpass⟩ := htiming
  have hsleep : t.psc.state ≠ .sleep := by rcases hstate with h | h <;> simp [h]
  have hproving : t.psc.state ≠ .proving := by rcases hstate with h | h <;> simp [h]
  exact ⟨by simp [hproof, hproving], by simp [hhold, hproving], by simp [heval, h.eval, hawake, hsleep],
    by simp [hflash, h.flash, hawake, hsleep], by simp [hlamp, h.lamp, hawake, hsleep],
    by simp [hrefresh, h.refresh, hawake, hsleep], h.read.of_same hpass hcriteria⟩

/-- R100's table does not tell RUN from PARKING. -/
theorem lampsKept_betweenRunAndParking (h : s.lampsKept) (hs : s.psc.state = .run ∨ s.psc.state = .parking)
    (ht : t.psc.state = .run ∨ t.psc.state = .parking) (hcfg : t.cfg = s.cfg) (hweu : t.weu = s.weu) : t.lampsKept := by
  intro l
  have hdrive : t.driveOf l = s.driveOf l := by
    have hcontributes : t.contributes l = s.contributes l := by
      funext w
      simp only [State.contributes, State.warning, hcfg, hweu]
    have hflashes : t.flashes l = s.flashes l := by
      funext w
      have hwarning : t.warning w = s.warning w := by simp only [State.warning, hweu]
      rw [State.flashes, hcontributes, hwarning, hcfg, State.flashes]
    have hrule : t.ruleDrive l = s.ruleDrive l := by
      rw [State.ruleDrive, hcontributes, hflashes, State.ruleDrive]
    rcases hs with hs | hs <;> rcases ht with ht | ht <;> simp [State.driveOf, State.lamp, hs, ht, hcfg, hweu, hrule]
  rw [hdrive, ← h l, State.lamp_of s t hweu]

end

theorem finishProof_timing (s : State) : (finishProof s).timing = (false, s.timing.2) := by
  have hrun : (finishProof s).timing = State.timing ((handPowerState PowerState.proving.number .proofDone
      (s.setPower .run .stopped)).setAnu { s.anu with proofHold := false }) :=
    State.timing_of_steady (by simp [finishProof, lineAtRun, State.setPower])
  rw [hrun]
  simp [State.timing, State.setPower]

/-- Completing the proof puts the timers where RUN wants them (R164). -/
theorem finishProof_kept {s : State} (h : s.timersPlaced) (hproving : s.psc.state = .proving) :
    (finishProof s).timersKept := by
  rw [State.timersKept_iff]
  refine ⟨h.goOn (by simp [hproving]) (.inl (finishProof_state s)) ?_ (finishProof_timing s) (by simp), ?_⟩
  · simp [finishProof, State.setPower]
  · simp [State.settled]

/-! ### SLEEP -/

/-- Every timer of O59 is off, and no pass is under way. -/
theorem State.timersKept_asleep {s : State} (hstate : s.psc.state = .sleep) (hproof : s.psc.proof = .stopped)
    (htiming : s.timing = (false, false, false, false, false, none)) : s.timersKept := by
  simp only [State.timing, Prod.mk.injEq] at htiming
  obtain ⟨hhold, hrefresh, heval, hflash, hlamp, hpass⟩ := htiming
  simp [State.timersKept, State.settled, hstate, hproof, hhold, hrefresh, heval, hflash, hlamp, hpass]

theorem lineAtSleep_timing (s : State) : (lineAtSleep s).timing = (s.anu.proofHold, false, s.timing.2.2) := by
  have htold : (s.anu.entries.foldl (fun t e => tellLink e t) s).timing = s.timing :=
    State.timing_of_steady (foldl_same State.steady _ (fun t e => tellLink_steady e t) _ s)
  rw [State.timing_eq_iff] at htold
  rw [lineAtSleep, State.timing_of_steady (renderLine_steady _)]
  simp [State.timing, htold]

/-- The part at the entry to SLEEP when only the line, the slots and the link are left (R168). -/
def blocksAsleep (s : State) : State :=
  warningsAtSleep (gaugesAtSleep (scanAtSleep
    (handPowerState PowerState.parking.number .gaugesParked (s.setPower .sleep .stopped))))

theorem enterSleep_drives (s : State) : SameDrives (blocksAsleep s) (enterSleep s) :=
  .of_parts (by simp [enterSleep, blocksAsleep, judgeAttention]) (by simp [blocksAsleep])
    (by simp [enterSleep, blocksAsleep, judgeAttention])

theorem enterSleep_lampsKept (s : State) : (enterSleep s).lampsKept := (enterSleep_drives s).kept (judgeLamps_kept _)

theorem blocksAsleep_timing (s : State) : (blocksAsleep s).timing =
    (s.anu.proofHold, s.anu.refreshDue.isSome, false, false, false, none) := by
  simp [State.timing, blocksAsleep, warningsAtSleep, hostLevelsOff, judgeLamps]

theorem enterSleep_timing (s : State) : (enterSleep s).timing = (s.anu.proofHold, false, false, false, false, none) := by
  calc (enterSleep s).timing
    _ = (lineAtSleep (blocksAsleep s)).timing :=
      State.timing_of_units (by simp [enterSleep, blocksAsleep, judgeAttention])
        (by simp [enterSleep, blocksAsleep, judgeAttention])
    _ = (s.anu.proofHold, false, false, false, false, none) := by
      simp only [lineAtSleep_timing, blocksAsleep_timing]
      simp [blocksAsleep]

theorem enterSleep_kept {s : State} (h : s.timersPlaced) (hparking : s.psc.state = .parking) : (enterSleep s).timersKept := by
  have hhold : s.anu.proofHold = false := by
    simpa [hparking] using h.hold
  exact State.timersKept_asleep (enterSleep_state s) (by simp [enterSleep, State.setPower, judgeAttention])
    (by rw [enterSleep_timing, hhold])

/-! ### The judgement -/

/-- The judgement completes the proof, goes on to SLEEP, or finds no change due (R61). -/
theorem judgePower_cases (s : State) :
    judgePower s = finishProof s ∧ s.psc.state = .proving ∨ judgePower s = enterSleep s ∧ s.psc.state = .parking ∨
      judgePower s = s ∧ s.settled := by
  cases hstate : s.psc.state with
  | sleep | run => exact .inr (.inr ⟨by simp [judgePower, hstate], by simp [State.settled, hstate]⟩)
  | proving =>
    rw [judgePower_proving hstate]
    split
    · exact .inl ⟨rfl, rfl⟩
    · next h => exact .inr (.inr ⟨rfl, by simpa [State.settled, hstate] using h⟩)
  | parking =>
    rw [judgePower_parking hstate]
    split
    · exact .inr (.inl ⟨rfl, rfl⟩)
    · next h => exact .inr (.inr ⟨rfl, by simpa [State.settled, hstate] using h⟩)

theorem judgePower_kept {s : State} (h : s.timersPlaced) : (judgePower s).timersKept := by
  rcases judgePower_cases s with ⟨heq, hstate⟩ | ⟨heq, hstate⟩ | ⟨heq, hsettled⟩ <;> rw [heq]
  · exact finishProof_kept h hstate
  · exact enterSleep_kept h hstate
  · exact (State.timersKept_iff s).mpr ⟨h, hsettled⟩

theorem judgePower_lampsKept {s : State} (h : s.lampsKept) : (judgePower s).lampsKept := by
  rcases judgePower_cases s with ⟨heq, -⟩ | ⟨heq, -⟩ | ⟨heq, -⟩ <;> rw [heq]
  · exact judgeLamps_kept _
  · exact enterSleep_lampsKept s
  · exact h

/-- A change that may leave a change of power state due, with the judgement behind it (R61). -/
theorem Alike.sustains_judged {s t : State} (h : Alike s t) : Sustains s (judgePower t) where
  pending := by simpa using h.pending
  timers k := judgePower_kept (h.placed ((State.timersKept_iff s).mp k).1)
  lamps k := judgePower_lampsKept (h.lamps k)

end Sys2Proof.Machine
end

section
/-! PROOFS. The changes of power state, the orders to the gauges, the evaluation and the resets keep the timers and the lamp
drives (O59). -/
namespace Sys2Proof.Machine

/-! ### The entries to PROVING, PARKING and RUN -/

section
variable (old : Nat) (cause : PowerCause) (s : State)

theorem reofferWarning_calm (w : Fin 48) (s : State) : Calm s (reofferWarning w s) :=
  .of_frame (reofferWarning_drives w s).kept (by simp) (by
    unfold reofferWarning
    split <;> simp)

theorem provingOffers_calm (s : State) : Calm s (provingOffers s) :=
  (forEach_calm reofferWarning_calm s).trans (forEach_calm reofferSlot_calm _)

theorem beforeOffers_pass : (beforeOffers old cause s).weu.pass = s.weu.pass := by
  simp [beforeOffers, startEvaluation, judgeLamps, beforeOrders_frame]

/-- The entry to PROVING leaves the pass as it was, which in SLEEP is none (R74, R163). -/
theorem enterProving_pass : (enterProving old cause s).weu.pass = s.weu.pass := by
  have hoffers := (State.timing_eq_iff.mp (provingOffers_calm (beforeOffers old cause s)).timing).2.2.2.2.2
  rw [enterProving_stages, (settleLink_frame _).2.2.2.2.1, hoffers, beforeOffers_pass]

theorem enterProving_lampsKept : (enterProving old cause s).lampsKept := by
  have hoffers : (provingOffers (beforeOffers old cause s)).lampsKept := (provingOffers_drives _).kept (judgeLamps_kept _)
  rw [enterProving_stages]
  exact (SameDrives.of_parts (by simp [settleLink_frame]) (by simp [settleLink_frame]) (by simp [settleLink_frame])).kept
    hoffers

theorem enterProving_kept (h : s.readFits) : (enterProving old cause s).timersKept := by
  obtain ⟨hhold, hrefresh, -⟩ := enterProving_anu old cause s
  obtain ⟨heval, hflash, hlamp⟩ := enterProving_timers old cause s
  have hpsc := enterProving_psc old cause s
  rw [State.timersKept_iff]
  refine ⟨⟨?_, ?_, ?_, ?_, ?_, ?_, h.of_same (enterProving_pass old cause s) (by simp)⟩, ?_⟩
  · simp [hpsc]
  · simp [hpsc, hhold]
  · simp [hpsc, heval]
  · simp [hpsc, hflash]
  · simp [hpsc, hlamp]
  · simp [hpsc, hrefresh]
  · simp [State.settled, hpsc]

theorem enterProving_sustains : Sustains s (enterProving old cause s) where
  pending := by simp
  timers h := enterProving_kept old cause s ((State.timersKept_iff s).mp h).1.read
  lamps _ := enterProving_lampsKept old cause s

/-- The order to park every gauge, before the judgement (R166). -/
theorem enterParkingState_sustains (hrun : s.psc.state = .run) : Sustains s (enterParkingState s) := by
  have hparking (u : State) (hu : u = forEach orderPark
      (handPowerState PowerState.run.number .sleepRequest (s.setPower .parking .stopped))) :
      u.psc.state = .parking ∧ u.psc.proof = .stopped ∧ u.cfg = s.cfg ∧ u.weu = s.weu ∧ u.anu = s.anu := by
    simp [hu, State.setPower]
  obtain ⟨hstate, hproof, hcfg, hweu, hanu⟩ := hparking _ rfl
  refine ⟨by simp, fun k => ?_, fun k => ?_⟩
  · have hplaced := ((State.timersKept_iff s).mp k).1
    have hhold : s.anu.proofHold = false := by
      simpa [hrun] using hplaced.hold
    refine judgePower_kept (hplaced.goOn (by simp [hrun]) (.inr hstate) hproof ?_ (by rw [hcfg]))
    rw [State.timing_of_units hanu hweu, State.timing, hhold]
  · exact judgePower_lampsKept (lampsKept_betweenRunAndParking k (.inl hrun) (.inr hstate) hcfg hweu)

theorem returnToRun_sustains (hparking : s.psc.state = .parking) : Sustains s (returnToRun cause s) := by
  have hstate : (returnToRun cause s).psc.state = .run := by simp [returnToRun, State.setPower]
  refine ⟨by simp, fun k => ?_, fun k => ?_⟩
  · have hplaced := ((State.timersKept_iff s).mp k).1
    have hhold : s.anu.proofHold = false := by
      simpa [hparking] using hplaced.hold
    refine (State.timersKept_iff _).mpr ⟨hplaced.goOn (by simp [hparking]) (.inl hstate)
      (by simp [returnToRun, State.setPower]) ?_ (by simp), by simp [State.settled, hstate]⟩
    rw [State.timing_of_units (s := s) (by simp) (by simp), State.timing, hhold]
  · exact lampsKept_betweenRunAndParking k (.inr hparking) (.inl hstate) (by simp) (by simp)

end

theorem drivingNotice_sustains (a : Activity) (s : State) : Sustains s (drivingNotice a s) :=
  .ite (fun h => returnToRun_sustains .driving s h.2) (fun _ => .refl s)

theorem keyOnEdge_sustains (s : State) : Sustains s (keyOnEdge s) := by
  unfold keyOnEdge
  split
  · exact enterProving_sustains _ .keyOn s
  · next h => exact returnToRun_sustains .keyOn s h
  all_goals exact .refl s

theorem setPsc_calm {s : State} {p : Power} (hstate : p.state = s.psc.state) (hproof : p.proof = s.psc.proof) :
    Calm s (s.setPsc p) where
  pending := rfl
  state := hstate
  proof := hproof
  criteria := rfl
  timing := rfl
  lamps := SameDrives.kept (s := s) (t := s.setPsc p) ⟨hstate, rfl, rfl, fun _ => ⟨rfl, rfl⟩, rfl⟩
  gauges _ := rfl

theorem sampleKey_sustains (level : Bool) (due : Nat) (s : State) : Sustains s (sampleKey level due s) :=
  have hkey (p : Power) (hstate : p.state = s.psc.state) (hproof : p.proof = s.psc.proof) : Sustains s (s.setPsc p) :=
    (setPsc_calm hstate hproof).sustains
  .ite (fun _ => .ite (fun _ => (keyOnEdge_sustains _).after (hkey _ rfl rfl)) (fun _ => hkey _ rfl rfl))
    (fun _ => hkey _ rfl rfl)

/-- The proof timer runs out, and the proof completes or waits for the gauges (R164). -/
theorem proofExpired_sustains {s : State} {due : Nat} (h : s.psc.proof = .running due) :
    Sustains s (judgePower (s.setPsc { s.psc with proof := .expired })) where
  pending := by simp
  timers k := by
    have hplaced := ((State.timersKept_iff s).mp k).1
    have hproving : s.psc.state = .proving := by
      rw [← hplaced.proof, h]
      simp
    exact judgePower_kept ⟨by simp [hproving], hplaced.hold, hplaced.eval, hplaced.flash, hplaced.lamp, hplaced.refresh,
      hplaced.read⟩
  lamps k := by
    have hdrives : SameDrives s (s.setPsc { s.psc with proof := .expired }) :=
      ⟨rfl, rfl, rfl, fun _ => ⟨rfl, rfl⟩, rfl⟩
    exact judgePower_lampsKept (hdrives.kept k)

/-! ### The gauges -/

theorem judgePower_sustains (s : State) : Sustains s (judgePower s) :=
  Alike.sustains_judged (.of_same ⟨rfl, rfl, rfl, rfl, rfl⟩)

/-- A release leaves a gauge in HOMING or SWEEPING there (R56). -/
theorem releasedByHost_unready {r : Gauge} (h : r.state ∈ [GaugeState.homing, .sweeping]) :
    r.releasedByHost.state ∈ [GaugeState.homing, .sweeping] := by
  obtain ⟨-, hunmarked, -⟩ := releasedByHost_cases r
  rw [hunmarked h]
  exact h

/-- Outside PARKING a release makes no change of power state due (R56, R61). -/
theorem released_sustains (g : Fin 6) (s : State) (h : s.psc.state ≠ .parking) :
    Sustains s (s.setGauge g (s.gauge g).releasedByHost) where
  pending := rfl
  timers k := by
    rw [State.timersKept_iff] at k ⊢
    exact ⟨(setGauge_alike s g _).placed k.1,
      settled_setGauge k.2 (fun _ => releasedByHost_unready) (fun hparking => absurd hparking h)⟩
  lamps := (setGauge_alike s g _).lamps

theorem homeGauge_sustains (g : Fin 6) (s : State) : Sustains s (homeGauge g s) :=
  Alike.sustains_judged (.of_same (by simp))

theorem parkGauge_sustains (g : Fin 6) (s : State) : Sustains s (parkGauge g s).state := by
  unfold parkGauge
  split
  · exact .refl s
  · split
    · exact .refl s
    · exact Alike.sustains_judged (.of_same (by simp))

theorem positionGauge_sustains (g : Fin 6) (p : Nat) (s : State) : Sustains s (positionGauge g p s) :=
  (setGauge_alike s g _).sustains_judged

/-! ### The evaluation -/

theorem readOn_fits (s : State) (c : Criterion) {read : List Nat} (n : Nat) (h : read.length ≤ c.flatten.length) :
    (s.readOn c read n).length ≤ c.flatten.length := by
  simp only [State.readOn, List.length_append, List.length_map, List.length_take, List.length_drop]
  omega

/-- No pass holds more values than its criterion has terms where none holds any. -/
theorem State.readFits_of_unread {s : State} (h : ∀ p, s.weu.pass = some p → p.read = []) : s.readFits :=
  fun p hp _ => by simp [h p hp]

theorem State.idle_sustains (s : State) : Sustains s s.idle := by
  unfold State.idle
  dsimp only
  split
  · exact Calm.sustains (.of_same ⟨rfl, rfl, rfl, rfl, rfl, rfl⟩)
  · next p hp =>
    refine .of_evaluation (fun h p' hp' hreplaced => ?_) (fun _ => rfl) ⟨rfl, rfl, rfl, rfl⟩ ⟨rfl, rfl⟩ ⟨rfl, rfl, rfl, rfl⟩
    obtain rfl : s.readSome p = p' := Option.some.inj hp'
    exact readOn_fits s _ _ (h p hp hreplaced)

theorem startPass_sustains (due : Nat) (s : State) (h : s.weu.evalDue.isSome = true) : Sustains s (startPass due s) :=
  .of_evaluation (fun _ => State.readFits_of_unread fun p hp => by
      obtain rfl := Option.some.inj hp
      rfl)
    (fun _ => h.symm) ⟨rfl, rfl, rfl, rfl⟩ ⟨rfl, rfl⟩ ⟨rfl, rfl, rfl, rfl⟩

theorem Pass.next_unread {p q : Pass} {now : Nat} (h : p.next now = some q) : q.read = [] := by
  unfold Pass.next at h
  split at h
  · obtain rfl := Option.some.inj h
    rfl
  · cases h

theorem endCriterion_sustains (p : Pass) (s : State) : Sustains s (endCriterion p s) := by
  have hnext : Sustains s (s.setWeu { s.weu with pass := p.next s.now }) :=
    .of_evaluation (fun _ => State.readFits_of_unread fun _ hq => Pass.next_unread hq) (fun _ => rfl)
      ⟨rfl, rfl, rfl, rfl⟩ ⟨rfl, rfl⟩ ⟨rfl, rfl, rfl, rfl⟩
  have hstored : ∀ r : Strength, Sustains s ((s.setWeu { s.weu with pass := p.next s.now }).setStrength p.criterion r) :=
    fun r => .of_evaluation (fun _ => State.readFits_of_unread fun _ hq => Pass.next_unread hq) (fun _ => rfl)
      ⟨rfl, rfl, rfl, rfl⟩ ⟨rfl, rfl⟩ ⟨rfl, rfl, rfl, rfl⟩
  unfold endCriterion
  dsimp only
  split
  · exact hnext
  · exact (hstored _).trans (actOnStrength_calm _ _ _).sustains

theorem setEvalInterval_sustains (interval : Nat) (s : State) (h : s.psc.state ≠ .sleep) :
    Sustains s (setEvalInterval interval s) :=
  .of_evaluation (fun k => k.of_same rfl rfl) (fun k => (k.eval.mpr h).symm) ⟨rfl, rfl, rfl, rfl⟩ ⟨rfl, rfl⟩ ⟨rfl, rfl, rfl, rfl⟩

/-- A criterion replaced while it is under evaluation is marked, so that the values read of the old one no longer count
(R80). -/
theorem replacedCriterion_readFits {s : State} (w : Fin 48) (c : Criterion) (r : Strength) (h : s.readFits) :
    State.readFits (((s.setCfg { s.cfg with criteria := s.cfg.criteria.set w c }).setStrength w r).setWeu
      { ((s.setCfg { s.cfg with criteria := s.cfg.criteria.set w c }).setStrength w r).weu with
        pass := s.weu.pass.map fun p => p.replace w }) := by
  intro q hq hreplaced
  obtain ⟨p, hp, rfl⟩ := Option.map_eq_some_iff.mp hq
  unfold Pass.replace at hreplaced ⊢
  split at hreplaced
  · cases hreplaced
  · next hne =>
    rw [if_neg hne]
    simpa [Table.get_set_ne, hne] using h p hp hreplaced

theorem configureCriterion_sustains (w : Fin 48) (c : Criterion) (s : State) : Sustains s (configureCriterion w c s) :=
  (putOff_calm w s).sustains.trans (.of_evaluation (replacedCriterion_readFits w c .notEvaluated) (fun _ => rfl)
    ⟨rfl, rfl, rfl, rfl⟩ ⟨rfl, rfl⟩ ⟨rfl, rfl, rfl, rfl⟩)

/-! ### Resets -/

/-- Every block in its reset state: SLEEP, every timer off, every lamp dark (R161, R77, R99, R158). -/
theorem resetBlocks_sustains (c : Settings) (store : Store) (duty : Duty) (sampleDue keyDue : Nat) (keyOn : Bool)
    (s : State) : Sustains s (resetBlocks c store duty sampleDue keyDue keyOn s) where
  pending := rfl
  timers _ := State.timersKept_asleep rfl rfl rfl
  lamps _ l := by
    simp [resetBlocks, State.lamp, Evaluation.afterReset, Lamp.afterReset, State.driveOf, Power.afterReset]

theorem choosePower_sustains (cause : PowerCause) (s : State) : Sustains s (choosePower cause s) :=
  .ite (fun _ => enterProving_sustains _ cause s) (fun _ => Calm.sustains (.of_same (by simp)))


theorem powerOn_sustains (keyOn : Bool) (s : State) : Sustains s (powerOn keyOn s) :=
  (resetBlocks_sustains _ _ _ _ _ keyOn s).trans (choosePower_sustains .powerOn _)

theorem writeDerivedIfPresent_calm (i : Fin 2) (s : State) : Calm s (writeDerivedIfPresent i s) :=
  .ite (writeDerived_calm i s) (.refl s)

theorem linkReset_sustains (keyOn : Bool) (s : State) : Sustains s (linkReset keyOn s) :=
  (resetBlocks_sustains _ _ _ _ _ keyOn s).trans
    (((writeDerivedIfPresent_calm 0 _).trans (writeDerivedIfPresent_calm 1 _)).sustains.trans
      (choosePower_sustains .linkReset _))

theorem replySent_sustains (keyOn : Bool) (r : Reply) (s : State) : Sustains s (replySent keyOn r s) :=
  .ite (fun _ => linkReset_sustains keyOn s) (fun _ => Calm.sustains (.of_same ⟨rfl, rfl, rfl, rfl, rfl, rfl⟩))

theorem loseSupply_sustains (s : State) : Sustains s (loseSupply s) :=
  (resetBlocks_sustains .builtIn s.cs.abandoned (.afterPowerOn s.now) (s.now + Config.sampleInterval)
    (s.now + Config.sampleInterval) false s).trans (Calm.sustains (.of_line rfl rfl ⟨rfl, rfl, rfl, rfl, rfl⟩))

end Sys2Proof.Machine
end

section
/-! PROOFS. O59: every request, every event and the passing of time keep the timers and the lamp drives. -/
namespace Sys2Proof.Machine

/-! ### Requests -/

/-- A request keeps the timers and the lamp drives wherever it may be taken: in SLEEP only if SLEEP accepts it (R170). -/
def Request.Sustaining (r : Request) : Prop :=
  ∀ b s, (s.psc.state = .sleep → r.inSleep = true) → Sustains s (r.run b s).state

section
variable {r : Request}

/-- A rule of the request that is calm, whatever it reads. -/
theorem Request.Sustaining.of_calm (h : ∀ b s, Calm s (r.run b s).state) : r.Sustaining := fun b s _ => (h b s).sustains

theorem Request.Sustaining.of_reading {α : Type} {read : List Byte → State → Option α}
    {act : List Byte → State → α → Answer}
    (hrun : ∀ b s, r.run b s = reading (read b s) (act b s) s)
    (hact : ∀ b s x, Sustains s (act b s x).state) : r.Sustaining := fun b s _ => by
  rw [hrun]
  exact reading_keeps (Sustains s) _ _ s (.refl s) fun x _ => hact b s x

theorem Request.Sustaining.of_configuring {α : Type} {read : List Byte → State → Option α}
    {act : List Byte → State → α → Answer} (hrun : ∀ b s, r.run b s = configuring (read b s) (act b s) s)
    (hact : ∀ b s x, Sustains s (act b s x).state) : r.Sustaining := fun b s _ => by
  rw [hrun]
  exact configuring_keeps (Sustains s) _ _ s (.refl s) fun x _ => hact b s x

theorem Request.judge_sustains (h : r.Sustaining) (body : List Byte) (s : State) : Sustains s (r.judge body s).state := by
  unfold Request.judge
  split
  · exact .refl s
  · split
    · exact .refl s
    · next hsleep => exact h body s (by simpa using hsleep)

theorem Request.take_sustains (h : r.Sustaining) (tag : Byte) (body : List Byte) (s : State) :
    Sustains s (r.take tag body s) := by
  have hgood := (goodFrame_calm s).sustains
  unfold Request.take
  dsimp only
  split
  · exact hgood.trans (hand_calm _ _ _ _).sustains
  · exact (beginReply_calm _ _ _ _ _).sustains.after (hgood.trans (Request.judge_sustains h body _))

end

/-- A change of settings that neither the drives nor the evaluation read. -/
theorem settings_sustain {s t : State} (hcfg : t.cfg.criteria = s.cfg.criteria ∧ t.cfg.lamps = s.cfg.lamps ∧
      t.cfg.warnings = s.cfg.warnings)
    (h : t.pending = s.pending ∧ t.psc = s.psc ∧ t.gdu = s.gdu ∧ t.weu = s.weu ∧ t.anu = s.anu) : Sustains s t :=
  (Calm.of_settings hcfg h).sustains

theorem linkRequests_sustain : ∀ r ∈ [fetchReportsRequest, statusRequest, identifyRequest, setRouteRequest,
    configureLinkRequest, resetRequest], r.Sustaining := by
  simp only [List.forall_mem_cons, List.not_mem_nil, false_imp_iff, implies_true, and_true]
  exact ⟨.of_reading (fun _ _ => rfl) fun b s n => settings_sustain ⟨rfl, rfl, rfl⟩ ⟨rfl, rfl, rfl, rfl, rfl⟩,
    fun _ s _ => .refl s, fun _ s _ => .refl s,
    .of_configuring (fun _ _ => rfl) fun b s x => settings_sustain ⟨rfl, rfl, rfl⟩ ⟨rfl, rfl, rfl, rfl, rfl⟩,
    .of_configuring (fun _ _ => rfl) fun b s c => settings_sustain ⟨rfl, rfl, rfl⟩ ⟨rfl, rfl, rfl, rfl, rfl⟩,
    fun _ s _ => .refl s⟩

theorem powerRequests_sustain : ∀ r ∈ [sleepRequest, wakeRequest, configurePowerRequest], r.Sustaining := by
  simp only [List.forall_mem_cons, List.not_mem_nil, false_imp_iff, implies_true, and_true]
  refine ⟨fun b s _ => ?_, fun b s _ => ?_,
    .of_configuring (fun _ _ => rfl) fun b s c => settings_sustain ⟨rfl, rfl, rfl⟩ ⟨rfl, rfl, rfl, rfl, rfl⟩⟩
  · simp only [sleepRequest]
    split
    · exact .refl s
    · exact .refl s
    · next hrun =>
      split
      · exact .refl s
      · rw [Answer.ok_state]
        exact enterParkingState_sustains s hrun
    · exact .refl s
  · simp only [wakeRequest]
    split
    · exact enterProving_sustains _ .wake s
    · next hparking => exact returnToRun_sustains .wake s hparking
    all_goals exact .refl s

theorem storeRequests_sustain : ∀ r ∈ [saveConfigurationRequest, lockCalibrationRequest, readConfigurationRequest],
    r.Sustaining := by
  simp only [List.forall_mem_cons, List.not_mem_nil, false_imp_iff, implies_true, and_true]
  refine ⟨.of_calm fun b s => ?_, .of_calm fun b s => ?_, .of_reading (fun _ _ => rfl) fun b s x => .refl s⟩
  · simp only [saveConfigurationRequest]
    split
    · exact .refl s
    · exact .of_settings ⟨rfl, rfl, rfl⟩ ⟨rfl, rfl, rfl, rfl, rfl⟩
  · simp only [lockCalibrationRequest]
    (repeat' split)
    · exact .refl s
    · exact .refl s
    · exact .of_same (by simp)

theorem quantityRequests_sustain : ∀ r ∈ [configureQuantityRequest, setQuantitiesRequest, readQuantitiesRequest],
    r.Sustaining := by
  simp only [List.forall_mem_cons, List.not_mem_nil, false_imp_iff, implies_true, and_true]
  refine ⟨.of_configuring (fun _ _ => rfl) fun b s x => ?_, .of_calm applyPairs_calm,
    .of_reading (fun _ _ => rfl) fun b s x => .refl s⟩
  dsimp only
  split
  · exact .refl s
  · exact (configureEntry_calm x.1 x.2 s).sustains

theorem scanRequests_sustain : ∀ r ∈ [configureScanRequest, scanStartRequest, scanStopRequest, scanOnceRequest,
    readScanRequest], r.Sustaining := by
  simp only [List.forall_mem_cons, List.not_mem_nil, false_imp_iff, implies_true, and_true]
  refine ⟨.of_calm fun b s => ?_, .of_calm fun b s => ?_, .of_calm fun b s => ?_, .of_calm fun b s => ?_,
    fun _ s _ => .refl s⟩
  · simp only [configureScanRequest]
    split
    · exact .refl s
    · split
      · exact .refl s
      · refine reading_keeps (Calm s) _ _ s (.refl s) fun c _ => ?_
        split <;> exact configureScan_calm c s
  · simp only [scanStartRequest]
    (repeat' split)
    · exact .refl s
    · exact .refl s
    · exact .refl s
    · exact .of_same (by simp)
  · simp only [scanStopRequest]
    split
    · exact .refl s
    · exact .of_same (by simp)
  · simp only [scanOnceRequest]
    (repeat' split)
    · exact .refl s
    · exact .of_same (by simp)
    · exact .refl s

theorem gaugeRequests_sustain : ∀ r ∈ [configureGaugeRequest, homeGaugeRequest, parkGaugeRequest, releaseGaugeRequest,
    positionGaugeRequest, readGaugeRequest], r.Sustaining := by
  simp only [List.forall_mem_cons, List.not_mem_nil, false_imp_iff, implies_true, and_true]
  refine ⟨.of_configuring (fun _ _ => rfl) fun b s x => ?_,
    .of_reading (fun _ _ => rfl) fun b s g => homeGauge_sustains g s,
    .of_reading (fun _ _ => rfl) fun b s g => parkGauge_sustains g s, fun b s _ => ?_,
    .of_reading (fun _ _ => rfl) fun b s x => ?_, .of_reading (fun _ _ => rfl) fun b s g => .refl s⟩
  · dsimp only
    split
    · exact .refl s
    · split
      · exact .refl s
      · rw [configuredGauge_state]
        exact (configureGauge_calm x.1 x.2 s).sustains
  · simp only [releaseGaugeRequest]
    split
    · exact .refl s
    · next hparking =>
      refine reading_keeps (Sustains s) _ _ s (.refl s) fun g _ => ?_
      split
      · exact .refl s
      · exact released_sustains g s hparking
  · dsimp only
    split
    · exact .refl s
    · exact positionGauge_sustains x.1 x.2 s

theorem evaluationRequests_sustain : ∀ r ∈ [configureShapeRequest, configureCriterionRequest, configureEvaluationRequest,
    readStrengthRequest], r.Sustaining := by
  simp only [List.forall_mem_cons, List.not_mem_nil, false_imp_iff, implies_true, and_true]
  refine ⟨.of_configuring (fun _ _ => rfl) fun b s x => settings_sustain ⟨rfl, rfl, rfl⟩ ⟨rfl, rfl, rfl, rfl, rfl⟩,
    .of_configuring (fun _ _ => rfl) fun b s x => configureCriterion_sustains x.1 x.2 s, fun b s hawake => ?_,
    .of_reading (fun _ _ => rfl) fun b s w => .refl s⟩
  have hstate : s.psc.state ≠ .sleep := fun hsleep => by cases hawake hsleep
  exact configuring_keeps (Sustains s) _ _ s (.refl s) fun n _ => setEvalInterval_sustains n s hstate

theorem warningRequests_sustain : ∀ r ∈ [configureWarningRequest, acknowledgeWarningRequest, clearWarningRequest,
    suppressWarningRequest, restoreWarningRequest, readWarningRequest, configureLampRequest, configureDimmerRequest,
    setLampsRequest, readLampsRequest], r.Sustaining := by
  simp only [List.forall_mem_cons, List.not_mem_nil, false_imp_iff, implies_true, and_true]
  exact ⟨.of_configuring (fun _ _ => rfl) fun b s x => (reconfigureWarning_calm x.1 x.2 s).sustains,
    .of_reading (fun _ _ => rfl) fun b s w => (acknowledgeByHost_calm w s).sustains,
    .of_reading (fun _ _ => rfl) fun b s w => (clearByHost_calm w s).sustains,
    .of_reading (fun _ _ => rfl) fun b s w => (suppressByHost_calm w s).sustains,
    .of_reading (fun _ _ => rfl) fun b s w => (restoreByHost_calm w s).sustains,
    .of_reading (fun _ _ => rfl) fun b s w => .refl s,
    .of_configuring (fun _ _ => rfl) fun b s x => (configureLamp_calm x.1 x.2 s).sustains,
    .of_configuring (fun _ _ => rfl) fun b s q => settings_sustain ⟨rfl, rfl, rfl⟩ ⟨rfl, rfl, rfl, rfl, rfl⟩,
    .of_calm applyLampPairs_calm, fun _ s _ => .refl s⟩

theorem storeActivity_sustains (i : Fin 2) (a : Activity) (s : State) : Sustains s (storeActivity i a s).state := by
  unfold storeActivity
  split
  · exact (drivingNotice_sustains a _).after (setSlot_calm s i _).sustains
  · exact (drivingNotice_sustains a _).after ((setSlot_calm s i _).trans (hand_calm _ _ _ _)).sustains

theorem dutyRequests_sustain : ∀ r ∈ [configureDutyRequest, stageLimitsRequest, dutyActivityRequest, cardInRequest,
    cardOutRequest, readDutyRequest], r.Sustaining := by
  simp only [List.forall_mem_cons, List.not_mem_nil, false_imp_iff, implies_true, and_true]
  refine ⟨.of_configuring (fun _ _ => rfl) fun b s c => (configureDuty_calm c s).sustains,
    .of_reading (fun _ _ => rfl) fun b s x => (setSlot_calm s x.1 _).sustains,
    .of_reading (fun _ _ => rfl) fun b s x => ?_, .of_reading (fun _ _ => rfl) fun b s x => ?_,
    .of_reading (fun _ _ => rfl) fun b s i => ?_, .of_reading (fun _ _ => rfl) fun b s i => .refl s⟩
  · dsimp only
    (repeat' split)
    · exact .refl s
    · exact .refl s
    · exact storeActivity_sustains x.1 x.2 s
  · dsimp only
    (repeat' split)
    · exact .refl s
    · exact .refl s
    · exact .refl s
    · exact (insertCard_calm x.1 _ x.2 _ s).sustains.trans (drivingNotice_sustains x.2 _)
  · split
    · exact .refl s
    · exact (removeCard_calm i s).sustains

theorem lineRequests_sustain : ∀ r ∈ [configureMessageRequest, configureLineRequest, configureDutyMessagesRequest,
    setPriorityMapRequest, holdRequest, releaseRequest, acknowledgeShownRequest, announceRequest, withdrawRequest,
    setRestingPageRequest, chimeClickRequest, readLineRequest], r.Sustaining := by
  simp only [List.forall_mem_cons, List.not_mem_nil, false_imp_iff, implies_true, and_true]
  refine ⟨.of_configuring (fun _ _ => rfl) fun b s x => Calm.sustains
      ((renderIfOnLine_calm x.1 _).after (setCfg_calm ⟨rfl, rfl, rfl⟩)),
    .of_configuring (fun _ _ => rfl) fun b s c => (configureLine_calm c s).sustains,
    .of_configuring (fun _ _ => rfl) fun b s c => settings_sustain ⟨rfl, rfl, rfl⟩ ⟨rfl, rfl, rfl, rfl, rfl⟩,
    .of_configuring (fun _ _ => rfl) fun b s m => ?_, .of_calm fun b s => setAnu_calm rfl rfl, .of_calm fun b s => ?_,
    .of_calm fun b s => ?_, .of_reading (fun _ _ => rfl) fun b s x => (offer_calm _ s).sustains,
    .of_reading (fun _ _ => rfl) fun b s h => (withdraw_calm _ s).sustains,
    .of_configuring (fun _ _ => rfl) fun b s p => (setRestingPage_calm p s).sustains, .of_calm fun b s => ?_,
    fun _ s _ => .refl s⟩
  · split
    · exact (setPriorityMap_calm m s).sustains
    · exact .refl s
  · simp only [releaseRequest]
    split
    · exact (decideLine_calm _).after (setAnu_calm rfl rfl)
    · exact .refl s
  · simp only [acknowledgeShownRequest]
    split
    · exact .refl s
    · exact acknowledgeShown_calm s
  · simp only [chimeClickRequest]
    split
    · exact setAnu_calm rfl rfl
    · exact .refl s

theorem requests_sustain : ∀ r ∈ requests, r.Sustaining := by
  simp only [requests, List.forall_mem_append]
  exact ⟨⟨⟨⟨⟨⟨⟨⟨⟨linkRequests_sustain, powerRequests_sustain⟩, storeRequests_sustain⟩, quantityRequests_sustain⟩,
    scanRequests_sustain⟩, gaugeRequests_sustain⟩, evaluationRequests_sustain⟩, warningRequests_sustain⟩,
    dutyRequests_sustain⟩, lineRequests_sustain⟩

/-! ### The receiver -/

theorem takeUnknown_calm (tag kind : Byte) (s : State) : Calm s (takeUnknown tag kind s) := by
  have hgood := goodFrame_calm s
  unfold takeUnknown
  dsimp only
  split
  · exact hgood.trans (hand_calm _ _ _ _)
  · exact hgood.trans (beginReply_calm _ _ _ _ _)

theorem takeFrame_sustains (tag kind : Byte) (body : List Byte) (s : State) : Sustains s (takeFrame tag kind body s) := by
  unfold takeFrame
  split
  · next r hr => exact Request.take_sustains (requests_sustain r (List.mem_of_find?_eq_some hr)) tag body s
  · exact (takeUnknown_calm tag kind s).sustains

/-- A byte completes a good frame, or changes the Link Port alone (R173). -/
theorem receiveByte_sustains (b : Byte) (s : State) : Sustains s (receiveByte b s) := by
  have hawait : ∀ phase, Sustains s (awaitByte phase s) := fun phase => Calm.sustains (.of_same (by simp))
  unfold receiveByte gatherByte judgeFrame
  dsimp only
  split
  · exact .ite (fun _ => hawait _) (fun _ => .refl s)
  · exact .ite (fun _ => Calm.sustains (.of_same (by simp))) (fun _ => hawait _)
  · exact .ite (fun _ => hawait _)
      (fun _ => .ite (fun _ => takeFrame_sustains _ _ _ s) (fun _ => Calm.sustains (.of_same (by simp))))

/-! ### Events -/

section
variable {f : State → State} {s t : State}

theorem event_sustains (hf : Sustains s (f s)) (h : event f s = .next t) : Sustains s t :=
  event_keeps (P := Sustains s) (fun _ => hf) (.refl s) h

/-- What follows an expiry at its own time (log entry 3). -/
theorem reached_sustains {u : State} (due : Nat) (h : Sustains (s.reach due) u) : Sustains s u :=
  (reach_calm s due).sustains.trans h

theorem onTimer_sustains {timer : Option Nat} (hf : ∀ due, timer = some due → Sustains (s.reach due) (f (s.reach due))) :
    Sustains s (onTimer timer f s) :=
  onTimer_keeps (P := Sustains s) (.refl s) fun due hdue => reached_sustains due (hf due hdue)

end

theorem events_sustain (c : Instr) (s t : State) (hc : frame c = none) (hstep : exec c s = .next t) : Sustains s t := by
  cases c <;> cases hc
  case powerOn keyOn =>
    cases hstep
    exact powerOn_sustains keyOn s
  all_goals
    simp only [exec, execReplySent, execBadLengthByte, execFrameCheckMismatch, execFrameByteTimeout, execLinkOverrun,
      execUnknownRequest, execSaveEnd, execRefreshExpiry, execSwitchSample, execScanIntervalExpiry,
      execConversionCompletion, execGaugeStep, execHomingStep, execGaugeUpdate, execCoilOpen, execPassStart,
      execCriterionEvaluation, execRaiseDelayExpiry, execReminderExpiry, execFlashHalfChange, execLampSample,
      execMinuteExpiry, execDwellExpiry, execShowTimeExpiry, execRotationExpiry, execLineRefresh, execTransferCompletion,
      execOneShotEnd, execClickEnd, execRepeatPeriod, execKeySample, execProofTimerExpiry, execProofDone, execEntryToSleep,
      execSilenceExpiry, execByteArrival, execLossOfSupply] at hstep
    refine event_sustains ?_ hstep
    clear hstep
  case replySent keyOn =>
    split
    · exact .refl s
    · exact replySent_sustains keyOn _ s
  case badLengthByte value => exact .ite (fun _ => Calm.sustains (.of_same (by simp))) (fun _ => .refl s)
  case frameCheckMismatch tag => exact Calm.sustains (.of_same (by simp))
  case linkOverrun tag kind =>
    split
    · exact .refl s
    · exact Calm.sustains (.of_same (by simp))
  case unknownRequest tag kind =>
    split
    · exact .refl s
    · exact (takeUnknown_calm tag kind s).sustains
  case byteArrival b => exact receiveByte_sustains b s
  case saveEnd outcome =>
    split
    · exact .refl s
    · exact (endSave_calm _ outcome s).sustains
  case lossOfSupply => exact loseSupply_sustains s
  case refreshExpiry q => exact onTimer_sustains fun due _ => (refreshExpired_calm q _).sustains
  case frameByteTimeout => exact onTimer_sustains fun due _ => Calm.sustains (.of_same (by simp))
  case raiseDelayExpiry w => exact onTimer_sustains fun due _ => (enterActiveNew_calm w false _).sustains
  case reminderExpiry w => exact onTimer_sustains fun due _ => (reminderExpired_calm w _).sustains
  case silenceExpiry => exact onTimer_sustains fun due _ => (beginLinkLost_calm _).sustains
  case dwellExpiry =>
    split
    · exact .refl s
    · exact onTimer_sustains fun due _ => (dwellElapsed_calm _ _).sustains
  case showTimeExpiry =>
    split
    · exact .refl s
    · exact onTimer_sustains fun due _ => (showTimeExpired_calm _ _).sustains
  case rotationExpiry =>
    split
    · exact .refl s
    · exact onTimer_sustains fun due _ => (rotationExpired_calm _ _).sustains
  case switchSample levels =>
    exact ((forEach_calm (sampleSwitch_calm levels) _).after (.of_same (by simp))).sustains
  case scanIntervalExpiry =>
    split
    · exact Calm.sustains (.of_same (by simp))
    · exact .refl s
  case conversionCompletion raw =>
    split
    · exact .refl s
    · exact reached_sustains _ (completeConversion_calm _ _ _).sustains
  case gaugeStep g =>
    split
    · exact Alike.sustains_judged (.of_same (by simp))
    · exact .refl s
  case homingStep g stall =>
    split
    · exact .refl s
    · exact Alike.sustains_judged (.of_same (by simp))
  case gaugeUpdate g =>
    split
    · exact .refl s
    · exact Alike.sustains_judged (.of_same (by simp))
  case coilOpen g active => exact Alike.sustains_judged (.of_same (by simp))
  case passStart =>
    split
    · next due hdue _ => exact reached_sustains _ (startPass_sustains due _ (by simp [State.reach, hdue]))
    · exact .refl s
  case criterionEvaluation =>
    split
    · exact .refl s
    · exact reached_sustains _ (endCriterion_sustains _ _)
  case flashHalfChange =>
    split
    · exact .refl s
    · next f hf => exact reached_sustains f.due (flashHalf_calm _ (s.reach f.due) (by simp [State.reach, hf])).sustains
  case lampSample openLoads =>
    split
    · exact .refl s
    · next due hdue => exact reached_sustains _ (lampSampled_calm openLoads due _ (by simp [State.reach, hdue])).sustains
  case minuteExpiry slot2First => exact reached_sustains _ (minuteExpired_calm _ slot2First _).sustains
  case lineRefresh =>
    split
    · exact .refl s
    · next due hdue =>
      refine reached_sustains due (Calm.sustains ((renderLine_calm _).after (setAnu_calm rfl ?_)))
      simp [State.reach, hdue]
  case transferCompletion =>
    split
    · exact .refl s
    · exact reached_sustains _ (completeTransfer_calm _ _).sustains
  case oneShotEnd | clickEnd | repeatPeriod =>
    split
    · exact reached_sustains _ (Calm.sustains (setAnu_calm rfl rfl))
    all_goals exact .refl s
  case keySample level => exact reached_sustains _ (sampleKey_sustains level _ _)
  case proofTimerExpiry =>
    split
    · next due hrunning => exact reached_sustains due (proofExpired_sustains (s := s.reach due) hrunning)
    all_goals exact .refl s
  case proofDone | entryToSleep => exact .ite (fun _ => judgePower_sustains s) (fun _ => .refl s)

theorem exec_sustains {c : Instr} {s t : State} (hexec : exec c s = .next t) : Sustains s t := by
  cases hc : frame c with
  | none => exact events_sustain c s t hc hexec
  | some x =>
    obtain ⟨tag, kind, body⟩ := x
    obtain ⟨r, hr, hevent⟩ := exec_request c tag kind body hc
    rw [hevent] at hexec
    exact event_sustains (Request.take_sustains (requests_sustain r (List.mem_of_find?_eq_some hr)) tag body s) hexec

/-- A step lets time pass, or carries out the command that it takes from the front of the queue, whose rest has no part in
the timers and the lamp drives. -/
theorem step_keeps {s t : State} (hstep : step s = .next t) :
    (s.timersKept → t.timersKept) ∧ (s.lampsKept → t.lampsKept) := by
  unfold step at hstep
  split at hstep
  · cases hstep
    exact ⟨s.idle_sustains.timers, s.idle_sustains.lamps⟩
  · exact ⟨(exec_sustains hstep).timers, (exec_sustains hstep).lamps⟩

/-- Settles O59. -/
theorem stepKeepsTheTimersAndTheLampDrives : Obligations.StepKeepsTheTimersAndTheLampDrives :=
  ⟨fun _ _ hs hstep => (step_keeps hstep).1 hs, fun _ _ hs hstep => (step_keeps hstep).2 hs⟩

end Sys2Proof.Machine
end

section
/-! PROOFS. O15: the requests that replace a setting whole (R186, R171, R79, R106, R137), and CONFIGURE LINK (R187). -/
namespace Sys2Proof.Machine

/-! ### A configuration request in a configurable part -/

section
variable {c : Instr} {r : Request} {tag : Byte} {body : List Byte} {s : State} {α : Type} {read : Option α}
  {act : α → Answer}

/-- A configuration request that fits and cannot be read is answered RANGE (R176). -/
theorem configuring_answersRange (h : s.configurable) (hexec : exec c s = event (r.take tag body) s)
    (hfits : r.fits body = true) (hrun : r.run body (goodFrame s) = configuring read act (goodFrame s))
    (hread : read = none) :
    AnswersRange c s tag r.kind := by
  rw [AnswersRange, hexec]
  exact r.take_awake tag body s (.of_configurable h) hfits
    (hrun.trans (configuring_range _ _ _ (by simpa using h.2) hread))

/-- A configuration request that fits and can be read is answered OK and makes its change behind step 1 of R175. -/
theorem configuring_next {x : α} {t : State} (h : s.configurable) (hexec : exec c s = event (r.take tag body) s)
    (hfits : r.fits body = true) (hrun : r.run body (goodFrame s) = configuring read act (goodFrame s))
    (hread : read = some x)
    (hact : act x = Answer.ok t) : exec c s = .next (beginReply tag r.kind .ok [] t) := by
  rw [hexec]
  exact r.take_awake tag body s (.of_configurable h) hfits
    (hrun.trans ((configuring_accepts _ _ _ x (by simpa using h.2) hread).trans hact))

end

/-! ### Fields out of range -/

theorem readOptIndex_out {n k : Nat} (h : n ≤ k) (hk : k ≠ 255) : readOptIndex n k = none := by
  simp [readOptIndex, hk, readIndex_out h]

theorem readRange_out {least most k : Nat} (h : k < least ∨ most < k) : readRange least most k = none := by
  have hout : ¬ (least ≤ k ∧ k ≤ most) := by omega
  simp [readRange, readWhen, hout]

theorem readRange_in {least most k : Nat} (h : least ≤ k) (hk : k ≤ most) : readRange least most k = some k := by
  simp [readRange, readWhen, h, hk]

theorem readEnum_out {α : Type} {l : List α} {k : Nat} (h : l.length ≤ k) : readEnum l k = none :=
  List.getElem?_eq_none h

/-- WARNING RAISED is kind 7 (R196). -/
theorem readReportKind_raised {k : Nat} : readReportKind k = some .warningRaised ↔ k = 7 := by
  by_cases hk : k < 26
  · have hkinds : ∀ i : Fin 26, readReportKind i.val = some .warningRaised ↔ i.val = 7 := by decide
    exact hkinds ⟨k, hk⟩
  · have hlength : ReportKind.list.length ≤ k - 1 := by
      simp only [ReportKind.list, List.length_append, List.length_cons, List.length_nil]
      omega
    have hout : readReportKind k = none := by rw [readReportKind, if_neg (by omega), readEnum_out hlength]
    simp only [hout, reduceCtorEq, false_iff]
    omega

theorem readReportKind_out {k : Nat} (h : k = 0 ∨ 25 < k) : readReportKind k = none := by
  rcases h with rfl | h
  · rfl
  · rw [readReportKind, if_neg (by omega)]
    refine readEnum_out ?_
    simp only [ReportKind.list, List.length_append, List.length_cons, List.length_nil]
    omega

/-- SET ROUTE's range: the kind, the class of WARNING RAISED, the route, and AFTER SHOWN for WARNING RAISED alone (R186). -/
theorem readRouteChange_out {k c r : Byte}
    (h : k.toNat = 0 ∨ 25 < k.toNat ∨ 4 ≤ r.toNat ∨ (k.toNat = 7 ∧ 3 ≤ c.toNat) ∨ (k.toNat ≠ 7 ∧ r.toNat = 3)) :
    readRouteChange [k, c, r] = none := by
  have hbytes : byteAt [k, c, r] 0 = k.toNat ∧ byteAt [k, c, r] 1 = c.toNat ∧ byteAt [k, c, r] 2 = r.toNat := ⟨rfl, rfl, rfl⟩
  obtain ⟨hk, hc, hr⟩ := hbytes
  unfold readRouteChange
  rw [hk, hc, hr]
  rcases h with h | h | h | ⟨hraised, hclass⟩ | ⟨hother, hroute⟩
  · rw [readReportKind_out (.inl h)]
    rfl
  · rw [readReportKind_out (.inr h)]
    rfl
  · rw [readEnum_out (l := Route.list) h]
    simp
  · rw [readReportKind_raised.mpr hraised, readEnum_out (l := WarnClass.list) hclass]
    rfl
  · cases hkind : readReportKind k.toNat with
    | none => rfl
    | some kind =>
      have hne : kind ≠ .warningRaised := fun heq => hother (readReportKind_raised.mp (hkind.trans (by rw [heq])))
      simp [hne, hroute, readEnum, Route.list]

theorem readPowerSettings_out {p m : Byte} (h : p.toNat = 0 ∨ 5 < p.toNat ∨ (64 ≤ m.toNat ∧ m.toNat ≤ 254)) :
    readPowerSettings [p, m] = none := by
  unfold readPowerSettings
  rw [byteAt_zero, byteAt_one]
  rcases h with h | h | ⟨hm, hlast⟩
  · rw [readRange_out (by omega)]
    rfl
  · rw [readRange_out (.inr h)]
    rfl
  · rw [readOptIndex_out hm (by omega)]
    simp

/-- CONFIGURE SHAPE's range: the shape, the quantity, the two open flags, and the order of the corners (R79). -/
theorem readShape_out {body : List Byte}
    (h : 32 ≤ byteAt body 0 ∨ (48 ≤ byteAt body 1 ∧ byteAt body 1 ≤ 254) ∨ 4 ≤ byteAt body 10 ∨
      intAt body 4 < intAt body 2 ∨ intAt body 6 < intAt body 4 ∨ intAt body 8 < intAt body 6) : readShape body = none := by
  unfold readShape
  rcases h with h | ⟨hq, hlast⟩ | h | h
  · rw [readIndex_out h]
    rfl
  · rw [readOptIndex_out hq (by omega)]
    simp
  · rw [readRange_out (.inr (by omega))]
    simp
  · have hcorners : ¬ (intAt body 2 ≤ intAt body 4 ∧ intAt body 4 ≤ intAt body 6 ∧ intAt body 6 ≤ intAt body 8) := by omega
    simp [readWhen, hcorners]

theorem readDutyMessages_out {body : List Byte} (h : ∃ i, i < 16 ∧
    ((64 ≤ byteAt body (2 * i) ∧ byteAt body (2 * i) ≤ 254) ∨ 5 ≤ byteAt body (2 * i + 1))) :
    readDutyMessages body = none := by
  obtain ⟨i, hi, hrange⟩ := h
  have hentry : readDutyMessage body i = none := by
    unfold readDutyMessage
    rcases hrange with ⟨hm, hlast⟩ | hchime
    · rw [readOptIndex_out hm (by omega)]
      rfl
    · rw [readEnum_out (l := Chime.list) hchime]
      simp
  rw [readDutyMessages, readAll_none _ _ ⟨i, List.mem_range.mpr hi, hentry⟩]
  rfl

theorem readLinkSettings_out {silence threshold : Byte} (h : (1 ≤ silence.toNat ∧ silence.toNat < 10) ∨
    200 < silence.toNat ∨ threshold.toNat = 0 ∨ 32 < threshold.toNat) : readLinkSettings [silence, threshold] = none := by
  unfold readLinkSettings
  rw [byteAt_zero, byteAt_one]
  have hsteps : (1 ≤ silence.toNat ∧ silence.toNat < 10) ∨ 200 < silence.toNat →
      readStepsOrZero 10 100 2000 silence.toNat = none := fun hout => by
    rw [readStepsOrZero, if_neg (by omega), readSteps, readWhen, if_neg (by simp; omega)]
  rcases h with h | h | h | h
  · rw [hsteps (.inl h)]
    rfl
  · rw [hsteps (.inr h)]
    rfl
  · rw [readRange_out (by omega)]
    simp
  · rw [readRange_out (.inr h)]
    simp

/-! ### CONFIGURE LINK -/

/-- The silence timeout is sent in steps of 10 ms, and 0 stands for none (R187). -/
theorem readLinkSettings_in {silence threshold : Byte}
    (hsilence : silence.toNat = 0 ∨ (10 ≤ silence.toNat ∧ silence.toNat ≤ 200))
    (hleast : 1 ≤ threshold.toNat) (hmost : threshold.toNat ≤ 32) :
    readLinkSettings [silence, threshold] = some ⟨silence.toNat * 10, threshold.toNat⟩ := by
  have hsteps : readStepsOrZero 10 100 2000 silence.toNat = some (silence.toNat * 10) := by
    unfold readStepsOrZero
    split
    · next h => rw [h]
    · rw [readSteps, readWhen, if_pos (by simp; omega)]
  unfold readLinkSettings
  rw [byteAt_zero, byteAt_one, hsteps, readRange_in hleast hmost]
  rfl

/-- The link settings put in force, with the silence timer started afresh or stopped and the attention line judged (R187,
R177, R182). -/
theorem configureLink_answers {tag silence threshold : Byte} {s : State} (h : s.configurable)
    (hsilence : silence.toNat = 0 ∨ (10 ≤ silence.toNat ∧ silence.toNat ≤ 200)) (hleast : 1 ≤ threshold.toNat)
    (hmost : threshold.toNat ≤ 32) :
    ∃ t, exec (.configureLink tag [silence, threshold]) s = .next t ∧ t.lp.reply = some ⟨tag, 0x05#8, .ok, []⟩ ∧
      t.cfg = { s.cfg with link := ⟨silence.toNat * 10, threshold.toNat⟩ } ∧
      t.lp.silenceDue = (if silence.toNat = 0 then none else some (s.now + silence.toNat * 10000)) ∧
      t.lp.attention = t.wantsAttention ∧ t.lp.lostSince = none ∧ s.sameBut t [.cfg, .lp] := by
  refine ⟨_, configuring_next (r := configureLinkRequest) h rfl rfl rfl (readLinkSettings_in hsilence hleast hmost) rfl,
    rfl, ?_, ?_, rfl, ?_, (State.sameBut_parts _ _ _).mpr (by simp)⟩
  · simp [configureLink, judgeAttention]
  · simp only [beginReply_lp, configureLink, judgeAttention, State.setLp_lp, State.setCfg_now, goodFrame_frame, Config.ms,
      Nat.mul_assoc, Nat.mul_eq_zero, OfNat.ofNat_ne_zero, or_false, Nat.reduceMul]
  · simp [configureLink, judgeAttention]

/-- Settles O15, request by request. -/
theorem settingsAreReplaced : Obligations.SettingsAreReplaced := by
  refine ⟨fun tag body s h => ⟨fun i r hlength hread => ?_, fun c hlength hread => ?_, fun f c hlength hread => ?_,
    fun b q hbody hread => ?_, fun c hlength hread => ?_, fun k c r hbody hout => ?_, fun p m hbody hout => ?_,
    fun hlength hout => ?_, fun b hbody hleast hlast => ?_, fun hlength hout => ?_, fun silence threshold hbody hout => ?_⟩,
    fun tag silence threshold s h => configureLink_answers h⟩
  · exact configuring_next (r := setRouteRequest) h rfl (exactly_length hlength) rfl hread (by simp)
  · exact configuring_next (r := configurePowerRequest) h rfl (exactly_length hlength) rfl hread (by simp)
  · exact configuring_next (r := configureShapeRequest) h rfl (exactly_length hlength) rfl hread (by simp)
  · subst hbody
    exact configuring_next (r := configureDimmerRequest) h rfl rfl rfl hread (by simp)
  · exact configuring_next (r := configureDutyMessagesRequest) h rfl (exactly_length hlength) rfl hread (by simp)
  · subst hbody
    exact configuring_answersRange (r := setRouteRequest) h rfl rfl rfl (readRouteChange_out hout)
  · subst hbody
    exact configuring_answersRange (r := configurePowerRequest) h rfl rfl rfl (readPowerSettings_out hout)
  · exact configuring_answersRange (r := configureShapeRequest) h rfl (exactly_length hlength) rfl (readShape_out hout)
  · subst hbody
    exact configuring_answersRange (r := configureDimmerRequest) h rfl rfl rfl
      (readOptIndex_out (k := b.toNat) hleast (by omega))
  · exact configuring_answersRange (r := configureDutyMessagesRequest) h rfl (exactly_length hlength) rfl
      (readDutyMessages_out hout)
  · subst hbody
    exact configuring_answersRange (r := configureLinkRequest) h rfl rfl rfl (readLinkSettings_out hout)

end Sys2Proof.Machine
end

section
/-! PROOFS. O38: CONFIGURE CRITERION and CONFIGURE EVALUATION (R80, R81), the start of a pass and the end of a criterion's
evaluation (R74 to R77). -/
namespace Sys2Proof.Machine

/-! ### The announcement marks at an end -/

/-- Every announcement mark is as it was, or cleared (R90). -/
def MarksOnlyClear (s t : State) : Prop := ∀ w, (t.warning w).mark = (s.warning w).mark ∨ (t.warning w).mark = .none

section
variable {s t u : State}

theorem MarksOnlyClear.trans (h : MarksOnlyClear s t) (k : MarksOnlyClear t u) : MarksOnlyClear s u := fun w =>
  (k w).elim (fun hk => (h w).imp hk.trans hk.trans) .inr

theorem MarksOnlyClear.of_weu (h : t.weu = s.weu) : MarksOnlyClear s t := fun w => .inl (by rw [State.warning_of s t h])

theorem MarksOnlyClear.setWarning {w : Fin 48} {r : Warning} (h : r.mark = (s.warning w).mark ∨ r.mark = .none) :
    MarksOnlyClear s (s.setWarning w r) := fun x => by
  by_cases hx : x = w
  · subst hx
    simpa using h
  · simp [hx]

/-- A cleared mark stays clear. -/
theorem MarksOnlyClear.clear (h : MarksOnlyClear s t) {w : Fin 48} (hw : (s.warning w).mark = .none) :
    (t.warning w).mark = .none := (h w).elim (·.trans hw) id

end

theorem judgeLampOf_warning (w x : Fin 48) (s : State) : (judgeLampOf w s).warning x = s.warning x := by
  unfold judgeLampOf
  split <;> rfl

theorem judgeLampOf_marks (w : Fin 48) (s : State) : MarksOnlyClear s (judgeLampOf w s) := fun x =>
  .inl (by rw [judgeLampOf_warning])

theorem acknowledgeWarning_marks (w : Fin 48) (s : State) : MarksOnlyClear s (acknowledgeWarning w s) := by
  have hsame (r : Warning) (h : r.mark = (s.warning w).mark) : MarksOnlyClear s (judgeLampOf w (s.setWarning w r)) :=
    (MarksOnlyClear.setWarning (.inl h)).trans (judgeLampOf_marks w _)
  unfold acknowledgeWarning
  dsimp only
  split
  · exact hsame _ rfl
  · exact hsame _ rfl
  all_goals exact .of_weu rfl

theorem tellOwner_marks (cause : EndCause) (e : Entry) (s : State) : MarksOnlyClear s (tellOwner cause e s) := by
  have hended : ∀ w, MarksOnlyClear s (warningEntryEnded w s) := fun w => .setWarning (.inr rfl)
  unfold tellOwner
  split
  · exact .of_weu rfl
  · exact .of_weu rfl
  · exact (hended _).trans (acknowledgeWarning_marks _ _)
  · exact hended _
  all_goals exact .of_weu rfl

theorem endEntry_marks (cause : EndCause) (e : Entry) (s : State) : MarksOnlyClear s (endEntry cause e s) :=
  (tellOwner_marks cause e s).trans (.of_weu (by simp [endEntry]))

theorem displace_marks (sh : Shown) (s : State) : MarksOnlyClear s (displace sh s) := by
  unfold displace
  dsimp only
  split
  · exact .of_weu (by simp)
  · exact MarksOnlyClear.trans (.of_weu (by simp)) (endEntry_marks .displaced _ (showHead (stopShown s)))

theorem decideLine_marks (s : State) : MarksOnlyClear s (decideLine s) := by
  unfold decideLine
  (repeat' split)
  · exact .of_weu rfl
  · exact .of_weu (by simp)
  · exact displace_marks _ s
  · exact .of_weu rfl

theorem decideAfterEnd_marks (s : State) : MarksOnlyClear s (decideAfterEnd s) :=
  (decideLine_marks s).trans (.of_weu (by simp [decideAfterEnd]))

theorem withdraw_marks (x : AnnSource) (s : State) : MarksOnlyClear s (withdraw x s) := by
  unfold withdraw
  (repeat' split)
  · exact MarksOnlyClear.trans (.of_weu (by simp)) (endEntry_marks .withdrawn _ (s.setQueue _))
  · exact .of_weu rfl
  · exact MarksOnlyClear.trans (.of_weu (by simp)) ((endEntry_marks .withdrawn _ (stopShown s)).trans
      (decideAfterEnd_marks _))
  · exact .of_weu rfl

/-- A withdrawal leaves the warning's mark clear (R90). -/
theorem withdrawWarning_mark (w : Fin 48) (s : State) : ((withdrawWarning w s).warning w).mark = .none := by
  unfold withdrawWarning
  split
  · next h => exact h
  · exact (withdraw_marks _ _).clear (by simp [State.setMark])

/-! ### A warning that goes OFF -/

theorem goOff_warning (w : Fin 48) (cause : WarnEnd) (s : State) : (goOff w cause s).warning w =
    (withdrawWarning w (s.setWarning w ((s.warning w).restedIn .off))).warning w := by
  rw [goOff, judgeLampOf_warning]
  exact State.warning_of _ _ (by simp) w

/-- OFF, with its announcement withdrawn (R89, R96). -/
theorem goOff_off (w : Fin 48) (cause : WarnEnd) (s : State) :
    ((goOff w cause s).warning w).state = .off ∧ ((goOff w cause s).warning w).mark = .none := by
  obtain ⟨-, -, -, hwarnings, -⟩ := withdrawWarning_drives w (s.setWarning w ((s.warning w).restedIn .off))
  rw [goOff_warning]
  exact ⟨(hwarnings w).1.trans (by simp [Warning.restedIn]), withdrawWarning_mark w _⟩

/-- WARNING ENDED with its detail (R96, R196). -/
theorem goOff_reported (w : Fin 48) (cause : WarnEnd) (s : State) :
    Reported .warningEnded .stop w.val (code WarnEnd.list cause) s (goOff w cause s) := by
  have hwithdrawn := withdrawWarning_link w (s.setWarning w ((s.warning w).restedIn .off))
  exact hand_reported _ _ _ s (withdrawWarning w (s.setWarning w ((s.warning w).restedIn .off))) _
    (by simpa using hwithdrawn.1) (by simp) (by simp [goOff, handWarningEnded])
    (by simp [goOff, handWarningEnded])

/-! ### CONFIGURE CRITERION -/

theorem State.strengths_of_steady {s t : State} (h : t.steady = s.steady) : t.weu.strengths = s.weu.strengths :=
  congrArg (fun x => x.2.2.strengths) h

theorem State.pass_of_steady {s t : State} (h : t.steady = s.steady) : t.weu.pass = s.weu.pass :=
  congrArg (fun x => x.2.2.pass) h

theorem readCriterion_out {b : List Byte} (h : 48 ≤ byteAt b 0) : readCriterion b = none := by
  rw [readCriterion, readIndex_out h]
  rfl

section
variable (w : Fin 48) (c : Criterion) (s : State)

theorem putOff_evaluation : (putOff w s).weu.strengths = s.weu.strengths ∧ (putOff w s).weu.pass = s.weu.pass := by
  have hsteady := putOff_steady w s
  exact ⟨State.strengths_of_steady hsteady, State.pass_of_steady hsteady⟩

/-- The criterion stored, its strength record emptied, and the pass told when it is the one under way (R80). -/
theorem configureCriterion_evaluation :
    (configureCriterion w c s).cfg = { s.cfg with criteria := s.cfg.criteria.set w c } ∧
    (configureCriterion w c s).weu.strengths = s.weu.strengths.set w ⟨false, 0, [], [], 0⟩ ∧
    (configureCriterion w c s).weu.pass =
      s.weu.pass.map (fun p => if p.criterion = w then { p with replaced := true } else p) ∧
    (configureCriterion w c s).weu.warnings = (putOff w s).weu.warnings := by
  obtain ⟨hstrengths, hpass⟩ := putOff_evaluation w s
  refine ⟨by simp [configureCriterion], ?_, ?_, rfl⟩
  · rw [← hstrengths]
    rfl
  · rw [← hpass]
    rfl

theorem configureCriterion_rest : (configureCriterion w c s).lp = (putOff w s).lp ∧
    (configureCriterion w c s).dtu = (putOff w s).dtu ∧ (configureCriterion w c s).anu = (putOff w s).anu :=
  ⟨rfl, rfl, rfl⟩

end

/-- CONFIGURE CRITERION accepted (R80, R96). -/
theorem configureCriterion_answers {tag : Byte} {body : List Byte} {s : State} {w : Fin 48} {c : Criterion}
    (h : s.configurable) (hfits : criterionBodyFits body = true) (hread : readCriterion body = some (w, c)) :
    Answers (.configureCriterion tag body) s tag 0x29#8 .ok [] fun t =>
      t.cfg = { s.cfg with criteria := s.cfg.criteria.set w c } ∧
      t.weu.strengths = s.weu.strengths.set w ⟨false, 0, [], [], 0⟩ ∧
      t.weu.pass = s.weu.pass.map (fun p => if p.criterion = w then { p with replaced := true } else p) ∧
      ((s.warning w).state ∈ [.off, .disabled] → t.weu.warnings = s.weu.warnings ∧ s.sameBut t [.cfg, .lp, .weu]) ∧
      ((s.warning w).state ∉ [.off, .disabled] → (t.warning w).state = .off ∧ (t.warning w).mark = .none ∧
        Reported .warningEnded .stop w.val 3 s t) := by
  refine ⟨_, configuring_next (r := configureCriterionRequest) h rfl hfits rfl hread rfl, rfl, ?_⟩
  obtain ⟨hcfg, hstrengths, hpass, hwarnings⟩ := configureCriterion_evaluation w c (goodFrame s)
  obtain ⟨hlp, hdtu, hanu⟩ := configureCriterion_rest w c (goodFrame s)
  obtain ⟨hleft, hoff⟩ := putOff_cases w (goodFrame s)
  simp only [goodFrame_frame, goodFrame_reads] at hcfg hstrengths hpass hleft hoff
  refine ⟨by simpa using hcfg, by simpa using hstrengths, by simpa using hpass, fun hstate => ?_, fun hstate => ?_⟩
  · rw [hleft hstate] at hwarnings hdtu hanu
    exact ⟨by simpa using hwarnings, (State.sameBut_parts _ _ _).mpr (by simp [hdtu, hanu])⟩
  · rw [hoff hstate] at hlp hdtu hwarnings
    obtain ⟨hstateOff, hmark⟩ := goOff_off w .reconfigured (goodFrame s)
    refine ⟨by simpa [State.warning, hwarnings] using hstateOff, by simpa [State.warning, hwarnings] using hmark, ?_⟩
    refine Reported.beginReply (.ofGoodFrame ?_) _ _ _ _
    exact (goOff_reported w .reconfigured (goodFrame s)).widen List.prefix_rfl rfl (by rw [hdtu])
      (by rw [hlp])

/-! ### CONFIGURE EVALUATION -/

theorem configureEvaluation_next {tag b : Byte} {s : State} (h : s.configurable) (hleast : 2 ≤ b.toNat)
    (hmost : b.toNat ≤ 50) : exec (.configureEvaluation tag [b]) s = .next (beginReply tag 0x2A#8 .ok []
      (((goodFrame s).setCfg { s.cfg with evalInterval := b.toNat * 10 }).setWeu
        { s.weu with evalDue := some (s.now + b.toNat * 10000) })) := by
  have hread : readSteps 10 20 500 (byteAt [b] 0) = some (b.toNat * 10) := by
    rw [byteAt_zero, readSteps, readWhen, if_pos (by simp; omega)]
  refine configuring_next (r := configureEvaluationRequest) h rfl rfl rfl hread ?_
  simp [setEvalInterval, Config.ms, Nat.mul_assoc]

/-! ### The start of a pass, and the end of a criterion -/

section
variable {s : State}

theorem passStart_next (hpowered : s.powered = true) {due : Nat} (hdue : s.weu.evalDue = some due)
    (hpass : s.weu.pass = none) : exec .passStart s = .next
      ((s.setNow (max s.now due)).setWeu { s.weu with
        evalDue := some (due + s.cfg.evalInterval * 1000), inForce := s.cfg.shapes, passCount := s.weu.passCount + 1
        pass := some ⟨0, max s.now due + 20, false, []⟩ }) := by
  have hexec : exec .passStart s = execPassStart s := rfl
  rw [hexec, execPassStart, event_powered _ s hpowered]
  simp only [hdue, hpass]
  rfl

/-- The pass goes on to the next criterion, and ends behind W47 (R75). -/
theorem Pass.next_eq {p : Pass} {next : Option Pass} {now : Nat} (hlast : p.criterion.val = 47 → next = none)
    (hmore : ∀ h : p.criterion.val + 1 < 48, next = some ⟨⟨p.criterion.val + 1, h⟩, now + 20, false, []⟩) :
    p.next now = next := by
  unfold Pass.next
  split
  · next h => exact (hmore h).symm
  · exact (hlast (by omega)).symm

theorem criterionEvaluation_next (hpowered : s.powered = true) {p : Pass} (hp : s.weu.pass = some p) :
    exec .criterionEvaluation s = .next (endCriterion p (s.reach p.due)) := by
  have hexec : exec .criterionEvaluation s = execCriterionEvaluation s := rfl
  rw [hexec, execCriterionEvaluation, event_powered _ s hpowered]
  simp only [hp]

theorem endCriterion_replaced {p : Pass} (h : p.replaced = true) :
    endCriterion p s = s.setWeu { s.weu with pass := p.next s.now } := if_pos h

theorem endCriterion_stores {p : Pass} (h : p.replaced = false) {u : State}
    (hu : u = s.setWeu { s.weu with pass := p.next s.now }) : endCriterion p s = actOnStrength p.criterion
      (u.evaluate (u.cfg.criteria.get p.criterion) p.read).strength
      (u.setStrength p.criterion (u.evaluate (u.cfg.criteria.get p.criterion) p.read)) := by
  subst hu
  exact if_neg (by simp [h])

/-- The terms under time and pass: neither the clock nor the pass has a part in them (R69 to R73). -/
theorem termValue_setPass (now : Nat) (pass : Option Pass) (t : Term) :
    ((s.setNow now).setWeu { s.weu with pass := pass }).termValue t = s.termValue t := by
  obtain ⟨kind, complement⟩ := t
  have hraw : ((s.setNow now).setWeu { s.weu with pass := pass }).rawTerm kind = s.rawTerm kind := by
    cases kind with
    | grade => rfl
    | status => rfl
    | engaged => rfl
    | condition c => cases c <;> rfl
    | constant => rfl
  simp only [State.termValue, hraw]

/-- All the terms that have not been read are read at the end (R75 step 1, R76). -/
theorem readOn_rest (c : Criterion) (read : List Nat) :
    s.readOn c read c.flatten.length = read ++ (c.flatten.drop read.length).map s.termValue := by
  rw [State.readOn, List.take_of_length_le (by simp)]

/-- The record of an evaluation: its terms clause by clause, those read before in front, and the strengths of the clauses
and of the criterion (R69, R75, R77). -/
theorem evaluate_spec (c : Criterion) {read : List Nat} (h : read.length ≤ c.flatten.length) :
    ∃ terms clauses strength, s.evaluate c read = ⟨true, strength, clauses, terms, s.weu.passCount⟩ ∧
      terms.map List.length = c.map List.length ∧
      terms.flatten = read ++ (c.flatten.drop read.length).map s.termValue ∧
      (read = [] → terms = c.map (fun clause => clause.map s.termValue)) ∧
      clauses = terms.map (fun values => values.foldl min 255) ∧ strength = clauses.foldl max 0 := by
  have hlength : (read ++ (c.flatten.drop read.length).map s.termValue).length = c.flatten.length := by
    simp only [List.length_append, List.length_map, List.length_drop]
    omega
  obtain ⟨hflatten, hlengths⟩ := byClause_spec c _ hlength
  refine ⟨byClause c (read ++ (c.flatten.drop read.length).map s.termValue), _, _, ?_, hlengths, hflatten, fun hread => ?_,
    rfl, rfl⟩
  · rw [State.evaluate, readOn_rest]
    rfl
  · subst hread
    exact byClause_map s.termValue c

end

/-- The end of a criterion that has not been replaced: its record is stored and its strength acted on (R75, R77, R86). -/
theorem criterionEvaluation_stores {s : State} {p : Pass} {next : Option Pass} (hpowered : s.powered = true)
    (hp : s.weu.pass = some p) (hnext : p.next (max s.now p.due) = next) (hreplaced : p.replaced = false)
    (hread : p.read.length ≤ (s.cfg.criteria.get p.criterion).flatten.length) :
    ∃ t terms clauses strength, exec .criterionEvaluation s = .next t ∧
      t.now = max s.now p.due ∧ t.weu.pass = next ∧
      terms.map List.length = (s.cfg.criteria.get p.criterion).map List.length ∧
      terms.flatten = p.read ++ ((s.cfg.criteria.get p.criterion).flatten.drop p.read.length).map s.termValue ∧
      (p.read = [] → terms = (s.cfg.criteria.get p.criterion).map (fun clause => clause.map s.termValue)) ∧
      clauses = terms.map (fun values => values.foldl min 255) ∧ strength = clauses.foldl max 0 ∧
      t.weu.strengths = s.weu.strengths.set p.criterion ⟨true, strength, clauses, terms, s.weu.passCount⟩ ∧
      t = actOnStrength p.criterion strength
        ((s.setNow (max s.now p.due)).setWeu { s.weu with
          pass := next
          strengths := s.weu.strengths.set p.criterion ⟨true, strength, clauses, terms, s.weu.passCount⟩ }) := by
  subst hnext
  obtain ⟨u, hu⟩ : ∃ u, u = (s.setNow (max s.now p.due)).setWeu { s.weu with pass := p.next (max s.now p.due) } := ⟨_, rfl⟩
  have hterm : u.termValue = s.termValue := by
    funext t
    rw [hu, termValue_setPass]
  obtain ⟨terms, clauses, strength, heq, hlengths, hflatten, hunread, hclauses, hstrength⟩ :=
    evaluate_spec (s := u) (s.cfg.criteria.get p.criterion) hread
  rw [hterm] at hflatten hunread
  have hend : endCriterion p (s.reach p.due) = actOnStrength p.criterion strength (u.setStrength p.criterion
      ⟨true, strength, clauses, terms, u.weu.passCount⟩) := by
    have hcfg : u.cfg = s.cfg := by rw [hu]; rfl
    rw [endCriterion_stores (s := s.reach p.due) hreplaced hu, hcfg, heq]
  have hsteady := actOnStrength_steady p.criterion strength (u.setStrength p.criterion
    ⟨true, strength, clauses, terms, u.weu.passCount⟩)
  refine ⟨_, terms, clauses, strength, (criterionEvaluation_next hpowered hp).trans (by rw [hend]), ?_,
    (State.pass_of_steady hsteady).trans ?_, hlengths, hflatten, hunread, hclauses, hstrength,
    (State.strengths_of_steady hsteady).trans ?_, ?_⟩
  · simp [State.setStrength, hu]
  all_goals rw [hu]; rfl

/-- Settles O38. -/
theorem passesEvaluateTheCriteria : Obligations.PassesEvaluateTheCriteria := by
  refine ⟨fun tag body s h hfits hout => ?_, fun tag body s w c h => configureCriterion_answers h,
    fun tag b s h => ⟨configureEvaluation_next h, fun hout => ?_⟩,
    fun s hpowered => ⟨fun due => passStart_next hpowered, fun p next hp hlast hmore => ?_⟩⟩
  · exact configuring_answersRange (r := configureCriterionRequest) h rfl hfits rfl (hout.elim id readCriterion_out)
  · refine configuring_answersRange (r := configureEvaluationRequest) (body := [b]) h rfl rfl rfl ?_
    rw [byteAt_zero, readSteps, readWhen, if_neg (by simp; omega)]
  · have hnext : p.next (max s.now p.due) = next := Pass.next_eq hlast hmore
    refine ⟨fun hreplaced => ?_, criterionEvaluation_stores hpowered hp hnext⟩
    rw [criterionEvaluation_next hpowered hp, endCriterion_replaced hreplaced, ← hnext]
    rfl

end Sys2Proof.Machine
end

section
/-! PROOFS. O2: every command ends in a next state and leaves the commands that wait, and on an empty queue time passes. -/
namespace Sys2Proof.Machine

/-- Every command has a meaning (log entry 3). -/
theorem exec_ends (c : Instr) (s : State) : ∃ t, exec c s = .next t := by
  cases c <;> exact ⟨_, rfl⟩

theorem step_idle {s : State} (h : s.pending = []) : step s = .next s.idle := by
  rw [step, h]

/-- The terms read while a microsecond passes are the next ones of the criterion under evaluation (R75, R76). -/
theorem State.idle_reads {s : State} {p : Pass} (h : s.weu.pass = some p) : s.idle.weu =
    { s.weu with pass := some { p with read := p.read ++ (((s.cfg.criteria.get p.criterion).flatten.drop p.read.length).take
      (Config.termsRead (s.now + 1))).map s.termValue } } := by
  simp only [State.idle, h]
  rfl

/-- Settles O2: the queue of commands stays through every request and every event, and the passing of time reads terms
alone. -/
theorem everyCommandEndsAndTimePasses : Obligations.EveryCommandEndsAndTimePasses := by
  refine ⟨fun c s => ?_, fun s hempty => ⟨s.idle, step_idle hempty, by simp, (State.sameBut_parts _ _ _).mpr (by simp),
    s.idle_weu, fun p hp => ⟨_, State.idle_reads hp⟩⟩⟩
  obtain ⟨t, ht⟩ := exec_ends c s
  exact ⟨t, ht, (exec_sustains ht).pending⟩

end Sys2Proof.Machine
end

section
/-! PROOFS. O39: what a warning does with the strength handed to it (R86, R89). -/
namespace Sys2Proof.Machine

/-! ### A withdrawal, and the warnings (R90, R141) -/

theorem tellOwner_withdrawn (e : Entry) (s : State) : tellOwner .withdrawn e s = s := by
  unfold tellOwner
  split <;> first | rfl | contradiction

/-- The owner of an entry that is withdrawn is told nothing (R142). -/
theorem endEntry_withdrawn (e : Entry) (s : State) : (endEntry .withdrawn e s).weu = s.weu := by
  simp [endEntry, tellOwner_withdrawn]

/-- With nothing shown, nothing is displaced. -/
theorem decideLine_unshown {s : State} (h : s.anu.shown = none) : (decideLine s).weu = s.weu := by
  simp only [decideLine, h]
  split
  · rfl
  · simp

theorem withdraw_weu (x : AnnSource) (s : State) : (withdraw x s).weu = s.weu := by
  unfold withdraw
  split
  · simp [endEntry_withdrawn]
  · split
    · rfl
    · next sh _ =>
      split
      · have hshown : (endEntry .withdrawn sh.entry (stopShown s)).anu.shown = none := by simp [stopShown]
        simp [decideAfterEnd, decideLine_unshown hshown, endEntry_withdrawn]
      · rfl

/-- A warning's withdrawal clears its mark and leaves the rest of it and every other warning (R90). -/
theorem withdrawWarning_warning (w x : Fin 48) (s : State) : (withdrawWarning w s).warning x =
    if x = w then { s.warning w with mark := .none } else s.warning x := by
  unfold withdrawWarning
  split
  · next hmark =>
    rw [← hmark]
    split
    · next hx => rw [hx]
    · rfl
  · rw [State.warning_of _ _ (withdraw_weu _ _), State.setMark, State.setWarning_warning]

/-- A mark that is clear is not withdrawn (R90). -/
theorem withdrawWarning_unmarked {w : Fin 48} {s : State} (h : (s.warning w).mark = .none) : withdrawWarning w s = s :=
  if_pos h

/-! ### The changes of one warning -/

/-- A warning changed, with its lamp re-judged, changes no more than itself and the lamp. -/
theorem judgeLampOf_setWarning (w : Fin 48) (r : Warning) (s : State) :
    (judgeLampOf w (s.setWarning w r)).warning w = r ∧ (judgeLampOf w (s.setWarning w r)).lp = s.lp ∧
    (judgeLampOf w (s.setWarning w r)).anu = s.anu := by
  simp [judgeLampOf_warning]

/-- OFF with both timers stopped, the acknowledged mark clear and the announcement withdrawn (R89, R93, R96). -/
theorem goOff_ended (w : Fin 48) (cause : WarnEnd) (s : State) :
    (goOff w cause s).warning w = ⟨.off, false, none, none, .none⟩ := by
  simp [goOff_warning, withdrawWarning_warning, Warning.restedIn]

/-- An end that latches: a REMINDER is withdrawn, and a NORMAL announcement stays (R89). -/
theorem endAtStrength_latches {w : Fin 48} {s : State} (h : (s.cfg.warnings.get w).latching = true) :
    (endAtStrength w s).warning w = { s.warning w with
      state := .latched, reminderDue := none
      mark := if (s.warning w).mark = .reminder then .none else (s.warning w).mark } ∧
    ((s.warning w).mark ≠ .reminder → (endAtStrength w s).lp = s.lp ∧ (endAtStrength w s).anu = s.anu) := by
  simp only [endAtStrength, h, if_true, judgeLampOf_warning, State.setWarning_warning]
  split
  · next hmark => simp [withdrawWarning_warning, hmark]
  · simp

theorem endAtStrength_ends {w : Fin 48} {s : State} (h : (s.cfg.warnings.get w).latching = false) :
    endAtStrength w s = goOff w .strength s := by
  simp [endAtStrength, h]

/-! ### The strength, by the state of the warning (R86) -/

section
variable {w : Fin 48} (strength : Nat) {s : State}

theorem actOnStrength_setAside (h : (s.warning w).state ∈ [.disabled, .suppressed]) : actOnStrength w strength s = s := by
  have hstate : (s.warning w).state = .disabled ∨ (s.warning w).state = .suppressed := by simpa using h
  rcases hstate with hstate | hstate <;> simp [actOnStrength, hstate]

theorem actOnStrength_off (h : (s.warning w).state = .off) : actOnStrength w strength s =
    if (s.cfg.warnings.get w).raiseLevel ≤ strength then
      if (s.cfg.warnings.get w).raiseDelay = 0 then enterActiveNew w false s
      else judgeLampOf w (s.setWarning w { s.warning w with
        state := .rising, raiseDue := some (s.now + (s.cfg.warnings.get w).raiseDelay * 1000) })
    else s := by
  simp [actOnStrength, h, Config.ms]

theorem actOnStrength_rising (h : (s.warning w).state = .rising) : actOnStrength w strength s =
    if strength < (s.cfg.warnings.get w).raiseLevel then
      judgeLampOf w (s.setWarning w ((s.warning w).restedIn .off))
    else s := by
  simp [actOnStrength, h]

theorem actOnStrength_active (h : (s.warning w).state ∈ [.activeNew, .activeSeen]) : actOnStrength w strength s =
    if strength ≤ (s.cfg.warnings.get w).clearLevel then endAtStrength w s else s := by
  have hstate : (s.warning w).state = .activeNew ∨ (s.warning w).state = .activeSeen := by simpa using h
  rcases hstate with hstate | hstate <;> simp [actOnStrength, hstate]

theorem actOnStrength_latched (h : (s.warning w).state = .latched) : actOnStrength w strength s =
    if (s.cfg.warnings.get w).raiseLevel ≤ strength then
      if (s.warning w).acknowledged = true then
        judgeLampOf w (s.setWarning w { s.warning w with state := .activeSeen, reminderDue := s.reminderStart w })
      else enterActiveNew w true s
    else s := by
  simp [actOnStrength, h]

end

/-- Settles O39, by the state of the warning. -/
theorem warningActsOnItsStrength : Obligations.WarningActsOnItsStrength := by
  intro w strength s t c r ht hc hr _
  subst ht hc hr
  refine ⟨actOnStrength_setAside strength, fun h hlow => ?_, fun h hhigh hdelay => ?_, fun h hhigh hdelay => ?_,
    fun h hhigh => ?_, fun h hlow => ?_, fun h habove => ?_, fun h hfallen hlatching => ?_, fun h hfallen hlatching => ?_,
    fun h hlow => ?_, fun h hhigh hack => ?_, fun h hhigh hack => ?_⟩
  · rw [actOnStrength_off strength h, if_neg (by omega)]
  · rw [actOnStrength_off strength h, if_pos hhigh, if_neg hdelay]
    exact (judgeLampOf_setWarning w _ s).1
  · rw [actOnStrength_off strength h, if_pos hhigh, if_pos hdelay]
  · rw [actOnStrength_rising strength h, if_neg (by omega)]
  · rw [actOnStrength_rising strength h, if_pos hlow]
    obtain ⟨hwarning, hlp, hanu⟩ := judgeLampOf_setWarning w ((s.warning w).restedIn .off) s
    exact ⟨hlp, hanu, hwarning⟩
  · rw [actOnStrength_active strength h, if_neg (by omega)]
  · rw [actOnStrength_active strength h, if_pos hfallen]
    obtain ⟨hwarning, hquiet⟩ := endAtStrength_latches hlatching
    rw [hwarning]
    exact ⟨rfl, rfl, rfl, fun hmark => if_pos hmark, fun hmark => ⟨if_neg hmark, hquiet hmark⟩⟩
  · rw [actOnStrength_active strength h, if_pos hfallen, endAtStrength_ends hlatching]
    exact ⟨goOff_ended w .strength s, goOff_reported w .strength s⟩
  · rw [actOnStrength_latched strength h, if_neg (by omega)]
  · rw [actOnStrength_latched strength h, if_pos hhigh, if_pos hack]
    obtain ⟨hwarning, hlp, hanu⟩ := judgeLampOf_setWarning w
      { s.warning w with state := .activeSeen, reminderDue := s.reminderStart w } s
    rw [hwarning]
    exact ⟨hlp, hanu, rfl, hack⟩
  · rw [actOnStrength_latched strength h, if_pos hhigh, if_neg (by simp [hack])]

end Sys2Proof.Machine
end

section
/-! PROOFS. O40: the requests on one warning (R92 to R96), each by the state of the warning. -/
namespace Sys2Proof.Machine

/-! ### A request that names a warning -/

theorem readWarningIndex_some {b : Byte} {w : Fin 48} (h : b.toNat = w.val) : readWarningIndex [b] = some w := by
  simp [readWarningIndex, h]

theorem readWarningIndex_none {b : Byte} (h : 48 ≤ b.toNat) : readWarningIndex [b] = none := readIndex_out h

theorem readWarnSettings_out {b : List Byte} (h : 48 ≤ byteAt b 0) : readWarnSettings b = none := by
  rw [readWarnSettings, readIndex_out h]
  rfl

section
variable {c : Instr} {r : Request} {tag b : Byte} {s : State} {act : Fin 48 → State → Answer}

/-- An index that names no warning is refused with RANGE (R92 to R95). -/
theorem byWarning_range (h : s.awake) (hb : 48 ≤ b.toNat) (hexec : exec c s = event (r.take tag [b]) s)
    (hfits : r.fits [b] = true) (hrun : ∀ u, r.run [b] u = reading (readWarningIndex [b]) (fun w => act w u) u) :
    AnswersRange c s tag r.kind := by
  rw [AnswersRange, hexec]
  exact r.take_awake tag [b] s h hfits ((hrun _).trans (reading_range _ _ (readWarningIndex_none hb)))

/-- A request that names a warning is answered as its rule on that warning says. -/
theorem byWarning_next {w : Fin 48} (h : s.awake) (hb : b.toNat = w.val) (hexec : exec c s = event (r.take tag [b]) s)
    (hfits : r.fits [b] = true) (hrun : ∀ u, r.run [b] u = reading (readWarningIndex [b]) (fun w => act w u) u)
    {t : State} {status : Status} (hact : act w (goodFrame s) = ⟨t, status, []⟩) :
    exec c s = .next (beginReply tag r.kind status [] t) := by
  rw [hexec]
  exact r.take_awake tag [b] s h hfits ((hrun _).trans ((reading_accepts _ _ _ w (readWarningIndex_some hb)).trans hact))

/-- The same for a request that is accepted, described by a property. -/
theorem byWarning_answers {w : Fin 48} (h : s.awake) (hb : b.toNat = w.val)
    (hexec : exec c s = event (r.take tag [b]) s) (hfits : r.fits [b] = true)
    (hrun : ∀ u, r.run [b] u = reading (readWarningIndex [b]) (fun w => act w u) u) {t : State}
    (hact : act w (goodFrame s) = Answer.ok t) {P : State → Prop} (hP : P (beginReply tag r.kind .ok [] t)) :
    Answers c s tag r.kind .ok [] P :=
  ⟨_, byWarning_next h hb hexec hfits hrun hact, by simp, hP⟩

end

/-! ### ACKNOWLEDGE WARNING (R92) -/

section
variable {w : Fin 48} {s : State}

theorem acknowledgeByHost_refuses (h : (s.warning w).state ∈ [.off, .rising, .disabled, .suppressed]) :
    acknowledgeByHost w s = Answer.refuse s .conflict := by
  have hstate : (s.warning w).state = .off ∨ (s.warning w).state = .rising ∨ (s.warning w).state = .disabled ∨
      (s.warning w).state = .suppressed := by simpa using h
  rcases hstate with hstate | hstate | hstate | hstate <;> simp [acknowledgeByHost, hstate]

/-- A warning that is ACTIVE_NEW or ACTIVE_SEEN, or LATCHED and not acknowledged, is acknowledged and its announcement
withdrawn. -/
theorem acknowledgeByHost_accepts (h : (s.warning w).state ∈ [.activeNew, .activeSeen] ∨
    ((s.warning w).state = .latched ∧ (s.warning w).acknowledged = false)) :
    acknowledgeByHost w s = Answer.ok (withdrawWarning w (acknowledgeWarning w s)) := by
  have hstate : ((s.warning w).state = .activeNew ∨ (s.warning w).state = .activeSeen) ∨
      ((s.warning w).state = .latched ∧ (s.warning w).acknowledged = false) := by simpa using h
  rcases hstate with (hstate | hstate) | ⟨hstate, hack⟩
  · simp [acknowledgeByHost, hstate]
  · simp [acknowledgeByHost, hstate]
  · simp [acknowledgeByHost, hstate, hack]

/-- A LATCHED warning that has been acknowledged is left. -/
theorem acknowledgeByHost_again (h : (s.warning w).state = .latched) (hack : (s.warning w).acknowledged = true) :
    acknowledgeByHost w s = Answer.ok s := by
  simp [acknowledgeByHost, h, hack]

theorem acknowledgeWarning_new (h : (s.warning w).state = .activeNew) : (acknowledgeWarning w s).warning w =
    { s.warning w with state := .activeSeen, acknowledged := true, reminderDue := s.reminderStart w } := by
  simp [acknowledgeWarning, h, judgeLampOf_warning]

theorem acknowledgeWarning_seen (h : (s.warning w).state = .activeSeen) : acknowledgeWarning w s = s := by
  simp [acknowledgeWarning, h]

theorem acknowledgeWarning_latched (h : (s.warning w).state = .latched) :
    (acknowledgeWarning w s).warning w = { s.warning w with acknowledged := true } := by
  simp [acknowledgeWarning, h, judgeLampOf_warning]

end

@[simp] theorem goodFrame_reminderStart (s : State) (w : Fin 48) : (goodFrame s).reminderStart w = s.reminderStart w := by
  simp [State.reminderStart]

section
variable {tag b : Byte} {s : State} {w : Fin 48}

/-- What an acknowledgement answers, with the warning that the withdrawal leaves (R90, R92). -/
theorem acknowledgeWarning_answers (h : s.awake) (hb : b.toNat = w.val)
    (hstate : (s.warning w).state ∈ [.activeNew, .activeSeen] ∨
      ((s.warning w).state = .latched ∧ (s.warning w).acknowledged = false)) {r : Warning}
    (hr : { (acknowledgeWarning w (goodFrame s)).warning w with mark := .none } = r) :
    Answers (.acknowledgeWarning tag [b]) s tag 0x31#8 .ok [] fun t =>
      t.warning w = r ∧ s.sameBut t [.lp, .weu, .dtu, .anu] := by
  refine byWarning_answers (r := acknowledgeWarningRequest) (act := acknowledgeByHost) h hb rfl rfl (fun _ => rfl)
    (acknowledgeByHost_accepts (by simpa using hstate)) ⟨?_, (State.sameBut_parts _ _ _).mpr (by simp)⟩
  simp [withdrawWarning_warning, hr]

/-- ACKNOWLEDGE WARNING, by the state of the warning. -/
theorem acknowledgeWarning_byState (h : s.awake) (hb : b.toNat = w.val) :
    ((s.warning w).state ∈ [.off, .rising, .disabled, .suppressed] →
      exec (.acknowledgeWarning tag [b]) s = .next (beginReply tag 0x31#8 .conflict [] (goodFrame s))) ∧
    ((s.warning w).state = .activeNew → Answers (.acknowledgeWarning tag [b]) s tag 0x31#8 .ok [] fun t =>
      t.warning w = { s.warning w with
        state := .activeSeen, acknowledged := true, mark := .none, reminderDue := s.reminderStart w } ∧
      s.sameBut t [.lp, .weu, .dtu, .anu]) ∧
    ((s.warning w).state = .activeSeen → Answers (.acknowledgeWarning tag [b]) s tag 0x31#8 .ok [] fun t =>
      t.warning w = { s.warning w with mark := .none } ∧ s.sameBut t [.lp, .weu, .dtu, .anu]) ∧
    ((s.warning w).state = .latched → Answers (.acknowledgeWarning tag [b]) s tag 0x31#8 .ok [] fun t =>
      t.warning w = (if (s.warning w).acknowledged = true then s.warning w
        else { s.warning w with acknowledged := true, mark := .none }) ∧
      s.sameBut t [.lp, .weu, .dtu, .anu]) := by
  refine ⟨fun hstate => ?_, fun hstate => ?_, fun hstate => ?_, fun hstate => ?_⟩
  · exact byWarning_next (r := acknowledgeWarningRequest) h hb rfl rfl (fun _ => rfl)
      (acknowledgeByHost_refuses (by simpa using hstate))
  · refine acknowledgeWarning_answers h hb (.inl (by simp [hstate])) ?_
    rw [acknowledgeWarning_new (by simpa using hstate)]
    simp
  · refine acknowledgeWarning_answers h hb (.inl (by simp [hstate])) ?_
    rw [acknowledgeWarning_seen (by simpa using hstate)]
    simp
  · by_cases hack : (s.warning w).acknowledged = true
    · exact byWarning_answers (r := acknowledgeWarningRequest) h hb rfl rfl (fun _ => rfl)
        (acknowledgeByHost_again (by simpa using hstate) (by simpa using hack))
        ⟨by simp [hack], (State.sameBut_parts _ _ _).mpr (by simp)⟩
    · refine acknowledgeWarning_answers h hb (.inr ⟨hstate, by simpa using hack⟩) ?_
      rw [acknowledgeWarning_latched (by simpa using hstate), if_neg hack]
      simp

end

/-! ### CLEAR WARNING (R93) -/

section
variable {w : Fin 48} {s : State}

theorem clearByHost_latched (h : (s.warning w).state = .latched) : clearByHost w s = Answer.ok (goOff w .cleared s) := by
  simp [clearByHost, h]

theorem clearByHost_leaves (h : (s.warning w).state ∈ [.off, .disabled, .suppressed]) : clearByHost w s = Answer.ok s := by
  have hstate : (s.warning w).state = .off ∨ (s.warning w).state = .disabled ∨ (s.warning w).state = .suppressed := by
    simpa using h
  rcases hstate with hstate | hstate | hstate <;> simp [clearByHost, hstate]

theorem clearByHost_refuses (h : (s.warning w).state ∈ [.rising, .activeNew, .activeSeen]) :
    clearByHost w s = Answer.refuse s .conflict := by
  have hstate : (s.warning w).state = .rising ∨ (s.warning w).state = .activeNew ∨ (s.warning w).state = .activeSeen := by
    simpa using h
  rcases hstate with hstate | hstate | hstate <;> simp [clearByHost, hstate]

end

/-- CLEAR WARNING, by the state of the warning. -/
theorem clearWarning_byState {tag b : Byte} {s : State} {w : Fin 48} (h : s.awake) (hb : b.toNat = w.val) :
    ((s.warning w).state = .latched → Answers (.clearWarning tag [b]) s tag 0x32#8 .ok [] fun t =>
      t.warning w = ⟨.off, false, none, none, .none⟩ ∧ Reported .warningEnded .stop w.val 1 s t ∧
      s.sameBut t [.lp, .weu, .dtu, .anu]) ∧
    ((s.warning w).state ∈ [.off, .disabled, .suppressed] →
      exec (.clearWarning tag [b]) s = .next (beginReply tag 0x32#8 .ok [] (goodFrame s))) ∧
    ((s.warning w).state ∈ [.rising, .activeNew, .activeSeen] →
      exec (.clearWarning tag [b]) s = .next (beginReply tag 0x32#8 .conflict [] (goodFrame s))) := by
  refine ⟨fun hstate => ?_, fun hstate => ?_, fun hstate => ?_⟩
  · have hreported : Reported .warningEnded .stop w.val 1 s (goOff w .cleared (goodFrame s)) :=
      .ofGoodFrame (goOff_reported w .cleared (goodFrame s))
    exact byWarning_answers (r := clearWarningRequest) h hb rfl rfl (fun _ => rfl)
      (clearByHost_latched (by simpa using hstate))
      ⟨by simp [goOff_ended], hreported.beginReply _ _ _ _, (State.sameBut_parts _ _ _).mpr (by simp)⟩
  · exact byWarning_next (r := clearWarningRequest) h hb rfl rfl (fun _ => rfl)
      (clearByHost_leaves (by simpa using hstate))
  · exact byWarning_next (r := clearWarningRequest) h hb rfl rfl (fun _ => rfl)
      (clearByHost_refuses (by simpa using hstate))

/-! ### SUPPRESS WARNING and RESTORE WARNING (R94, R95) -/

section
variable (w : Fin 48) (s : State)

theorem suppress_warning : (suppress w s).warning w = ⟨.suppressed, false, none, none, .none⟩ := by
  have hrested : (withdrawWarning w (s.setWarning w ((s.warning w).restedIn .suppressed))).warning w =
      ⟨.suppressed, false, none, none, .none⟩ := by simp [withdrawWarning_warning, Warning.restedIn]
  unfold suppress
  rw [judgeLampOf_warning]
  split
  · exact (State.warning_of _ _ (by simp) w).trans hrested
  · exact hrested

variable {w s}

/-- An engaged warning that is set aside ends with its report (R94). -/
theorem suppress_reported (h : (s.warning w).state.engaged = true) :
    Reported .warningEnded .stop w.val 2 s (suppress w s) := by
  have hwithdrawn := withdrawWarning_link w (s.setWarning w ((s.warning w).restedIn .suppressed))
  refine hand_reported _ _ _ s (withdrawWarning w (s.setWarning w ((s.warning w).restedIn .suppressed))) _
    (by simpa using hwithdrawn.1) (by simp) ?_ ?_
  · simp [suppress, h, handWarningEnded]
  · simp only [suppress, h, if_true, judgeLampOf_frame]
    exact List.prefix_rfl

/-- A warning that is neither engaged nor announced is set aside without a report (R94). -/
theorem suppress_quiet (h : (s.warning w).state.engaged = false) (hmark : (s.warning w).mark = .none) :
    (suppress w s).lp = s.lp ∧ (suppress w s).dtu = s.dtu ∧ (suppress w s).anu = s.anu := by
  have hkept : withdrawWarning w (s.setWarning w ((s.warning w).restedIn .suppressed)) =
      s.setWarning w ((s.warning w).restedIn .suppressed) := withdrawWarning_unmarked (by simp [Warning.restedIn, hmark])
  simp [suppress, h, hkept]

theorem suppressByHost_accepts (h : (s.warning w).state ∉ [.disabled, .suppressed]) :
    suppressByHost w s = Answer.ok (suppress w s) := by
  cases hstate : (s.warning w).state <;> simp_all [suppressByHost]

theorem suppressByHost_refuses (h : (s.warning w).state = .disabled) :
    suppressByHost w s = Answer.refuse s .conflict := by
  simp [suppressByHost, h]

theorem suppressByHost_again (h : (s.warning w).state = .suppressed) : suppressByHost w s = Answer.ok s := by
  simp [suppressByHost, h]

theorem restoreByHost_restores (h : (s.warning w).state = .suppressed) : restoreByHost w s =
    Answer.ok (judgeLampOf w (s.setWarning w { s.warning w with state := .off, acknowledged := false })) := if_pos h

theorem restoreByHost_refuses (h : (s.warning w).state ≠ .suppressed) : restoreByHost w s = Answer.refuse s .conflict :=
  if_neg h

end

theorem WarnState.engaged_iff (x : WarnState) : x.engaged = true ↔ x ∈ [.activeNew, .activeSeen, .latched] := by
  cases x <;> decide

section
variable {tag b : Byte} {s : State} {w : Fin 48}

/-- SUPPRESS WARNING, by the state of the warning. -/
theorem suppressWarning_byState (h : s.awake) (hb : b.toNat = w.val) :
    ((s.warning w).state = .disabled →
      exec (.suppressWarning tag [b]) s = .next (beginReply tag 0x33#8 .conflict [] (goodFrame s))) ∧
    ((s.warning w).state = .suppressed →
      exec (.suppressWarning tag [b]) s = .next (beginReply tag 0x33#8 .ok [] (goodFrame s))) ∧
    ((s.warning w).state ∉ [.disabled, .suppressed] → Answers (.suppressWarning tag [b]) s tag 0x33#8 .ok [] fun t =>
      t.warning w = ⟨.suppressed, false, none, none, .none⟩ ∧ s.sameBut t [.lp, .weu, .dtu, .anu] ∧
      ((s.warning w).state ∈ [.activeNew, .activeSeen, .latched] → Reported .warningEnded .stop w.val 2 s t) ∧
      ((s.warning w).state ∈ [.off, .rising] → (s.warning w).mark = .none →
        t.lp.queue = (goodFrame s).lp.queue ∧ t.lp.held = s.lp.held ∧ s.sameBut t [.lp, .weu])) := by
  refine ⟨fun hstate => ?_, fun hstate => ?_, fun hstate => ?_⟩
  · exact byWarning_next (r := suppressWarningRequest) h hb rfl rfl (fun _ => rfl)
      (suppressByHost_refuses (by simpa using hstate))
  · exact byWarning_next (r := suppressWarningRequest) h hb rfl rfl (fun _ => rfl)
      (suppressByHost_again (by simpa using hstate))
  · refine byWarning_answers (r := suppressWarningRequest) h hb rfl rfl (fun _ => rfl)
      (suppressByHost_accepts (by simpa using hstate))
      ⟨by simp [suppress_warning], (State.sameBut_parts _ _ _).mpr (by simp), fun hengaged => ?_, fun hresting hmark => ?_⟩
    · have hreported : Reported .warningEnded .stop w.val 2 s (suppress w (goodFrame s)) :=
        .ofGoodFrame (suppress_reported (by simpa using (WarnState.engaged_iff _).mpr hengaged))
      exact hreported.beginReply _ _ _ _
    · have hnot : (s.warning w).state.engaged = false := by
        have hcases : (s.warning w).state = .off ∨ (s.warning w).state = .rising := by simpa using hresting
        rcases hcases with hx | hx <;> simp [hx, WarnState.engaged]
      obtain ⟨hlp, hdtu, hanu⟩ := suppress_quiet (w := w) (s := goodFrame s) (by simpa using hnot) (by simpa using hmark)
      exact ⟨by simp [hlp], by simp [hlp], (State.sameBut_parts _ _ _).mpr (by simp [hdtu, hanu])⟩

/-- RESTORE WARNING, by the state of the warning. -/
theorem restoreWarning_byState (h : s.awake) (hb : b.toNat = w.val) :
    ((s.warning w).state = .suppressed → Answers (.restoreWarning tag [b]) s tag 0x34#8 .ok [] fun t =>
      t.warning w = { s.warning w with state := .off, acknowledged := false } ∧
      t.lp.queue = (goodFrame s).lp.queue ∧ t.lp.held = s.lp.held ∧ s.sameBut t [.lp, .weu]) ∧
    ((s.warning w).state ≠ .suppressed →
      exec (.restoreWarning tag [b]) s = .next (beginReply tag 0x34#8 .conflict [] (goodFrame s))) := by
  refine ⟨fun hstate => ?_, fun hstate => ?_⟩
  · exact byWarning_answers (r := restoreWarningRequest) h hb rfl rfl (fun _ => rfl)
      (restoreByHost_restores (by simpa using hstate))
      ⟨by simp [judgeLampOf_warning], by simp, by simp, (State.sameBut_parts _ _ _).mpr (by simp)⟩
  · exact byWarning_next (r := restoreWarningRequest) h hb rfl rfl (fun _ => rfl)
      (restoreByHost_refuses (by simpa using hstate))

end

/-! ### CONFIGURE WARNING (R96) -/

section
variable (w : Fin 48) (c : WarnSettings) (s : State)

theorem reconfigureWarning_cfg :
    (reconfigureWarning w c s).cfg = { s.cfg with warnings := s.cfg.warnings.set w c } := by
  simp [reconfigureWarning, State.setWarnSettings]

/-- Beside the configuration and the warning itself, a reconfiguration changes what putting the warning OFF changes. -/
theorem reconfigureWarning_rest : (reconfigureWarning w c s).lp = (putOff w s).lp ∧
    (reconfigureWarning w c s).dtu = (putOff w s).dtu ∧ (reconfigureWarning w c s).anu = (putOff w s).anu := by
  simp [reconfigureWarning]

theorem judgeLamp?_warning (l : Option (Fin 32)) (x : Fin 48) (u : State) :
    (judgeLamp? l u).warning x = u.warning x := by
  cases l <;> rfl

/-- OFF or DISABLED under the new configuration, with the timers stopped. -/
theorem reconfigureWarning_warning : (reconfigureWarning w c s).warning w =
    ((putOff w s).warning w).restedIn (if c.enabled = true then .off else .disabled) := by
  simp [reconfigureWarning, judgeLamp?_warning, State.setWarnSettings]

end

/-- CONFIGURE WARNING accepted (R96). -/
theorem configureWarning_answers {tag : Byte} {body : List Byte} {s : State} {w : Fin 48} {c : WarnSettings}
    (h : s.configurable) (hlength : body.length = 11) (hread : readWarnSettings body = some (w, c)) :
    Answers (.configureWarning tag body) s tag 0x30#8 .ok [] fun t =>
      t.cfg = { s.cfg with warnings := s.cfg.warnings.set w c } ∧
      (t.warning w).state = (if c.enabled = true then .off else .disabled) ∧ (t.warning w).acknowledged = false ∧
      (t.warning w).raiseDue = none ∧ (t.warning w).reminderDue = none ∧ s.sameBut t [.cfg, .lp, .weu, .dtu, .anu] ∧
      ((s.warning w).state ∉ [.off, .disabled] → Reported .warningEnded .stop w.val 3 s t) ∧
      ((s.warning w).state ∈ [.off, .disabled] →
        t.lp.queue = (goodFrame s).lp.queue ∧ t.lp.held = s.lp.held ∧ s.sameBut t [.cfg, .lp, .weu]) := by
  refine ⟨_, configuring_next (r := configureWarningRequest) h rfl (exactly_length hlength) rfl hread rfl, rfl, ?_⟩
  have hcfg := reconfigureWarning_cfg w c (goodFrame s)
  have hwarning := reconfigureWarning_warning w c (goodFrame s)
  obtain ⟨hlp, hdtu, hanu⟩ := reconfigureWarning_rest w c (goodFrame s)
  obtain ⟨hleft, hoff⟩ := putOff_cases w (goodFrame s)
  simp only [goodFrame_frame, goodFrame_reads] at hcfg hleft hoff
  simp only [beginReply_reads, hwarning, beginReply_frame]
  refine ⟨hcfg, rfl, rfl, rfl, rfl, (State.sameBut_parts _ _ _).mpr (by simp), fun hstate => ?_, fun hstate => ?_⟩
  · rw [hoff hstate] at hlp hdtu
    refine Reported.beginReply (.ofGoodFrame ?_) _ _ _ _
    exact (goOff_reported w .reconfigured (goodFrame s)).widen List.prefix_rfl rfl (by rw [hdtu]) (by rw [hlp])
  · rw [hleft hstate] at hlp hdtu hanu
    exact ⟨by simp [hlp], by simp [hlp], (State.sameBut_parts _ _ _).mpr (by simp [hdtu, hanu])⟩

/-- Settles O40: each request is its rule on the warning, behind step 1 of R175. -/
theorem warningRequestsByState : Obligations.WarningRequestsByState := by
  refine ⟨fun tag b s h hb => ⟨?_, ?_, ?_, ?_⟩, fun tag body s h hlength hout => ?_, fun tag b s w r h hb hr => ?_⟩
  · exact byWarning_range (r := acknowledgeWarningRequest) h hb rfl rfl fun _ => rfl
  · exact byWarning_range (r := clearWarningRequest) h hb rfl rfl fun _ => rfl
  · exact byWarning_range (r := suppressWarningRequest) h hb rfl rfl fun _ => rfl
  · exact byWarning_range (r := restoreWarningRequest) h hb rfl rfl fun _ => rfl
  · exact configuring_answersRange (r := configureWarningRequest) h rfl (exactly_length hlength) rfl
      (hout.elim id readWarnSettings_out)
  · subst hr
    obtain ⟨hackRefused, hackNew, hackSeen, hackLatched⟩ := acknowledgeWarning_byState (tag := tag) h hb
    obtain ⟨hclear, hclearLeft, hclearRefused⟩ := clearWarning_byState (tag := tag) h hb
    obtain ⟨hsuppressRefused, hsuppressAgain, hsuppress⟩ := suppressWarning_byState (tag := tag) h hb
    obtain ⟨hrestore, hrestoreRefused⟩ := restoreWarning_byState (tag := tag) h hb
    exact ⟨hackRefused, hackNew, hackSeen, hackLatched, hclear, hclearLeft, hclearRefused, hsuppressRefused,
      hsuppressAgain, hsuppress, hrestore, hrestoreRefused,
      fun body c hsaving => configureWarning_answers ⟨h, hsaving⟩⟩

end Sys2Proof.Machine
end

section
/-! PROOFS. O41: the entry to ACTIVE_NEW, the raise delay and the reminder (R87, R88, R91). -/
namespace Sys2Proof.Machine

/-! ### What an offer changes of the warnings: announcement marks alone (R142) -/

/-- Every warning is as it was but for its announcement mark. -/
def OnlyMarks (s t : State) : Prop := ∀ x, t.warning x = { s.warning x with mark := (t.warning x).mark }

section
variable {s t u : State}

theorem OnlyMarks.trans (h : OnlyMarks s t) (k : OnlyMarks t u) : OnlyMarks s u := fun x => by
  rw [k x, h x]

theorem OnlyMarks.of_weu (h : t.weu = s.weu) : OnlyMarks s t := fun x => by
  rw [State.warning_of s t h]

theorem OnlyMarks.setMark (w : Fin 48) (m : AnnMark) : OnlyMarks s (s.setMark w m) := fun x => by
  by_cases hx : x = w
  · simp [State.setMark, hx]
  · simp [State.setMark, hx]

end

theorem endEntry_onlyMarks {cause : EndCause} (e : Entry) (s : State) (h : cause ≠ .acknowledged) :
    OnlyMarks s (endEntry cause e s) := by
  have howner : OnlyMarks s (tellOwner cause e s) := by
    unfold tellOwner
    split
    · exact .of_weu rfl
    · exact .of_weu rfl
    · exact absurd rfl h
    · exact .setMark _ .none
    · exact .of_weu rfl
    · exact .of_weu rfl
  exact howner.trans (.of_weu (by simp [endEntry]))

theorem decideLine_onlyMarks (s : State) : OnlyMarks s (decideLine s) := by
  have hdisplace (sh : Shown) : OnlyMarks s (displace sh s) := by
    unfold displace
    dsimp only
    split
    · exact .of_weu (by simp)
    · exact OnlyMarks.trans (.of_weu (by simp)) (endEntry_onlyMarks _ (showHead (stopShown s)) (by simp))
  unfold decideLine
  (repeat' split)
  · exact .of_weu rfl
  · exact .of_weu (by simp)
  · exact hdisplace _
  · exact .of_weu rfl

theorem joinQueue_onlyMarks (o : Offer) (s : State) : OnlyMarks s (joinQueue o s) :=
  OnlyMarks.trans (.of_weu (by simp)) (decideLine_onlyMarks _)

theorem offer_onlyMarks (o : Offer) (s : State) : OnlyMarks s (offer o s) := by
  unfold offer updateShown updateWaiting offerOnFull
  (repeat' split)
  · exact .of_weu (by simp)
  · exact .of_weu (by simp)
  · exact joinQueue_onlyMarks o s
  · exact joinQueue_onlyMarks o s
  · exact OnlyMarks.trans (.of_weu (by simp)) ((endEntry_onlyMarks _ (s.setQueue s.anu.queue.dropLast)
      (by simp)).trans (joinQueue_onlyMarks o _))
  · exact OnlyMarks.trans (.of_weu (by simp)) (endEntry_onlyMarks _ (gainArrival s) (by simp))

theorem offerWarning_onlyMarks (w : Fin 48) (kind : AnnKind) (mark : AnnMark) (s : State) :
    OnlyMarks s (offerWarning w kind mark s) := by
  unfold offerWarning
  dsimp only
  split
  · exact .of_weu rfl
  · exact (OnlyMarks.setMark w mark).trans (offer_onlyMarks _ _)

/-! ### An offer on an empty line (R139, R145) -/

/-- An entry is held, waiting or shown, that says what an offer says. -/
def Holds (o : Offer) (s : State) : Prop := ∃ e ∈ s.anu.entries,
  e.source = o.source ∧ e.message = o.message ∧ e.cls = o.cls ∧ e.chime = o.chime ∧ e.kind = o.kind

/-- An offer on an empty line is the one entry held: it waits under a hold, and is shown with none. -/
theorem offer_empty (o : Offer) {s : State} (hqueue : s.anu.queue = []) (hshown : s.anu.shown = none) :
    (offer o s).weu = s.weu ∧ Holds o (offer o s) := by
  obtain ⟨u, hu⟩ : ∃ u, u = (gainArrival s).setQueue [(gainArrival s).newEntry o] := ⟨_, rfl⟩
  have hgained : (gainArrival s).anu.queue = [] ∧ (gainArrival s).anu.shown = none := by
    unfold gainArrival
    dsimp only
    split <;> simp [renumber, hqueue, hshown]
  have hoffer : offer o s = decideLine u := by
    simp [offer, joinQueue, Annunciation.waits, hqueue, hshown, hgained.1, hu, enqueue]
  have hwaits : u.anu.queue = [(gainArrival s).newEntry o] ∧ u.anu.shown = none := by
    simp [hu, State.setQueue, hgained.2]
  rw [hoffer]
  refine ⟨(decideLine_unshown hwaits.2).trans (by simp [hu]), ?_⟩
  cases hheld : u.anu.held with
  | true =>
    rw [decideLine_held u hheld]
    exact ⟨(gainArrival s).newEntry o, by simp [Annunciation.entries, hwaits], rfl, rfl, rfl, rfl, rfl⟩
  | false =>
    rw [decideLine_head u _ [] hheld hwaits.2 hwaits.1]
    obtain ⟨-, hnow, -⟩ := beginShowing_anu ((gainArrival s).newEntry o) (u.setQueue [])
    exact ⟨{ (gainArrival s).newEntry o with shownBefore := true }, by simp [Annunciation.entries, hnow, State.beginTimers],
      rfl, rfl, rfl, rfl, rfl⟩

/-! ### The entry to ACTIVE_NEW (R88) -/

section
variable {w : Fin 48} {s : State}

/-- A warning as it enters ACTIVE_NEW. -/
def Warning.raised (r : Warning) : Warning :=
  { r with state := .activeNew, acknowledged := false, raiseDue := none, reminderDue := none }

/-- The entry to ACTIVE_NEW before its offer: the warning raised and WARNING RAISED handed on. -/
def State.raised (s : State) (w : Fin 48) (fromLatched : Bool) : State :=
  handWarningRaised w (s.cfg.warnings.get w).cls fromLatched (s.offersAtRaise w)
    (s.setWarning w (s.warning w).raised)

theorem State.offersAtRaise_iff : s.offersAtRaise w = true ↔
    (s.cfg.warnings.get w).message ≠ none ∧ (s.warning w).mark ≠ .normal := by
  simp [State.offersAtRaise, Option.isSome_iff_ne_none]

theorem enterActiveNew_silent (fromLatched : Bool) (h : s.offersAtRaise w = false) :
    enterActiveNew w fromLatched s = judgeLampOf w (s.raised w fromLatched) := by
  simp [enterActiveNew, h, State.raised, Warning.raised]

theorem enterActiveNew_announces (fromLatched : Bool) (h : s.offersAtRaise w = true) :
    enterActiveNew w fromLatched s = judgeLampOf w (offerWarning w .normal .normal (s.raised w fromLatched)) := by
  simp [enterActiveNew, h, State.raised, Warning.raised]

theorem offerWarning_offers {kind : AnnKind} {mark : AnnMark} {m : Fin 64}
    (h : (s.cfg.warnings.get w).message = some m) : offerWarning w kind mark s =
      offer ⟨.warning w, (s.cfg.warnings.get w).cls.announced, m, (s.cfg.warnings.get w).chime, kind⟩ (s.setMark w mark) := by
  simp [offerWarning, h]

@[simp] theorem State.raised_parts (fromLatched : Bool) : (s.raised w fromLatched).cfg = s.cfg ∧
    (s.raised w fromLatched).now = s.now ∧ (s.raised w fromLatched).dtu = s.dtu ∧
    (s.raised w fromLatched).anu = s.anu ∧ (s.raised w fromLatched).warning w = (s.warning w).raised := by
  simp [State.raised, handWarningRaised]

/-- After WARNING RAISED the entry hands on further reports alone, and changes no more of a warning than its mark. -/
theorem enterActiveNew_after (w : Fin 48) (fromLatched : Bool) (s : State) :
    LinkGrows (s.raised w fromLatched) (enterActiveNew w fromLatched s) ∧
    (enterActiveNew w fromLatched s).dtu.clock = s.dtu.clock ∧
    OnlyMarks (s.raised w fromLatched) (enterActiveNew w fromLatched s) := by
  have hlamp (u : State) : LinkGrows u (judgeLampOf w u) ∧ OnlyMarks u (judgeLampOf w u) :=
    ⟨.of_lp (by simp), fun x => by simp [judgeLampOf_warning]⟩
  cases h : s.offersAtRaise w with
  | false =>
    rw [enterActiveNew_silent fromLatched h]
    exact ⟨(hlamp _).1, by simp, (hlamp _).2⟩
  | true =>
    rw [enterActiveNew_announces fromLatched h]
    refine ⟨(offerWarning_link w _ _ _).trans (hlamp _).1, ?_, (offerWarning_onlyMarks w _ _ _).trans (hlamp _).2⟩
    simpa using (offerWarning_duty True w .normal .normal (s.raised w fromLatched)).1

theorem enterActiveNew_warning (w : Fin 48) (fromLatched : Bool) (s : State) :
    ((enterActiveNew w fromLatched s).warning w).state = .activeNew ∧
    ((enterActiveNew w fromLatched s).warning w).acknowledged = false ∧
    ((enterActiveNew w fromLatched s).warning w).raiseDue = none ∧
    ((enterActiveNew w fromLatched s).warning w).reminderDue = none := by
  obtain ⟨-, -, hmarks⟩ := enterActiveNew_after w fromLatched s
  rw [hmarks w]
  simp [Warning.raised]

/-- WARNING RAISED with its detail (R88, R196). -/
theorem enterActiveNew_reported (w : Fin 48) (fromLatched : Bool) (s : State) :
    Reported .warningRaised (s.cfg.warnings.get w).cls w.val
      (code WarnClass.list (s.cfg.warnings.get w).cls + (if fromLatched = true then 4 else 0) +
        (if s.offersAtRaise w = true then 8 else 0)) s (enterActiveNew w fromLatched s) := by
  obtain ⟨hlink, hclock, -⟩ := enterActiveNew_after w fromLatched s
  exact handWith_reported _ (s.offersAtRaise w) _ _ _ s (s.setWarning w (s.warning w).raised) _ (by simp) (by simp)
    (by simpa using hclock) hlink.1

/-- Without an offer the line and the mark stay. -/
theorem enterActiveNew_unannounced (fromLatched : Bool) (h : s.offersAtRaise w = false) :
    (enterActiveNew w fromLatched s).anu = s.anu ∧
    ((enterActiveNew w fromLatched s).warning w).mark = (s.warning w).mark := by
  rw [enterActiveNew_silent fromLatched h]
  simp [judgeLampOf_warning, Warning.raised]

/-- A warning that offers on an empty line is announced. -/
theorem offerWarning_announced {kind : AnnKind} {mark : AnnMark} {m : Fin 64}
    (h : (s.cfg.warnings.get w).message = some m) (hqueue : s.anu.queue = []) (hshown : s.anu.shown = none) :
    ((offerWarning w kind mark s).warning w).mark = mark ∧
    Holds ⟨.warning w, (s.cfg.warnings.get w).cls.announced, m, (s.cfg.warnings.get w).chime, kind⟩
      (offerWarning w kind mark s) := by
  rw [offerWarning_offers h]
  obtain ⟨hweu, hholds⟩ := offer_empty
    ⟨.warning w, (s.cfg.warnings.get w).cls.announced, m, (s.cfg.warnings.get w).chime, kind⟩
    (s := s.setMark w mark) (by simpa using hqueue) (by simpa using hshown)
  exact ⟨by rw [State.warning_of _ _ hweu]; simp [State.setMark], hholds⟩

theorem enterActiveNew_announced (fromLatched : Bool) {m : Fin 64} (h : (s.cfg.warnings.get w).message = some m)
    (hmark : (s.warning w).mark ≠ .normal) (hqueue : s.anu.queue = []) (hshown : s.anu.shown = none) :
    ((enterActiveNew w fromLatched s).warning w).mark = .normal ∧
    Holds ⟨.warning w, (s.cfg.warnings.get w).cls.announced, m, (s.cfg.warnings.get w).chime, .normal⟩
      (enterActiveNew w fromLatched s) := by
  have hoffers : s.offersAtRaise w = true := State.offersAtRaise_iff.mpr ⟨by simp [h], hmark⟩
  obtain ⟨hnormal, hholds⟩ := offerWarning_announced (w := w) (s := s.raised w fromLatched) (kind := .normal)
    (mark := .normal) (by simpa using h) (by simpa using hqueue) (by simpa using hshown)
  rw [enterActiveNew_announces fromLatched hoffers, judgeLampOf_warning]
  exact ⟨hnormal, by simpa [Holds] using hholds⟩

end

/-! ### The timers (R87, R91) -/

section
variable {w : Fin 48} {s : State} {due : Nat}

theorem onTimer_running (due : Nat) (f : State → State) (s : State) : onTimer (some due) f s = f (s.reach due) := rfl

theorem raiseDelayExpiry_next (hpowered : s.powered = true) (hdue : (s.warning w).raiseDue = some due) :
    exec (.raiseDelayExpiry w) s = .next (enterActiveNew w false (s.reach due)) := by
  have hexec : exec (.raiseDelayExpiry w) s = execRaiseDelayExpiry w s := rfl
  rw [hexec, execRaiseDelayExpiry, event_powered _ s hpowered]
  simp only [hdue, onTimer_running]

theorem reminderExpiry_next (hpowered : s.powered = true) (hdue : (s.warning w).reminderDue = some due) :
    exec (.reminderExpiry w) s = .next (reminderExpired w (s.reach due)) := by
  have hexec : exec (.reminderExpiry w) s = execReminderExpiry w s := rfl
  rw [hexec, execReminderExpiry, event_powered _ s hpowered]
  simp only [hdue, onTimer_running]

/-- A reminder that expires starts its timer again and leaves the state of its warning. -/
theorem reminderExpired_warning (w : Fin 48) (s : State) :
    ((reminderExpired w s).warning w).state = (s.warning w).state ∧
    ((reminderExpired w s).warning w).reminderDue = some (s.now + (s.cfg.warnings.get w).reminder * 60000000) := by
  have hmarks := offerWarning_onlyMarks w .reminder .reminder (s.setWarning w { s.warning w with
    reminderDue := some (s.now + Config.minutes (s.cfg.warnings.get w).reminder) })
  rw [reminderExpired, hmarks w]
  simp [Config.minutes]

end

/-- Settles O41: the two expiries are the entry to ACTIVE_NEW and the REMINDER's offer at the time reached. -/
theorem raiseDelayAndReminderExpire : Obligations.RaiseDelayAndReminderExpire := by
  refine ⟨fun w fromLatched offered s u c hc hoffered hu => ?_, fun w s c hpowered hc =>
    ⟨fun due hdue => ?_, fun due m hdue hm => ?_⟩⟩
  · subst hc
    have hoffers : s.offersAtRaise w = offered := by
      rw [Bool.eq_iff_iff, State.offersAtRaise_iff, hoffered]
    have hraised : u = s.raised w fromLatched := by rw [hu, State.raised, hoffers]; rfl
    subst hraised
    refine ⟨fun h => enterActiveNew_silent fromLatched (hoffers.trans h), fun m h hm => ?_⟩
    rw [enterActiveNew_announces fromLatched (hoffers.trans h), offerWarning_offers (by simpa using hm)]
    simp [State.setMark]
  · subst hc
    have hself : (s.reach due).warning w = s.warning w := rfl
    obtain ⟨hstate, hack, hraise, hreminder⟩ := enterActiveNew_warning w false (s.reach due)
    refine ⟨_, raiseDelayExpiry_next hpowered hdue, by simp [State.reach], hstate, hack, hraise, hreminder,
      (State.sameBut_parts _ _ _).mpr (by simp), ?_, fun h => ?_, fun m hm hmark hqueue hshown => ?_⟩
    · simpa [Reported, State.offersAtRaise_iff, hself] using enterActiveNew_reported w false (s.reach due)
    · refine enterActiveNew_unannounced false (s := s.reach due) ?_
      rw [Bool.eq_false_iff, ne_eq, State.offersAtRaise_iff]
      rintro ⟨hmessage, hmark⟩
      exact h.elim hmessage hmark
    · exact enterActiveNew_announced false (s := s.reach due) hm hmark hqueue hshown
  · subst hc
    obtain ⟨hstate, hreminder⟩ := reminderExpired_warning w (s.reach due)
    refine ⟨_, reminderExpiry_next hpowered hdue, by simp [State.reach], hstate, ?_,
      (State.sameBut_parts _ _ _).mpr (by simp), fun hqueue hshown => ?_⟩
    · simpa using hreminder
    · obtain ⟨hmark, e, he, hsource, hmessage, -, -, hkind⟩ := offerWarning_announced (w := w) (kind := .reminder)
        (mark := .reminder) (s := (s.reach due).setWarning w { s.warning w with
          reminderDue := some ((s.reach due).now + Config.minutes (s.cfg.warnings.get w).reminder) })
        hm hqueue hshown
      exact ⟨hmark, e, he, hsource, hmessage, hkind⟩

end Sys2Proof.Machine
end

section
/-! PROOFS. O42: the drive level at a lamp sample (R102). -/
namespace Sys2Proof.Machine

/-! ### The drive level -/

section
variable {s : State} {q : Fin 48}

theorem State.dimmed_valid (hdimmer : s.cfg.dimmer = some q) (h : (s.entry q).status = .valid) :
    (s.dimmed : Int) = max 0 (min 100 (s.entry q).value) := by
  have hvalue : s.validValue s.cfg.dimmer = some (s.entry q).value := by
    rw [hdimmer]
    exact if_pos h
  simp only [State.dimmed, hvalue]
  omega

theorem State.dimmed_invalid (hdimmer : s.cfg.dimmer = some q) (h : (s.entry q).status ≠ .valid) : s.dimmed = 100 := by
  have hvalue : s.validValue s.cfg.dimmer = none := by
    rw [hdimmer]
    exact if_neg h
  simp only [State.dimmed, hvalue]

theorem State.dimmed_none (hdimmer : s.cfg.dimmer = none) : s.dimmed = 100 := by
  simp [State.dimmed, hdimmer, State.validValue]

/-- With the drive level at 0 no lamp is energised (R100, R102). -/
theorem State.energised_unlit (h : s.weu.driveLevel = 0) (l : Fin 32) : s.energised l = false := by
  simp [State.energised, h]

end

/-! ### The samples of the lamps (R104) -/

/-- A lamp sample before the lamps' turns: the timer runs on and the drive level is re-read (R102). -/
def State.sampleStart (s : State) (due : Nat) : State :=
  s.setWeu { s.weu with lampDue := some (due + 200000), driveLevel := s.dimmed }

section
variable (openLoads : BitVec 32) (due : Nat) (s : State)

theorem lampSampled_turns : lampSampled openLoads due s = forEach (sampleLamp openLoads) (s.sampleStart due) := rfl

/-- A lamp that is not energised is not sampled. -/
theorem sampleLamp_unlit {l : Fin 32} {s : State} (h : s.energised l = false) : sampleLamp openLoads l s = s := by
  simp [sampleLamp, h]

/-- A sample changes no more of the unit than the lamps. -/
theorem sampleLamp_weu (l : Fin 32) : (sampleLamp openLoads l s).weu =
    { s.weu with lamps := (sampleLamp openLoads l s).weu.lamps } := by
  unfold sampleLamp
  split
  · dsimp only
    split
    · rfl
    · split
      · simp only [hand_frame]
        rfl
      · rfl
    · rfl
    · simp only [hand_frame]
      rfl
  · rfl

theorem lampSampled_weu : (lampSampled openLoads due s).weu =
    { (s.sampleStart due).weu with lamps := (lampSampled openLoads due s).weu.lamps } := by
  rw [lampSampled_turns]
  refine forEach_keeps (fun t => t.weu = { (s.sampleStart due).weu with lamps := t.weu.lamps }) _ (fun l t ht => ?_) _ rfl
  rw [sampleLamp_weu, ht]

/-- With the drive level at 0 a sample changes no lamp. -/
theorem lampSampled_dark (h : s.dimmed = 0) : lampSampled openLoads due s = s.sampleStart due := by
  rw [lampSampled_turns]
  refine forEach_keeps (fun t => t = s.sampleStart due) _ (fun l t ht => ?_) _ rfl
  rw [sampleLamp_unlit openLoads (State.energised_unlit (by rw [ht]; exact h) l), ht]

variable {openLoads due s}

theorem lampSample_next (hpowered : s.powered = true) (hdue : s.weu.lampDue = some due) :
    exec (.lampSample openLoads) s = .next (lampSampled openLoads due (s.reach due)) := by
  have hexec : exec (.lampSample openLoads) s = execLampSample openLoads s := rfl
  rw [hexec, execLampSample, event_powered _ s hpowered]
  simp only [hdue]

theorem lampSampled_driveLevel : (lampSampled openLoads due (s.reach due)).weu.driveLevel = s.dimmed := by
  rw [lampSampled_weu]
  rfl

end

/-- Settles O42: the drive level of the sample is the one re-read. -/
theorem driveLevelFollowsTheDimmer : Obligations.DriveLevelFollowsTheDimmer := by
  intro openLoads s due hpowered hdue
  refine ⟨_, lampSample_next hpowered hdue, ?_⟩
  rw [lampSampled_driveLevel]
  refine ⟨fun q => State.dimmed_valid, fun q => State.dimmed_invalid, State.dimmed_none, fun hlevel => ?_⟩
  rw [lampSampled_dark openLoads due (s.reach due) hlevel]
  exact ⟨rfl, State.energised_unlit hlevel⟩

end Sys2Proof.Machine
end

section
/-! PROOFS. O43: the lamps: the drive table, CONFIGURE LAMP, SET LAMPS, the flash clock and the open-load samples (R100,
R103 to R106). -/
namespace Sys2Proof.Machine

/-! ### The drive table (R100) -/

section
variable {s : State} {l : Fin 32}

theorem driveOf_asleep (h : s.psc.state = .sleep) : s.driveOf l = .dark := if_pos h

theorem driveOf_proved (h : s.psc.state = .proving) (hproved : (s.cfg.lamps.get l).proved = true) :
    s.driveOf l = .steady := by
  simp [State.driveOf, h, hproved]

theorem contributes_iff (w : Fin 48) : s.contributes l w = true ↔ (s.cfg.warnings.get w).lamp = some l ∧
    (s.warning w).state ∈ [.activeNew, .activeSeen, .latched] := by
  simp only [State.contributes, Bool.and_eq_true, decide_eq_true_eq, WarnState.engaged_iff]

theorem flashes_iff (w : Fin 48) : s.flashes l w = true ↔ (s.cfg.warnings.get w).lamp = some l ∧
    (s.cfg.warnings.get w).cls = .stop ∧ ((s.warning w).state = .activeNew ∨
      ((s.warning w).state = .latched ∧ (s.warning w).acknowledged = false)) := by
  have hengaged : ((s.warning w).state = .activeNew ∨
      ((s.warning w).state = .latched ∧ (s.warning w).acknowledged = false)) →
      (s.warning w).state ∈ [.activeNew, .activeSeen, .latched] := by
    rintro (h | ⟨h, -⟩) <;> simp [h]
  simp only [State.flashes, Bool.and_eq_true, contributes_iff, decide_eq_true_eq, Bool.or_eq_true, Bool.not_eq_true']
  constructor
  · rintro ⟨⟨⟨hlamp, -⟩, hstop⟩, hstate⟩
    exact ⟨hlamp, hstop, hstate⟩
  · rintro ⟨hlamp, hstop, hstate⟩
    exact ⟨⟨⟨hlamp, hengaged hstate⟩, hstop⟩, hstate⟩

theorem ruleDrive_flashing_iff : s.ruleDrive l = .flashing ↔ ∃ w, s.flashes l w = true := by
  unfold State.ruleDrive
  split
  · next h => simpa using h
  · next h =>
    have hnone : ¬∃ w, s.flashes l w = true := by simpa using h
    split <;> simpa using hnone

/-- What flashes contributes, so that a lamp is dark when no warning contributes. -/
theorem ruleDrive_dark_iff : s.ruleDrive l = .dark ↔ ∀ w, s.contributes l w = false := by
  unfold State.ruleDrive
  split
  · next h =>
    obtain ⟨w, hw⟩ : ∃ w, s.flashes l w = true := by simpa using h
    have hcontributes : s.contributes l w = true := by
      simp only [State.flashes, Bool.and_eq_true] at hw
      exact hw.1.1
    simpa using ⟨w, hcontributes⟩
  · split
    · next h => simpa using h
    · next h => simpa using h

/-- Outside SLEEP, and outside the lamp's proof, the mode decides. -/
theorem driveOf_byMode (h : s.psc.state ≠ .sleep)
    (hproof : s.psc.state ≠ .proving ∨ (s.cfg.lamps.get l).proved = false) :
    ((s.cfg.lamps.get l).mode = .off → s.driveOf l = .dark) ∧
    ((s.cfg.lamps.get l).mode = .host → s.driveOf l = (s.lamp l).hostLevel.drive) ∧
    ((s.cfg.lamps.get l).mode = .rule → s.driveOf l = s.ruleDrive l) := by
  have hunproved : ¬(s.psc.state = .proving ∧ (s.cfg.lamps.get l).proved = true) := by
    rintro ⟨hproving, hproved⟩
    exact hproof.elim (· hproving) fun hfalse => by simp [hfalse] at hproved
  unfold State.driveOf
  rw [if_neg h, if_neg hunproved]
  refine ⟨fun hmode => ?_, fun hmode => ?_, fun hmode => ?_⟩ <;> rw [hmode]

end

/-! ### A lamp re-judged, and a host level stored (R100, R103) -/

section
variable (l x : Fin 32) (s : State)

theorem judgeLamp_lamp : (judgeLamp l s).lamp x =
    if x = l then (s.lamp l).drivenAs ((judgeLamp l s).driveOf l) else s.lamp x := by
  rw [judgeLamp_driveOf, judgeLamp, State.setLamp_lamp]

theorem setHostLevel_lamp (level : HostLevel) : (setHostLevel l level s).lamp x =
    if x = l then { s.lamp l with hostLevel := level }.drivenAs ((setHostLevel l level s).driveOf l) else s.lamp x := by
  rw [setHostLevel, judgeLamp_lamp]
  split
  · simp
  · next hx => simp [hx]

/-- CONFIGURE LAMP: a change of mode sets the host level off, and the drive is re-judged (R106). -/
theorem configureLamp_lamp (c : LampSettings) : (configureLamp l c s).lamp x =
    if x = l then { s.lamp l with
      hostLevel := if (s.cfg.lamps.get l).mode = c.mode then (s.lamp l).hostLevel else .off }.drivenAs
        ((configureLamp l c s).driveOf l)
    else s.lamp x := by
  unfold configureLamp
  dsimp only
  split
  · rw [judgeLamp_lamp]
    rfl
  · rw [setHostLevel_lamp]
    rfl

theorem configureLamp_cfg (c : LampSettings) :
    (configureLamp l c s).cfg = { s.cfg with lamps := s.cfg.lamps.set l c } := by
  unfold configureLamp
  dsimp only
  split <;> simp

end

theorem beginReply_driveOf (tag kind : Byte) (status : Status) (body : List Byte) (s : State) (l : Fin 32) :
    (beginReply tag kind status body s).driveOf l = s.driveOf l :=
  (SameDrives.of_parts (by simp) (by simp) (by simp)).driveOf l

/-! ### CONFIGURE LAMP (R106) -/

theorem readFlag_out {k : Nat} (h : 2 ≤ k) : readFlag k = none := by
  rw [readFlag, if_neg (by omega), if_neg (by omega)]

theorem readLampSettings_out {index mode proved : Byte}
    (h : 32 ≤ index.toNat ∨ 3 ≤ mode.toNat ∨ 2 ≤ proved.toNat) : readLampSettings [index, mode, proved] = none := by
  have hread : readLampSettings [index, mode, proved] = (readIndex 32 index.toNat).bind fun l =>
      (readEnum LampMode.list mode.toNat).bind fun m => (readFlag proved.toNat).bind fun p => some (l, ⟨m, p⟩) := rfl
  rw [hread]
  rcases h with h | h | h
  · rw [readIndex_out h]
    rfl
  · rw [readEnum_out (l := LampMode.list) h]
    simp
  · rw [readFlag_out h]
    simp

theorem configureLamp_answers {tag : Byte} {body : List Byte} {s : State} {l : Fin 32} {c : LampSettings}
    (h : s.configurable) (hlength : body.length = 3) (hread : readLampSettings body = some (l, c)) :
    Answers (.configureLamp tag body) s tag 0x36#8 .ok [] fun t =>
      t.cfg = { s.cfg with lamps := s.cfg.lamps.set l c } ∧ s.sameBut t [.cfg, .lp, .weu] ∧
      (t.lamp l).hostLevel = (if (s.cfg.lamps.get l).mode = c.mode then (s.lamp l).hostLevel else .off) ∧
      (t.lamp l).drive = t.driveOf l ∧ (t.lamp l).isOpen = (s.lamp l).isOpen ∧
      (t.lamp l).openRun = (if t.driveOf l = .dark then 0 else (s.lamp l).openRun) ∧ ∀ x, x ≠ l → t.lamp x = s.lamp x := by
  refine ⟨_, configuring_next (r := configureLampRequest) h rfl (exactly_length hlength) rfl hread rfl, rfl, ?_⟩
  have hown := configureLamp_lamp l l (goodFrame s) c
  rw [if_pos rfl] at hown
  simp only [beginReply_reads, beginReply_driveOf, hown]
  refine ⟨?_, (State.sameBut_parts _ _ _).mpr (by simp), by simp [Lamp.drivenAs], rfl, by simp [Lamp.drivenAs],
    by simp [Lamp.drivenAs], fun x hx => by simp [configureLamp_lamp, hx]⟩
  simp [configureLamp_cfg]

/-! ### SET LAMPS (R103) -/

/-- One result for each pair (R103). -/
theorem applyLampPairs_length (body : List Byte) (s : State) : (applyLampPairs body s).2.length = body.length / 2 := by
  match body with
  | [] | [_] => simp [applyLampPairs]
  | index :: level :: rest =>
    have ih := applyLampPairs_length rest (applyLampPair index level s).1
    simp only [applyLampPairs, List.length_cons, ih]
    omega

theorem applyLampPair_range {index level : Byte} (s : State) (h : 32 ≤ index.toNat ∨ 3 ≤ level.toNat) :
    applyLampPair index level s = (s, .range) := by
  rcases h with h | h
  · simp [applyLampPair, readIndex_out h]
  · simp [applyLampPair, readEnum_out (l := HostLevel.list) h]

/-- A pair that can be read is carried out on a lamp in mode HOST and refused on any other (R103). -/
theorem applyLampPair_read {index level : Byte} {l : Fin 32} {h : HostLevel} (s : State) (hl : index.toNat = l.val)
    (hh : readEnum HostLevel.list level.toNat = some h) : applyLampPair index level s =
      if (s.cfg.lamps.get l).mode = .host then (setHostLevel l h s, .ok) else (s, .conflict) := by
  simp [applyLampPair, hl, hh]

/-! ### The flash clock (R100) -/

theorem flashHalfChange_next {s : State} {f : Flash} (hpowered : s.powered = true) (h : s.weu.flash = some f) :
    exec .flashHalfChange s = .next ((s.setNow (max s.now f.due)).setWeu
      { s.weu with flash := some ⟨!f.onHalf, f.due + 500000⟩ }) := by
  have hexec : exec .flashHalfChange s = execFlashHalfChange s := rfl
  rw [hexec, execFlashHalfChange, event_powered _ s hpowered]
  simp only [h]
  rfl

/-! ### The open-load samples (R104, R105) -/

/-- Other lamps than one have been sampled: that lamp, the drive level and the flash clock are the same, and reports alone
have been handed on. -/
structure OthersSampled (l : Fin 32) (s t : State) : Prop where
  lamp : t.lamp l = s.lamp l
  level : t.weu.driveLevel = s.weu.driveLevel
  flash : t.weu.flash = s.weu.flash
  cfg : t.cfg = s.cfg
  duty : t.dtu = s.dtu
  link : LinkGrows s t

section
variable {openLoads : BitVec 32} {l : Fin 32} {s t u : State}

theorem OthersSampled.refl (l : Fin 32) (s : State) : OthersSampled l s s := ⟨rfl, rfl, rfl, rfl, rfl, .of_lp rfl⟩

theorem OthersSampled.trans (h : OthersSampled l s t) (k : OthersSampled l t u) : OthersSampled l s u where
  lamp := k.lamp.trans h.lamp
  level := k.level.trans h.level
  flash := k.flash.trans h.flash
  cfg := k.cfg.trans h.cfg
  duty := k.duty.trans h.duty
  link := h.link.trans k.link

/-- Whether a lamp is energised is read from its drive, the drive level and the flash clock (R100). -/
theorem energised_congr (hdrive : (t.lamp l).drive = (s.lamp l).drive) (hlevel : t.weu.driveLevel = s.weu.driveLevel)
    (hflash : t.weu.flash = s.weu.flash) : t.energised l = s.energised l := by
  have hlamp : (t.weu.lamps.get l).drive = (s.weu.lamps.get l).drive := hdrive
  simp only [State.energised, hlamp, hlevel, hflash]

theorem OthersSampled.energised (h : OthersSampled l s t) : t.energised l = s.energised l :=
  energised_congr (by rw [h.lamp]) h.level h.flash

/-- A sample of one lamp leaves every other. -/
theorem sampleLamp_other {x : Fin 32} (openLoads : BitVec 32) (s : State) (h : l ≠ x) :
    (sampleLamp openLoads x s).lamp l = s.lamp l := by
  unfold sampleLamp
  split
  · dsimp only
    split
    · simp [h]
    · split <;> simp [h]
    · rfl
    · simp [h]
  · rfl

theorem sampleLamp_othersSampled {x : Fin 32} (openLoads : BitVec 32) (s : State) (h : l ≠ x) :
    OthersSampled l s (sampleLamp openLoads x s) where
  lamp := sampleLamp_other openLoads s h
  level := by rw [sampleLamp_weu]
  flash := by rw [sampleLamp_weu]
  cfg := by simp
  duty := by simp
  link := sampleLamp_link openLoads x s

theorem sampleLamps_othersSampled (openLoads : BitVec 32) : ∀ (lamps : List (Fin 32)) (s : State), l ∉ lamps →
    OthersSampled l s (lamps.foldl (fun t x => sampleLamp openLoads x t) s)
  | [], s, _ => .refl l s
  | x :: lamps, s, h => by
    rw [List.mem_cons, not_or] at h
    exact (sampleLamp_othersSampled openLoads s h.1).trans (sampleLamps_othersSampled openLoads lamps _ h.2)

/-- A sample is made of one lamp's turn, with the turns of other lamps before it and after it. -/
theorem lampSampled_turn (openLoads : BitVec 32) (due : Nat) (l : Fin 32) (s : State) : ∃ u,
    OthersSampled l (s.sampleStart due) u ∧
    OthersSampled l (sampleLamp openLoads l u) (lampSampled openLoads due s) := by
  obtain ⟨before, after, hbefore, hafter, hcut⟩ := forEach_cut (sampleLamp openLoads) l (s.sampleStart due)
  rw [lampSampled_turns, hcut]
  exact ⟨_, sampleLamps_othersSampled openLoads before _ hbefore, sampleLamps_othersSampled openLoads after _ hafter⟩

/-! A lamp's own turn, by its open-load state and the input. -/

theorem sampleLamp_closed (h : s.energised l = true) (hok : (s.lamp l).isOpen = false)
    (hload : openLoads.getLsbD l.val = false) :
    sampleLamp openLoads l s = s.setLamp l { s.lamp l with openRun := 0 } := by
  simp only [sampleLamp, h, if_true, hok, hload]

theorem sampleLamp_counts (h : s.energised l = true) (hok : (s.lamp l).isOpen = false)
    (hload : openLoads.getLsbD l.val = true) : sampleLamp openLoads l s =
      if 2 ≤ (s.lamp l).openRun + 1 then hand .lampOpen l.val (code LampMode.list (s.cfg.lamps.get l).mode)
        (s.setLamp l { s.lamp l with openRun := 2, isOpen := true })
      else s.setLamp l { s.lamp l with openRun := (s.lamp l).openRun + 1 } := by
  simp only [sampleLamp, h, if_true, hok, hload]

theorem sampleLamp_staysOpen (h : s.energised l = true) (hopen : (s.lamp l).isOpen = true)
    (hload : openLoads.getLsbD l.val = true) : sampleLamp openLoads l s = s := by
  simp only [sampleLamp, h, if_true, hopen, hload]

theorem sampleLamp_recovers (h : s.energised l = true) (hopen : (s.lamp l).isOpen = true)
    (hload : openLoads.getLsbD l.val = false) : sampleLamp openLoads l s =
      hand .lampRecovered l.val (code LampMode.list (s.cfg.lamps.get l).mode)
        (s.setLamp l { s.lamp l with openRun := 0, isOpen := false }) := by
  simp only [sampleLamp, h, if_true, hopen, hload]

/-- A lamp is energised after its turn as before it: its drive is not changed. -/
theorem sampleLamp_energised (openLoads : BitVec 32) (l : Fin 32) (s : State) :
    (sampleLamp openLoads l s).energised l = s.energised l := by
  refine energised_congr ?_ (by rw [sampleLamp_weu]) (by rw [sampleLamp_weu])
  unfold sampleLamp
  split
  · dsimp only
    split
    · simp
    · split <;> simp
    · rfl
    · simp
  · rfl

/-- A report on a lamp, handed on with the lamp's change, leaves its record. -/
theorem hand_setLamp_reported (k : ReportKind) (a b : Nat) (l : Fin 32) (r : Lamp) (s : State) :
    Reported k .stop a b s (hand k a b (s.setLamp l r)) :=
  hand_reported k a b s (s.setLamp l r) _ (by simp) (by simp) (by simp) List.prefix_rfl

/-- What a lamp's own turn makes of it while it is energised (R104, R105). -/
theorem sampleLamp_own (openLoads : BitVec 32) (h : s.energised l = true) :
    ((s.lamp l).isOpen = false → openLoads.getLsbD l.val = false →
      (sampleLamp openLoads l s).lamp l = { s.lamp l with openRun := 0 }) ∧
    ((s.lamp l).isOpen = false → openLoads.getLsbD l.val = true → (s.lamp l).openRun = 0 →
      (sampleLamp openLoads l s).lamp l = { s.lamp l with openRun := 1 }) ∧
    ((s.lamp l).isOpen = false → openLoads.getLsbD l.val = true → 1 ≤ (s.lamp l).openRun →
      (sampleLamp openLoads l s).lamp l = { s.lamp l with openRun := 2, isOpen := true } ∧
      Reported .lampOpen .stop l.val (code LampMode.list (s.cfg.lamps.get l).mode) s (sampleLamp openLoads l s)) ∧
    ((s.lamp l).isOpen = true → openLoads.getLsbD l.val = true → (sampleLamp openLoads l s).lamp l = s.lamp l) ∧
    ((s.lamp l).isOpen = true → openLoads.getLsbD l.val = false →
      (sampleLamp openLoads l s).lamp l = { s.lamp l with openRun := 0, isOpen := false } ∧
      Reported .lampRecovered .stop l.val (code LampMode.list (s.cfg.lamps.get l).mode) s (sampleLamp openLoads l s)) := by
  refine ⟨fun hok hload => ?_, fun hok hload hrun => ?_, fun hok hload hrun => ?_, fun hopen hload => ?_,
    fun hopen hload => ?_⟩
  · simp [sampleLamp_closed h hok hload]
  · rw [sampleLamp_counts h hok hload, if_neg (by omega)]
    simp [hrun]
  · rw [sampleLamp_counts h hok hload, if_pos (by omega)]
    exact ⟨by simp, hand_setLamp_reported _ _ _ l _ s⟩
  · rw [sampleLamp_staysOpen h hopen hload]
  · rw [sampleLamp_recovers h hopen hload]
    exact ⟨by simp, hand_setLamp_reported _ _ _ l _ s⟩

end

/-- What a lamp sample makes of each lamp: an energised one is sampled in its own turn, and the others are left. -/
theorem lampSampled_lamps (openLoads : BitVec 32) (due : Nat) {s t : State}
    (ht : t = lampSampled openLoads due (s.reach due)) (l : Fin 32) :
    (t.energised l = false → t.lamp l = s.lamp l) ∧
    (t.energised l = true →
      ((s.lamp l).isOpen = false → openLoads.getLsbD l.val = false → t.lamp l = { s.lamp l with openRun := 0 }) ∧
      ((s.lamp l).isOpen = false → openLoads.getLsbD l.val = true → (s.lamp l).openRun = 0 →
        t.lamp l = { s.lamp l with openRun := 1 }) ∧
      ((s.lamp l).isOpen = false → openLoads.getLsbD l.val = true → 1 ≤ (s.lamp l).openRun →
        t.lamp l = { s.lamp l with openRun := 2, isOpen := true } ∧
        Reported .lampOpen .stop l.val (code LampMode.list (s.cfg.lamps.get l).mode) s t) ∧
      ((s.lamp l).isOpen = true → openLoads.getLsbD l.val = true → t.lamp l = s.lamp l) ∧
      ((s.lamp l).isOpen = true → openLoads.getLsbD l.val = false →
        t.lamp l = { s.lamp l with openRun := 0, isOpen := false } ∧
        Reported .lampRecovered .stop l.val (code LampMode.list (s.cfg.lamps.get l).mode) s t)) := by
  obtain ⟨u, hbefore, hafter⟩ := lampSampled_turn openLoads due l (s.reach due)
  rw [← ht] at hafter
  have hlamp : u.lamp l = s.lamp l := hbefore.lamp
  have hcfg : u.cfg = s.cfg := hbefore.cfg
  have henergised : t.energised l = u.energised l := hafter.energised.trans (sampleLamp_energised openLoads l u)
  have hwiden (k : ReportKind) (b : Nat) (h : Reported k .stop l.val b u (sampleLamp openLoads l u)) :
      Reported k .stop l.val b s t :=
    h.widen hbefore.link.1 (by rw [hcfg]) (by rw [hafter.duty]) hafter.link.1
  rw [hafter.lamp, henergised, ← hlamp, ← hcfg]
  refine ⟨fun h => by rw [sampleLamp_unlit openLoads h], fun h => ?_⟩
  obtain ⟨hclosed, hfirst, hopens, hstays, hrecovers⟩ := sampleLamp_own openLoads h
  exact ⟨hclosed, hfirst, fun hok hload hrun => (hopens hok hload hrun).imp_right (hwiden _ _), hstays,
    fun hopen hload => (hrecovers hopen hload).imp_right (hwiden _ _)⟩

/-- Settles O43: the table line by line, the two requests, and the two events of the lamps. -/
theorem lampsAreDrivenFlashedAndSampled : Obligations.LampsAreDrivenFlashedAndSampled := by
  refine ⟨fun s l => ⟨driveOf_asleep, driveOf_proved, fun hsleep hproof => ?_⟩,
    fun tag index mode proved s h hout => ?_, fun tag body s l c h => configureLamp_answers h,
    fun tag body s h heven hleast hmost => ⟨?_, applyLampPairs_length body _⟩,
    fun index level rest s => ⟨_, _, rfl, rfl⟩,
    fun index level s => ⟨applyLampPair_range s, fun l h hl hh => ⟨fun hmode => ?_, fun hmode => ?_⟩⟩,
    fun s hpowered => ⟨fun f => flashHalfChange_next hpowered, fun openLoads due hdue => ?_⟩⟩
  · obtain ⟨hoff, hhost, hrule⟩ := driveOf_byMode hsleep hproof
    refine ⟨hoff, fun hmode => ?_, fun hmode => ?_⟩
    · rw [hhost hmode]
      exact ⟨fun h => by rw [h]; rfl, fun h => by rw [h]; rfl, fun h => by rw [h]; rfl⟩
    · rw [hrule hmode, ruleDrive_flashing_iff, ruleDrive_dark_iff]
      refine ⟨exists_congr flashes_iff, forall_congr' fun w => ?_⟩
      rw [Bool.eq_false_iff, ne_eq, contributes_iff, not_and]
  · exact configuring_answersRange (r := configureLampRequest) h rfl rfl rfl (readLampSettings_out hout)
  · exact setLampsRequest.take_awake tag body s h (by simp [setLampsRequest, elements]; omega) rfl
  · rw [applyLampPair_read s hl hh, if_neg hmode]
  · rw [applyLampPair_read s hl hh, if_pos hmode]
    have hown := setHostLevel_lamp l l s h
    rw [if_pos rfl] at hown
    exact ⟨_, rfl, by rw [hown]; rfl, by rw [hown]; rfl, fun x hx => by simp [setHostLevel_lamp, hx],
      (State.sameBut_parts _ _ _).mpr (by simp)⟩
  · refine ⟨_, lampSample_next hpowered hdue, by simp [State.reach], ?_, (State.sameBut_parts _ _ _).mpr (by simp), ?_, ?_,
      lampSampled_lamps openLoads due rfl⟩
    all_goals rw [lampSampled_weu]; rfl

end Sys2Proof.Machine
end

section
/-! PROOFS. O44: the accounting of a slot (R120 to R124). What each of the steps 1 to 4 makes of a slot, and the cases of the
steps 5 and 6. -/
namespace Sys2Proof.Machine

/-! ### Step 4: the break credit (R122) -/

/-- What the break credit leaves alone. -/
theorem Slot.earn_keeps (l : LimitSet) (x : Slot) : x.earn l =
    { x with continuous := (x.earn l).continuous, credit := (x.earn l).credit, segmentMark := (x.earn l).segmentMark } := by
  simp only [Slot.earn, Slot.completeBreak]
  (repeat' split) <;> rfl

theorem Slot.earn_broken {l : LimitSet} {x : Slot} (h : x.pauseRun = 0) : x.earn l = x := if_pos h

theorem Slot.earn_early {l : LimitSet} {x : Slot} (hmark : x.segmentMark = false) (h : x.pauseRun < l.breakSegment) :
    x.earn l = x := by
  simp [Slot.earn, hmark, Nat.not_le.mpr h]

/-- A minute of a pause that earns credit: one minute once the segment is marked, and the segment's length where the run
reaches it. -/
theorem Slot.earn_earns {l : LimitSet} {x : Slot} {earned : Nat} (hrun : x.pauseRun ≠ 0)
    (h : (x.segmentMark = true ∧ earned = 1) ∨
      (x.segmentMark = false ∧ l.breakSegment ≤ x.pauseRun ∧ earned = l.breakSegment)) :
    x.earn l = ({ x with credit := x.credit + earned, segmentMark := true } : Slot).completeBreak l := by
  rcases h with ⟨hmark, rfl⟩ | ⟨hmark, hlength, rfl⟩
  · simp only [Slot.earn, if_neg hrun, hmark, if_true]
  · simp [Slot.earn, hrun, hmark, hlength]

/-- A break is completed when the credit reaches its length, and not before. -/
theorem Slot.completeBreak_cases (l : LimitSet) (x : Slot) :
    (x.credit < l.breakLength → x.completeBreak l = x) ∧
    (l.breakLength ≤ x.credit → x.completeBreak l = { x with continuous := 0, credit := 0 }) :=
  ⟨fun h => if_neg (Nat.not_le.mpr h), fun h => if_pos h⟩

/-! ### Steps 1 to 3 (R120, R121) -/

/-- A slot after steps 1 to 3. -/
def Slot.counted (x : Slot) : Slot := x.adopt.total.advance

theorem Slot.minute_eq (l : LimitSet) (x : Slot) : x.minute l = x.counted.earn l := rfl

/-- What steps 1 to 3 leave alone. -/
theorem Slot.counted_keeps (x : Slot) : x.counted.card = x.card ∧ x.counted.staged = x.staged ∧
    x.counted.tracks = x.tracks ∧ x.counted.dayBase = x.dayBase ∧ x.counted.dayStart = x.dayStart ∧
    x.counted.credit = x.credit := by
  simp only [Slot.counted, Slot.advance]
  split <;> exact ⟨rfl, rfl, rfl, rfl, rfl, rfl⟩

/-- The pending activity is current and its day total has gained 1 (R120). -/
theorem Slot.counted_activity (x : Slot) : x.counted.activity = x.pending.getD x.activity ∧ x.counted.pending = none ∧
    x.counted.superseded = false ∧ x.counted.totals = x.totals.count (x.pending.getD x.activity) := by
  simp only [Slot.counted, Slot.advance]
  split <;> exact ⟨rfl, rfl, rfl, rfl⟩

theorem DayTotals.count_cases (t : DayTotals) (a : Activity) :
    (t.count a).driving = (if a = .driving then min 4294967295 (t.driving + 1) else t.driving) ∧
    (t.count a).work = (if a = .work then min 4294967295 (t.work + 1) else t.work) ∧
    (t.count a).available = (if a = .available then min 4294967295 (t.available + 1) else t.available) ∧
    (t.count a).rest = (if a = .rest then min 4294967295 (t.rest + 1) else t.rest) ∧
    (t.count a).unknown = (if a = .unknown then min 4294967295 (t.unknown + 1) else t.unknown) := by
  cases a <;> exact ⟨rfl, rfl, rfl, rfl, rfl⟩

/-- The driving counters and the runs by the activity (R121). -/
theorem Slot.counted_counters {x : Slot} {a : Activity} (ha : a = x.pending.getD x.activity) :
    x.counted.continuous = (if a = .driving then min 65535 (x.continuous + 1) else x.continuous) ∧
    x.counted.daily = (if a = .driving then min 65535 (x.daily + 1) else x.daily) ∧
    x.counted.weekly = (if a = .driving then min 65535 (x.weekly + 1) else x.weekly) ∧
    x.counted.pauseRun = (if a = .available ∨ a = .rest then min 65535 (x.pauseRun + 1) else 0) ∧
    x.counted.restRun = (if a = .rest then min 65535 (x.restRun + 1) else 0) ∧
    x.counted.segmentMark = (if a = .available ∨ a = .rest then x.segmentMark else false) ∧
    x.counted.dayClosed = (if a = .rest then x.dayClosed else false) ∧
    x.counted.weekClosed = (if a = .rest then x.weekClosed else false) := by
  have hactivity : x.adopt.total.activity = a := ha.symm
  simp only [Slot.counted, Slot.advance, hactivity]
  cases a <;> exact ⟨rfl, rfl, rfl, rfl, rfl, rfl, rfl, rfl⟩

/-! ### A minute -/

/-- A minute changes the break credit, the segment's mark and continuous driving as step 4 says, and nothing else after
step 3. -/
theorem Slot.minute_keeps (l : LimitSet) (x : Slot) : x.minute l = { x.counted with
    continuous := (x.minute l).continuous, credit := (x.minute l).credit, segmentMark := (x.minute l).segmentMark } :=
  x.counted.earn_keeps l

/-- A minute that counts in no pause run earns nothing (R122). -/
theorem Slot.minute_unpaused {l : LimitSet} {x : Slot} {a : Activity} (ha : a = x.pending.getD x.activity)
    (h1 : a ≠ .available) (h2 : a ≠ .rest) : x.minute l = x.counted := by
  obtain ⟨-, -, -, hpause, -⟩ := Slot.counted_counters ha
  exact Slot.earn_broken (hpause.trans (by simp [h1, h2]))

/-- A minute that counts in a pause run: nothing before the segment's length, then the segment, then one a minute, until
the credit completes a break (R122). -/
theorem Slot.minute_pauses {l : LimitSet} {x : Slot} {a : Activity} (ha : a = x.pending.getD x.activity)
    (hpaused : a = .available ∨ a = .rest) :
    (x.segmentMark = false → (x.minute l).pauseRun < l.breakSegment →
      (x.minute l).segmentMark = false ∧ (x.minute l).credit = x.credit ∧ (x.minute l).continuous = x.continuous) ∧
    ∀ earned, (x.segmentMark = true ∧ earned = 1) ∨
        (x.segmentMark = false ∧ l.breakSegment ≤ (x.minute l).pauseRun ∧ earned = l.breakSegment) →
      (x.minute l).segmentMark = true ∧
      (x.credit + earned < l.breakLength →
        (x.minute l).credit = x.credit + earned ∧ (x.minute l).continuous = x.continuous) ∧
      (l.breakLength ≤ x.credit + earned → (x.minute l).credit = 0 ∧ (x.minute l).continuous = 0) := by
  have hnot : a ≠ .driving := by rintro rfl; simp at hpaused
  obtain ⟨hcontinuous, -, -, hpause, -, hmark, -⟩ := Slot.counted_counters ha
  obtain ⟨-, -, -, -, -, hcredit⟩ := x.counted_keeps
  rw [if_pos hpaused] at hpause hmark
  rw [if_neg hnot] at hcontinuous
  have hrun : (x.minute l).pauseRun = x.counted.pauseRun := by rw [Slot.minute_keeps]
  rw [hrun, Slot.minute_eq, ← hmark, ← hcredit, ← hcontinuous]
  refine ⟨fun hunmarked hearly => ?_, fun earned hearned => ?_⟩
  · rw [Slot.earn_early hunmarked hearly]
    exact ⟨hunmarked, rfl, rfl⟩
  · rw [Slot.earn_earns (by omega) hearned]
    obtain ⟨hopen, hdone⟩ := Slot.completeBreak_cases l
      { x.counted with credit := x.counted.credit + earned, segmentMark := true }
    refine ⟨?_, fun h => ?_, fun h => ?_⟩
    · simp only [Slot.completeBreak]
      split <;> rfl
    · rw [hopen h]
      exact ⟨rfl, rfl⟩
    · rw [hdone h]
      exact ⟨rfl, rfl⟩

/-! ### Steps 5 and 6 (R123, R124) -/

theorem dayStart_rests {i : Fin 2} {s : State}
    (h : (s.slot i).restRun < (s.limits i).dailyRest ∨ (s.slot i).dayClosed = true) : dayStart i s = s :=
  (dayStart_slots i s).2.2.1 h

theorem dayStart_starts {i : Fin 2} {s : State} (hrun : (s.limits i).dailyRest ≤ (s.slot i).restRun)
    (hclosed : (s.slot i).dayClosed = false) : dayStart i s = loadStaged i (hand .dutyDayStart (i.val + 1) (s.slot i).daily
      (s.setSlot i { s.slot i with
        daily := 0, continuous := 0, credit := 0, totals := ⟨0, 0, 0, 0, 0⟩, dayBase := 0, dayStart := s.dtu.clock
        dayClosed := true })) :=
  if_pos ⟨hrun, hclosed⟩

theorem loadStaged_cases (i : Fin 2) (s : State) : ((s.slot i).staged = none → loadStaged i s = s) ∧
    ∀ l, (s.slot i).staged = some l → loadStaged i s = hand .dutyLimitsLoaded (i.val + 1) 0
      ((s.setCfg { s.cfg with duty := { s.cfg.duty with limits := s.cfg.duty.limits.set i l } }).setSlot i
        { s.slot i with staged := none }) := by
  refine ⟨fun h => ?_, fun l h => ?_⟩ <;> simp [loadStaged, h, slotNumber]

theorem weekStart_rests {i : Fin 2} {s : State}
    (h : (s.slot i).restRun < (s.limits i).weeklyRest ∨ (s.slot i).weekClosed = true) : weekStart i s = s := by
  refine if_neg ?_
  rintro ⟨hrun, hclosed⟩
  rcases h with h | h
  · omega
  · simp [hclosed] at h

theorem weekStart_starts {i : Fin 2} {s : State} (hrun : (s.limits i).weeklyRest ≤ (s.slot i).restRun)
    (hclosed : (s.slot i).weekClosed = false) : weekStart i s =
      hand .dutyWeekStart (i.val + 1) (s.slot i).weekly (s.setSlot i { s.slot i with weekly := 0, weekClosed := true }) :=
  if_pos ⟨hrun, hclosed⟩

/-- Settles O44, step by step. -/
theorem accountingAdvancesTheSlot : Obligations.AccountingAdvancesTheSlot := by
  refine ⟨?_, ?_⟩
  · rintro l x t a rfl ha
    obtain ⟨hcard, hstaged, htracks, hbase, hstart, hcredit⟩ := x.counted_keeps
    obtain ⟨hactivity, hpending, hsuperseded, htotals⟩ := x.counted_activity
    obtain ⟨hcontinuous, hdaily, hweekly, hpause, hrest, hmark, hday, hweek⟩ := Slot.counted_counters ha
    obtain ⟨hdriving, hwork, havailable, hresting, hunknown⟩ := x.totals.count_cases a
    rw [← ha] at htotals hactivity
    have hkeeps := x.minute_keeps l
    refine ⟨?_, ?_, ?_, ?_, ?_, ?_, ?_, ?_, ?_, ?_, ?_, ?_, ?_, ?_, ?_, ?_, ?_, ?_, ?_, fun h1 h2 => ?unpaused, fun hpaused => ?early,
      fun earned hpaused => ?earned⟩
    case unpaused =>
      rw [Slot.minute_unpaused ha h1 h2, hmark, hcontinuous]
      simp [h1, h2, hcredit]
    case early => exact (Slot.minute_pauses ha hpaused).1
    case earned => exact (Slot.minute_pauses ha hpaused).2 earned
    all_goals rw [hkeeps]
    all_goals simp only [hcard, hstaged, htracks, hbase, hstart, hactivity, hpending, hsuperseded, htotals, hdriving, hwork,
      havailable, hresting, hunknown, hdaily, hweekly, hpause, hrest, hday, hweek]
  · rintro i s x rfl
    refine ⟨dayStart_rests, fun hrun hclosed => ⟨_, rfl, ?_⟩, weekStart_rests, weekStart_starts⟩
    rw [dayStart_starts hrun hclosed]
    obtain ⟨hnone, hsome⟩ := loadStaged_cases i (hand .dutyDayStart (i.val + 1) (s.slot i).daily
      (s.setSlot i { s.slot i with
        daily := 0, continuous := 0, credit := 0, totals := ⟨0, 0, 0, 0, 0⟩, dayBase := 0, dayStart := s.dtu.clock
        dayClosed := true }))
    refine ⟨fun h => hnone (by simpa using h), fun l h => ?_⟩
    rw [hsome l (by simpa using h)]
    simp

end Sys2Proof.Machine
end

section
/-! PROOFS. O57: what leaves the driving counters, the limit sets and the images of the store alone. Nearly every operation of
the part does; what changes one of them is shown apart. -/
namespace Sys2Proof.Machine

/-! ### What stays the same -/

/-- Two states have the same slots but for the records of the tracks, the same duty settings, and the same image and save in
progress. -/
structure SameDriving (s t : State) : Prop where
  slots : ∀ i, t.slot i = { s.slot i with tracks := (t.slot i).tracks }
  duty : t.cfg.duty = s.cfg.duty
  image : t.cs.image = s.cs.image
  saving : t.cs.saving = s.cs.saving

section
variable {s t u : State}

theorem SameDriving.trans (h : SameDriving s t) (k : SameDriving t u) : SameDriving s u where
  slots i := by rw [k.slots i, h.slots i]
  duty := k.duty.trans h.duty
  image := k.image.trans h.image
  saving := k.saving.trans h.saving

/-- The later change first, so that it says which state the earlier one leads to. -/
theorem SameDriving.after (k : SameDriving t u) (h : SameDriving s t) : SameDriving s u := h.trans k

/-- A change that the slots feel in the records of the tracks alone. -/
theorem SameDriving.of_slots (h : SameSlots s t) (hrest : t.cfg = s.cfg ∧ t.cs = s.cs) : SameDriving s t :=
  ⟨h.2, by rw [hrest.1], by rw [hrest.2], by rw [hrest.2]⟩

/-- A change of neither the duty unit nor the duty settings nor the store. -/
theorem SameDriving.of_parts (h : t.dtu = s.dtu ∧ t.cfg.duty = s.cfg.duty ∧ t.cs = s.cs) : SameDriving s t :=
  ⟨(SameSlots.of_dtu h.1).2, h.2.1, by rw [h.2.2], by rw [h.2.2]⟩

theorem SameDriving.refl (s : State) : SameDriving s s := .of_parts ⟨rfl, rfl, rfl⟩

theorem SameDriving.ite {c : Prop} [Decidable c] {a b : State} (ha : SameDriving s a) (hb : SameDriving s b) :
    SameDriving s (if c then a else b) := iteInduction (fun _ => ha) (fun _ => hb)

/-- The order of driving is read from what stays the same. -/
theorem SameDriving.keeps (h : SameDriving s t) (hs : s.dutyKept) : t.dutyKept := by
  obtain ⟨hordered, ⟨hcfg, himage, hsaving⟩, hstaged⟩ := hs
  refine ⟨fun i => ?_, ⟨?_, ?_, ?_⟩, fun i l hl => ?_⟩
  · rw [h.slots i]
    exact hordered i
  · unfold Settings.limitsValid
    rwa [h.duty]
  · rwa [h.image]
  · rwa [h.saving]
  · rw [h.slots i] at hl
    exact hstaged i l hl

end

theorem forEach_driving {n : Nat} {f : Fin n → State → State} (hf : ∀ i t, SameDriving t (f i t)) (s : State) :
    SameDriving s (forEach f s) :=
  forEach_keeps (SameDriving s) f (fun i t h => h.trans (hf i t)) s (.refl s)

/-! ### The message line and the warnings -/

theorem endEntry_driving (cause : EndCause) (e : Entry) (s : State) : SameDriving s (endEntry cause e s) :=
  .of_slots (endEntry_duty cause e s).slots (by simp)

theorem decideLine_driving (s : State) : SameDriving s (decideLine s) :=
  .of_slots (decideLine_duty True s).slots (by simp)

theorem decideAfterEnd_driving (s : State) : SameDriving s (decideAfterEnd s) :=
  .of_slots (decideAfterEnd_duty True s).slots (by simp)

theorem offer_driving (o : Offer) (s : State) : SameDriving s (offer o s) := .of_slots (offer_duty True o s).slots (by simp)

theorem withdraw_driving (x : AnnSource) (s : State) : SameDriving s (withdraw x s) :=
  .of_slots (withdraw_duty True x s).slots (by simp)

theorem acknowledgeShown_driving (s : State) : SameDriving s (acknowledgeShown s) :=
  .of_slots (acknowledgeShown_duty s).slots (by simp)

theorem writeEntry_driving (q : Fin 48) (e : Quantity) (s : State) : SameDriving s (writeEntry q e s) :=
  .of_slots (writeEntry_duty q e s).slots (by simp)

theorem offerWarning_driving (w : Fin 48) (kind : AnnKind) (mark : AnnMark) (s : State) :
    SameDriving s (offerWarning w kind mark s) := .of_slots (offerWarning_duty True w kind mark s).slots (by simp)

theorem withdrawWarning_driving (w : Fin 48) (s : State) : SameDriving s (withdrawWarning w s) :=
  .of_slots (withdrawWarning_duty True w s).slots (by simp)

theorem judgeLampOf_driving (w : Fin 48) (s : State) : SameDriving s (judgeLampOf w s) := .of_parts (by simp)

theorem setWarning_driving (w : Fin 48) (r : Warning) (s : State) : SameDriving s (s.setWarning w r) := .of_parts (by simp)

theorem enterActiveNew_driving (w : Fin 48) (fromLatched : Bool) (s : State) :
    SameDriving s (enterActiveNew w fromLatched s) := by
  refine (judgeLampOf_driving w _).after (iteInduction (fun _ => ?_) fun _ => ?_)
  · exact (offerWarning_driving w _ _ _).after (.of_parts (by simp [handWarningRaised]))
  · exact .of_parts (by simp [handWarningRaised])

theorem goOff_driving (w : Fin 48) (cause : WarnEnd) (s : State) : SameDriving s (goOff w cause s) :=
  (setWarning_driving w ((s.warning w).restedIn .off) s).trans
    ((withdrawWarning_driving w _).trans (.of_parts (by simp [goOff])))

theorem endAtStrength_driving (w : Fin 48) (s : State) : SameDriving s (endAtStrength w s) :=
  .ite ((judgeLampOf_driving w _).after
      (.ite ((setWarning_driving w _ s).trans (withdrawWarning_driving w _)) (setWarning_driving w _ s)))
    (goOff_driving w .strength s)

theorem actOnStrength_driving (w : Fin 48) (strength : Nat) (s : State) : SameDriving s (actOnStrength w strength s) := by
  unfold actOnStrength
  dsimp only
  split
  · exact .refl s
  · exact .refl s
  · exact .ite (.ite (enterActiveNew_driving w false s) (.of_parts (by simp))) (.refl s)
  · exact .ite (.of_parts (by simp)) (.refl s)
  · exact .ite (endAtStrength_driving w s) (.refl s)
  · exact .ite (endAtStrength_driving w s) (.refl s)
  · exact .ite (.ite (.of_parts (by simp)) (enterActiveNew_driving w true s)) (.refl s)

theorem putOff_driving (w : Fin 48) (s : State) : SameDriving s (putOff w s) := by
  obtain ⟨hleft, hoff⟩ := putOff_cases w s
  by_cases h : (s.warning w).state ∈ [.off, .disabled]
  · rw [hleft h]
    exact .refl s
  · rw [hoff h]
    exact goOff_driving w .reconfigured s

theorem reconfigureWarning_driving (w : Fin 48) (c : WarnSettings) (s : State) :
    SameDriving s (reconfigureWarning w c s) :=
  (putOff_driving w s).trans (.of_parts (by simp [reconfigureWarning, State.setWarnSettings]))

theorem suppress_driving (w : Fin 48) (s : State) : SameDriving s (suppress w s) := by
  have hset := (setWarning_driving w ((s.warning w).restedIn .suppressed) s).trans (withdrawWarning_driving w _)
  exact (judgeLampOf_driving w _).after (.ite (hset.trans (.of_parts (by simp))) hset)

theorem endCriterion_driving (p : Pass) (s : State) : SameDriving s (endCriterion p s) :=
  .ite (.of_parts (by simp)) ((actOnStrength_driving p.criterion _ _).after (.of_parts (by simp)))

theorem configureCriterion_driving (w : Fin 48) (c : Criterion) (s : State) : SameDriving s (configureCriterion w c s) :=
  (putOff_driving w s).trans (.of_parts (by simp [configureCriterion]))

theorem reminderExpired_driving (w : Fin 48) (s : State) : SameDriving s (reminderExpired w s) :=
  (setWarning_driving w _ s).trans (offerWarning_driving w _ _ _)

theorem acknowledgeByHost_driving (w : Fin 48) (s : State) : SameDriving s (acknowledgeByHost w s).state := by
  have hacknowledged : SameDriving s (withdrawWarning w (acknowledgeWarning w s)) :=
    (withdrawWarning_driving w _).after (.of_parts (by simp))
  unfold acknowledgeByHost
  split
  · exact hacknowledged
  · exact hacknowledged
  · split
    · exact .refl s
    · exact hacknowledged
  all_goals exact .refl s

theorem clearByHost_driving (w : Fin 48) (s : State) : SameDriving s (clearByHost w s).state := by
  unfold clearByHost
  split
  · exact goOff_driving w .cleared s
  all_goals exact .refl s

theorem suppressByHost_driving (w : Fin 48) (s : State) : SameDriving s (suppressByHost w s).state := by
  unfold suppressByHost
  split
  · exact .refl s
  · exact .refl s
  all_goals exact suppress_driving w s

theorem restoreByHost_driving (w : Fin 48) (s : State) : SameDriving s (restoreByHost w s).state := by
  unfold restoreByHost
  split
  · exact .of_parts (by simp)
  · exact .refl s

theorem applyLampPairs_driving (b : List Byte) (s : State) : SameDriving s (applyLampPairs b s).1 := by
  fun_induction applyLampPairs b s with
  | case1 index level rest s one more ih =>
    refine SameDriving.trans ?_ ih
    dsimp only [one, applyLampPair]
    (repeat' split) <;> exact .of_parts (by simp)
  | case2 => exact .refl _

theorem dwellElapsed_driving (sh : Shown) (s : State) : SameDriving s (dwellElapsed sh s) :=
  (decideLine_driving _).after (.of_parts (by simp))

theorem showTimeExpired_driving (sh : Shown) (s : State) : SameDriving s (showTimeExpired sh s) :=
  SameDriving.after ((endEntry_driving _ _ _).trans (decideAfterEnd_driving _)) (.of_parts (t := stopShown s) (by simp))

theorem beginLinkLost_driving (s : State) : SameDriving s (beginLinkLost s) :=
  (forEach_driving (fun h t => withdraw_driving (.host h) t) _).after (.of_parts (by simp))

/-! ### The quantities and the scan -/

theorem handRecovered_driving (q : Fin 48) (before : QStatus) (s : State) : SameDriving s (handRecovered q before s) :=
  .of_parts (by simp)

theorem applyPair_driving (first : Byte) (v : Int) (s : State) : SameDriving s (applyPair first v s).1 := by
  unfold applyPair
  split
  · exact .refl s
  · split
    · exact .ite (.of_parts (by simp)) ((writeEntry_driving _ _ s).trans (handRecovered_driving _ _ _))
    all_goals exact .refl s

theorem applyPairs_driving (b : List Byte) (s : State) : SameDriving s (applyPairs b s).1 := by
  fun_induction applyPairs b s with
  | case1 first hi lo rest s one more ih => exact (applyPair_driving first _ s).trans ih
  | case2 => exact .refl _

theorem deliverInLimit_driving (q : Fin 48) (f : ScanFields) (filtered : Nat) (s : State) :
    SameDriving s (deliverInLimit q f filtered s) := by
  have hwritten : ∀ e before, SameDriving s (handRecovered q before (writeEntry q e s)) := fun e before =>
    (writeEntry_driving q e s).trans (handRecovered_driving _ _ _)
  unfold deliverInLimit
  dsimp only
  split
  · exact writeEntry_driving _ _ s
  · exact writeEntry_driving _ _ s
  · exact hwritten _ _
  · exact .ite (hwritten _ _) (.of_parts (by simp))

theorem deliver_driving (input : Fin 16) (raw filtered : Nat) (q : Fin 48) (s : State) :
    SameDriving s (deliver input raw filtered q s) := by
  unfold deliver
  split
  · exact .ite (.ite (.of_parts (by simp)) (.ite (.of_parts (by simp)) (deliverInLimit_driving q _ filtered s))) (.refl s)
  all_goals exact .refl s

theorem sampleSwitch_driving (levels : BitVec 8) (q : Fin 48) (s : State) : SameDriving s (sampleSwitch levels q s) := by
  unfold sampleSwitch
  split
  · exact .ite (writeEntry_driving _ _ s) (.of_parts (by simp))
  all_goals exact .refl s

theorem completeConversion_driving (f : Flight) (raw : Nat) (s : State) : SameDriving s (completeConversion f raw s) := by
  unfold completeConversion
  split
  · exact .of_parts (by simp)
  · next e _ =>
    have htaken : SameDriving s (takeResult f.position e raw s) :=
      (forEach_driving (fun q t => deliver_driving _ _ _ q t) _).after (.of_parts (by simp))
    exact htaken.trans (.of_parts (by simp))

/-! ### The power states -/

theorem enterProving_driving (old : Nat) (cause : PowerCause) (s : State) : SameDriving s (enterProving old cause s) :=
  .of_slots (enterProving_duty old cause s).slots (by simp)

theorem finishProof_driving (s : State) : SameDriving s (finishProof s) := by
  have hdecided : SameDriving s (decideLine ((handPowerState PowerState.proving.number .proofDone
      (s.setPower .run .stopped)).setAnu { s.anu with proofHold := false })) :=
    (decideLine_driving _).after (.of_parts (by simp))
  refine hdecided.trans (.of_parts ?_)
  simp [finishProof, lineAtRun]

/-- The entry to SLEEP clears the announcement marks alone of the duty unit (R168). -/
theorem enterSleep_driving (s : State) : SameDriving s (enterSleep s) where
  slots i := by rw [unmarked_slot s (enterSleep s) (by simp [enterSleep]) i]
  duty := by simp
  image := by simp
  saving := by simp

theorem judgePower_driving (s : State) : SameDriving s (judgePower s) := by
  unfold judgePower
  split
  · exact .ite (finishProof_driving s) (.refl s)
  · exact .ite (enterSleep_driving s) (.refl s)
  all_goals exact .refl s

theorem enterParkingState_driving (s : State) : SameDriving s (enterParkingState s) :=
  (judgePower_driving _).after (.of_parts (by simp))

theorem sampleKey_driving (level : Bool) (due : Nat) (s : State) : SameDriving s (sampleKey level due s) := by
  have hedge : ∀ t : State, SameDriving t (keyOnEdge t) := by
    intro t
    unfold keyOnEdge
    split
    · exact enterProving_driving _ .keyOn t
    · exact .of_parts (by simp)
    all_goals exact .refl t
  unfold sampleKey
  dsimp only
  exact .ite (.ite ((hedge _).after (.of_parts (by simp))) (.of_parts (by simp))) (.of_parts (by simp))

theorem choosePower_driving (cause : PowerCause) (s : State) : SameDriving s (choosePower cause s) :=
  .ite (enterProving_driving _ cause s) (.of_parts (by simp))

end Sys2Proof.Machine
end

section
/-! PROOFS. O57: every step keeps the order of the driving counters (R121), with every limit set held valid (R111). What the
accounting, the cards, the settings, the store and the resets make of them, and then every request and every event. -/
namespace Sys2Proof.Machine

/-! ### One slot -/

/-- A slot's counters stand in order, and its staged limit set is valid. -/
def Slot.sound (x : Slot) : Prop := x.ordered ∧ ∀ l, x.staged = some l → l.valid = true

theorem Slot.empty_sound {staged : Option LimitSet} (h : ∀ l, staged = some l → l.valid = true) : (Slot.empty staged).sound :=
  ⟨⟨Nat.le_refl _, Nat.le_refl _, fun _ => rfl⟩, h⟩

/-- Driving adds a minute to each counter and opens the day, and a minute of anything else adds to none (R121). -/
theorem Slot.counted_ordered {x : Slot} (h : x.ordered) : x.counted.ordered := by
  obtain ⟨hdaily, hweekly, hclosed⟩ := h
  obtain ⟨hc, hd, hw, -, -, -, hday, -⟩ := Slot.counted_counters (x := x) rfl
  unfold Slot.ordered
  rw [hc, hd, hw, hday]
  by_cases hdriving : x.pending.getD x.activity = .driving
  · simp only [hdriving, if_true, reduceCtorEq, if_false, false_imp_iff, and_true]
    omega
  · simp only [hdriving, if_false]
    refine ⟨hdaily, hweekly, fun hmark => hclosed ?_⟩
    split at hmark
    · exact hmark
    · contradiction

theorem Slot.completeBreak_sound {x : Slot} (l : LimitSet) (h : x.sound) : (x.completeBreak l).sound := by
  obtain ⟨⟨hdaily, hweekly, hclosed⟩, hstaged⟩ := h
  unfold Slot.completeBreak
  split
  · exact ⟨⟨Nat.zero_le _, hweekly, hclosed⟩, hstaged⟩
  · exact ⟨⟨hdaily, hweekly, hclosed⟩, hstaged⟩

/-- The break credit can only put continuous driving back to 0 (R122). -/
theorem Slot.earn_sound {x : Slot} (l : LimitSet) (h : x.sound) : (x.earn l).sound := by
  unfold Slot.earn
  split
  · exact h
  · split
    · exact Slot.completeBreak_sound l h
    · split
      · exact Slot.completeBreak_sound l h
      · exact h

theorem Slot.minute_sound {x : Slot} (l : LimitSet) (h : x.sound) : (x.minute l).sound :=
  Slot.earn_sound l (x := x.counted) ⟨Slot.counted_ordered h.1, by rw [x.counted_keeps.2.1]; exact h.2⟩

/-- A week start that is due finds a closed day, in which nothing has been driven: the rest of a week is longer than that of
a day (R111, R124). -/
theorem Slot.weekStart_sound {x : Slot} (h : x.sound) (hclosed : x.dayClosed = true) :
    ({ x with weekly := 0, weekClosed := true } : Slot).sound := by
  obtain ⟨⟨hdaily, -, hrest⟩, hstaged⟩ := h
  exact ⟨⟨hdaily, by simp [hrest hclosed], hrest⟩, hstaged⟩

/-! ### The kept property, slot by slot -/

/-- What the store has to hold for a load and a save to keep the limit sets valid (R190, R191). -/
def Store.limitsValid (c : Store) : Prop :=
  (∀ x check, c.image = .held x check → x.limitsValid) ∧ ∀ x, c.saving = some x → x.limitsValid

theorem State.dutyKept_iff (s : State) : s.dutyKept ↔
    (∀ i, (s.slot i).sound) ∧ s.cfg.limitsValid ∧ s.cs.limitsValid := by
  simp only [State.dutyKept, State.everySettings, Slot.sound, Store.limitsValid, forall_and]
  tauto

section
variable {s t : State}

theorem State.dutyKept.slot (h : s.dutyKept) (i : Fin 2) : (s.slot i).sound := ((State.dutyKept_iff s).mp h).1 i

theorem State.dutyKept.cfg (h : s.dutyKept) : s.cfg.limitsValid := ((State.dutyKept_iff s).mp h).2.1

theorem State.dutyKept.cs (h : s.dutyKept) : s.cs.limitsValid := ((State.dutyKept_iff s).mp h).2.2

/-- One slot replaced by a sound one. -/
theorem setSlot_dutyKept {i : Fin 2} {x : Slot} (h : s.dutyKept) (hx : x.sound) : (s.setSlot i x).dutyKept := by
  refine (State.dutyKept_iff _).mpr ⟨fun j => ?_, by simpa using h.cfg, by simpa using h.cs⟩
  rw [State.setSlot_slot]
  split
  · exact hx
  · exact h.slot j

/-- A change of the store alone. -/
theorem State.dutyKept.of_store (h : s.dutyKept) (hdtu : t.dtu = s.dtu) (hcfg : t.cfg = s.cfg) (hcs : t.cs.limitsValid) :
    t.dutyKept := by
  refine (State.dutyKept_iff _).mpr ⟨fun i => ?_, by rw [hcfg]; exact h.cfg, hcs⟩
  rw [State.slot_of s t hdtu]
  exact h.slot i

end

/-! ### The accounting (R109) -/

/-- What a day start may make of a slot and of its limit set (R123). -/
def Slot.dayStarted (x : Slot) (clock : Nat) : Slot := { x with
  daily := 0, continuous := 0, credit := 0, totals := ⟨0, 0, 0, 0, 0⟩, dayBase := 0, dayStart := clock
  dayClosed := true, staged := none }

/-- The slot after its accounting, but for the records of the tracks, and its limit set after it are sound. -/
theorem account_sound {i : Fin 2} {s : State} (h : s.dutyKept) (hcard : (s.slot i).card.isSome = true) :
    ((account i s).slot i).sound ∧ ((account i s).limits i).valid = true := by
  obtain ⟨x, hx⟩ : ∃ x, x = (s.slot i).minute (s.limits i) := ⟨_, rfl⟩
  have hsound : x.sound := hx ▸ Slot.minute_sound _ (h.slot i)
  have hvalid : (s.limits i).valid = true := h.cfg i
  by_cases hday : (s.limits i).dailyRest ≤ x.restRun ∧ x.dayClosed = false
  · obtain ⟨-, hlimits, hslot⟩ := account_own i s x (x.dayStarted s.dtu.clock) (x.staged.getD (s.limits i)) hcard hx
      (fun hkept => absurd hkept (by simp [hday])) (fun _ _ => ⟨rfl, rfl⟩)
    rw [hlimits, hslot]
    have hstarted : (x.dayStarted s.dtu.clock).sound := ⟨⟨Nat.le_refl _, Nat.zero_le _, fun _ => rfl⟩, by simp [Slot.dayStarted]⟩
    refine ⟨?_, ?_⟩
    · show Slot.sound (ite _ _ _)
      split
      · exact Slot.weekStart_sound hstarted rfl
      · exact hstarted
    · cases hstaged : x.staged with
      | none => exact hvalid
      | some l => exact hsound.2 l hstaged
  · obtain ⟨-, hlimits, hslot⟩ := account_own i s x x (s.limits i) hcard hx (fun _ => ⟨rfl, rfl⟩)
      (fun hr hc => absurd ⟨hr, hc⟩ hday)
    rw [hlimits, hslot]
    refine ⟨?_, hvalid⟩
    show Slot.sound (ite _ _ _)
    split
    · next hweek =>
      have hlonger : (s.limits i).dailyRest + 1 ≤ (s.limits i).weeklyRest := by
        simp only [LimitSet.valid, decide_eq_true_eq] at hvalid
        omega
      refine Slot.weekStart_sound hsound ?_
      by_contra hopen
      exact hday ⟨by omega, by simpa using hopen⟩
    · exact hsound

theorem account_dutyKept (i : Fin 2) (s : State) (h : s.dutyKept) : (account i s).dutyKept := by
  by_cases hcard : (s.slot i).card.isSome = true
  · obtain ⟨hown, hlimits⟩ := account_sound h hcard
    refine (State.dutyKept_iff _).mpr ⟨fun j => ?_, fun j => ?_, by simpa using h.cs⟩
    · by_cases hj : j = i
      · exact hj ▸ hown
      · rw [(account_other i j s hj).2.1]
        exact h.slot j
    · by_cases hj : j = i
      · exact hj ▸ hlimits
      · show ((account i s).limits j).valid = true
        rw [(account_other i j s hj).2.2]
        exact h.cfg j
  · rwa [account, if_neg hcard]

theorem minuteExpired_dutyKept (due : Nat) (slot2First : Bool) (s : State) (h : s.dutyKept) :
    (minuteExpired due slot2First s).dutyKept := by
  have hclock : (s.setDtu { s.dtu with
      clock := gain 4294967295 s.dtu.clock, minuteDue := due + Config.minutes 1 }).dutyKept :=
    SameDriving.keeps ⟨fun _ => rfl, rfl, rfl, rfl⟩ h
  unfold minuteExpired
  dsimp only
  split
  · exact account_dutyKept 0 _ (account_dutyKept 1 _ hclock)
  · exact account_dutyKept 1 _ (account_dutyKept 0 _ hclock)

/-! ### The settings and the cards (R113 to R119) -/

theorem recomputeStages_driving (i : Fin 2) (s : State) : SameDriving s (recomputeStages i s) :=
  .of_slots (recomputeStages_slots i s) (by simp)

theorem writeDerived_driving (i : Fin 2) (s : State) : SameDriving s (writeDerived i s) :=
  .of_slots (writeDerived_slots i s) (by simp)

theorem insertTrack_slots (i : Fin 2) (k : Track) (s : State) : SameSlots s (insertTrack i k s) := by
  unfold insertTrack
  dsimp only
  split
  · exact .of_dtu rfl
  · exact (setTrack_slots s i k _).trans (handStage_slots i k _ _ _)
  all_goals exact (setTrack_slots s i k _).trans ((offerTrack_slots i k _).trans (handStage_slots i k _ _ _))

theorem insertTrack_driving (i : Fin 2) (k : Track) (s : State) : SameDriving s (insertTrack i k s) :=
  .of_slots (insertTrack_slots i k s) (by simp)

theorem clearMismatch_slots (i : Fin 2) (s : State) : SameSlots s (clearMismatch i s) := by
  unfold clearMismatch
  split
  · exact ⟨rfl, fun _ => rfl⟩
  · exact .of_dtu rfl

theorem clearMismatch_driving (i : Fin 2) (s : State) : SameDriving s (clearMismatch i s) :=
  .of_slots (clearMismatch_slots i s) (by simp)

theorem dutyReconfigured_dutyKept (i : Fin 2) (s : State) (h : s.dutyKept) : (dutyReconfigured i s).dutyKept := by
  unfold dutyReconfigured
  split
  · exact ((recomputeStages_driving i _).trans (writeDerived_driving i _)).keeps
      (setSlot_dutyKept h (Slot.completeBreak_sound _ (h.slot i)))
  · exact h

theorem configureDuty_dutyKept {c : DutySettings} {s : State} (hc : ∀ i, (c.limits.get i).valid = true) (h : s.dutyKept) :
    (configureDuty c s).dutyKept :=
  dutyReconfigured_dutyKept 1 _ (dutyReconfigured_dutyKept 0 _ ((State.dutyKept_iff _).mpr ⟨h.slot, hc, h.cs⟩))

/-- A card whose summary passes the third check of R117 is taken with its counters in order. -/
theorem Slot.inserted_sound {token : BitVec 32} {activity : Activity} {c : Summary} {l : LimitSet} {clock : Nat}
    {staged : Option LimitSet} (hc : c.bad l = false) (hstaged : ∀ l, staged = some l → l.valid = true) :
    (Slot.inserted token activity c clock staged).sound := by
  simp only [Summary.bad, decide_eq_false_iff_not, not_or, Nat.not_lt] at hc
  obtain ⟨-, hdaily, hweekly⟩ := hc
  exact ⟨⟨hdaily, hweekly, nofun⟩, hstaged⟩

theorem insertCard_dutyKept {i : Fin 2} {token : BitVec 32} {activity : Activity} {c : Summary} {l : LimitSet} {s : State}
    (hc : c.bad l = false) (h : s.dutyKept) : (insertCard i token activity c s).dutyKept :=
  SameDriving.keeps ((clearMismatch_driving i _).trans ((insertTrack_driving i .continuous _).trans
      ((insertTrack_driving i .daily _).trans ((insertTrack_driving i .weekly _).trans (writeDerived_driving i _)))))
    (setSlot_dutyKept h (Slot.inserted_sound hc (h.slot i).2))

theorem removeCard_dutyKept (i : Fin 2) (s : State) (h : s.dutyKept) : (removeCard i s).dutyKept := by
  have hwithdrawn := SameDriving.keeps ((withdraw_driving (.duty i .continuous) _).trans
      ((withdraw_driving (.duty i .daily) _).trans (withdraw_driving (.duty i .weekly) _)))
    (setSlot_dutyKept (i := i) (x := { s.slot i with pending := none, superseded := false }) h (h.slot i))
  exact SameDriving.keeps ((clearMismatch_driving i _).trans ((writeEntry_driving _ _ _).trans (writeEntry_driving _ _ _)))
    (setSlot_dutyKept hwithdrawn (Slot.empty_sound (hwithdrawn.slot i).2))

theorem readLimitSet_valid {b : List Byte} {n : Nat} {l : LimitSet} (h : readLimitSet b n = some l) : l.valid = true := by
  simp only [readLimitSet, readWhen, Option.ite_none_right_eq_some, Option.some.injEq] at h
  exact h.2 ▸ h.1

theorem readDutySettings_valid {b : List Byte} {c : DutySettings} (h : readDutySettings b = some c) (i : Fin 2) :
    (c.limits.get i).valid = true := by
  simp only [readDutySettings, Option.bind_eq_bind, Option.bind_eq_some_iff, Option.some.injEq] at h
  obtain ⟨one, hone, two, htwo, _, -, _, -, _, -, rfl⟩ := h
  obtain rfl | rfl : i = 0 ∨ i = 1 := by omega
  · exact readLimitSet_valid hone
  · exact readLimitSet_valid htwo

theorem readStagedLimits_valid {b : List Byte} {i : Fin 2} {l : LimitSet} (h : readStagedLimits b = some (i, l)) :
    l.valid = true := by
  simp only [readStagedLimits, Option.bind_eq_bind, Option.bind_eq_some_iff, Option.some.injEq, Prod.mk.injEq] at h
  obtain ⟨_, -, _, hread, -, rfl⟩ := h
  exact readLimitSet_valid hread

theorem drivingNotice_driving (a : Activity) (s : State) : SameDriving s (drivingNotice a s) := .of_parts (by simp)

theorem storeActivity_dutyKept (i : Fin 2) (a : Activity) (s : State) (h : s.dutyKept) :
    (storeActivity i a s).state.dutyKept := by
  have hstored : ∀ m, (s.setSlot i { s.slot i with pending := some a, superseded := m }).dutyKept := fun m =>
    setSlot_dutyKept h (h.slot i)
  unfold storeActivity
  split
  · exact (drivingNotice_driving a _).keeps (hstored _)
  · exact ((SameDriving.of_parts (by simp [hand])).trans (drivingNotice_driving a _)).keeps (hstored true)

/-! ### The store and the resets (R190, R191, R133) -/

/-- The lock cell has no part in the limit sets (R190). -/
theorem Store.locked_limitsValid {c : Store} {x : Settings} (hx : x.limitsValid) : (c.locked x).limitsValid := by
  unfold Store.locked
  split <;> exact hx

theorem Store.abandoned_limitsValid {c : Store} (h : c.limitsValid) : c.abandoned.limitsValid := by
  obtain ⟨himage, hsaving⟩ := h
  unfold Store.abandoned
  split
  · exact ⟨himage, hsaving⟩
  · next x hx =>
    refine ⟨fun y check hy => ?_, nofun⟩
    simp only [StoredImage.brokenOff, StoredImage.held.injEq] at hy
    exact hy.1 ▸ hsaving x hx

theorem Store.afterReset_limitsValid {c : Store} (h : c.limitsValid) : c.afterReset.limitsValid :=
  ⟨(Store.abandoned_limitsValid h).1, nofun⟩

theorem Store.loaded_limitsValid {c : Store} (h : c.limitsValid) : c.loaded.limitsValid := by
  refine Store.locked_limitsValid ?_
  cases himage : c.image with
  | absent => exact Settings.builtIn_limitsValid
  | held x check =>
    unfold StoredImage.read
    dsimp only
    split
    · exact h.1 x check himage
    · exact Settings.builtIn_limitsValid

theorem beginSave_dutyKept (s : State) (h : s.dutyKept) : (beginSave s).dutyKept := by
  refine h.of_store rfl rfl ⟨h.cs.1, fun x hx => ?_⟩
  cases hx
  exact Store.locked_limitsValid h.cfg

theorem endSave_dutyKept {written : Settings} {s : State} (outcome : SaveOutcome) (hsaving : s.cs.saving = some written)
    (h : s.dutyKept) : (endSave written outcome s).dutyKept := by
  have hwritten := h.cs.2 written hsaving
  cases outcome with
  | completed =>
    refine h.of_store (by simp [endSave]) (by simp) ⟨fun x check hx => ?_, by simp [endSave]⟩
    simp only [endSave, hand_frame, State.setCs_cs, StoredImage.written, StoredImage.held.injEq] at hx
    exact hx.1 ▸ hwritten
  | failed left =>
    refine h.of_store (by simp [endSave]) (by simp) ⟨fun x check hx => ?_, by simp [endSave]⟩
    simp only [endSave, hand_frame, State.setCs_cs] at hx
    rcases imageLeft_settings left _ _ _ _ hx with hx | rfl
    · exact h.cs.1 x check hx
    · exact hwritten

/-- Every block in its reset state, with the duty unit given. -/
theorem resetBlocks_dutyKept {c : Settings} {store : Store} {duty : Duty} (sampleDue keyDue : Nat) (keyOn : Bool) (s : State)
    (hduty : ∀ i, (duty.slots.get i).sound) (hc : c.limitsValid) (hstore : store.limitsValid) :
    (resetBlocks c store duty sampleDue keyDue keyOn s).dutyKept :=
  (State.dutyKept_iff _).mpr ⟨hduty, hc, hstore⟩

theorem afterPowerOn_sound (now : Nat) (i : Fin 2) : ((Duty.afterPowerOn now).slots.get i).sound := by
  rw [Duty.afterPowerOn, Table.get_replicate]
  exact Slot.empty_sound nofun

theorem powerOn_dutyKept (keyOn : Bool) (s : State) (h : s.dutyKept) : (powerOn keyOn s).dutyKept := by
  have hstore := Store.afterReset_limitsValid h.cs
  exact (choosePower_driving .powerOn _).keeps (resetBlocks_dutyKept _ _ keyOn s (afterPowerOn_sound s.now)
    (Store.loaded_limitsValid hstore) hstore)

theorem writeDerivedIfPresent_driving (i : Fin 2) (s : State) : SameDriving s (writeDerivedIfPresent i s) :=
  .ite (writeDerived_driving i s) (.refl s)

/-- LINK RESET keeps the slots and the limit sets in force (R112, R133). -/
theorem linkReset_dutyKept (keyOn : Bool) (s : State) (h : s.dutyKept) : (linkReset keyOn s).dutyKept := by
  refine SameDriving.keeps ((writeDerivedIfPresent_driving 0 (linkResetBlocks keyOn s)).trans
    ((writeDerivedIfPresent_driving 1 _).trans (choosePower_driving .linkReset _))) ?_
  refine resetBlocks_dutyKept _ _ keyOn s (fun i => ?_) h.cfg (Store.afterReset_limitsValid h.cs)
  have hslot := unmarked_slot s (s.setDtu s.dtu.unmarked) rfl i
  rw [State.slot, State.setDtu_dtu] at hslot
  rw [hslot]
  exact h.slot i

theorem replySent_dutyKept (keyOn : Bool) (r : Reply) (s : State) (h : s.dutyKept) : (replySent keyOn r s).dutyKept := by
  unfold replySent
  split
  · exact linkReset_dutyKept keyOn s h
  · exact h

theorem loseSupply_dutyKept (s : State) (h : s.dutyKept) : (loseSupply s).dutyKept :=
  (State.dutyKept_iff _).mpr ⟨afterPowerOn_sound s.now, Settings.builtIn_limitsValid, Store.abandoned_limitsValid h.cs⟩

/-! ### Requests -/

theorem linkKeeps_dutyKept : LinkKeeps State.dutyKept where
  pending _ _ h := h
  await _ _ := SameDriving.keeps (.of_parts (by simp))
  short _ := SameDriving.keeps (.of_parts (by simp))
  mismatch _ _ := SameDriving.keeps (.of_parts (by simp))
  good _ := SameDriving.keeps (.of_parts (by simp))
  overrun _ _ _ := SameDriving.keeps (.of_parts (by simp))
  reply _ _ _ _ _ := SameDriving.keeps (.of_parts (by simp))

/-- A request whose rule leaves driving alone, whatever it reads. -/
def Request.LeavesDriving (r : Request) : Prop := ∀ b s, SameDriving s (r.run b s).state

section
variable {r : Request} {α : Type} {read : List Byte → State → Option α} {act : List Byte → State → α → Answer}

theorem Request.LeavesDriving.keeps (h : r.LeavesDriving) : r.Keeps State.dutyKept := fun b s => (h b s).keeps

theorem Request.LeavesDriving.of_reading (hrun : ∀ b s, r.run b s = reading (read b s) (act b s) s)
    (hact : ∀ b s x, SameDriving s (act b s x).state) : r.LeavesDriving := fun b s => by
  rw [hrun]
  exact reading_keeps (SameDriving s) _ _ s (.refl s) fun x _ => hact b s x

theorem Request.LeavesDriving.of_configuring (hrun : ∀ b s, r.run b s = configuring (read b s) (act b s) s)
    (hact : ∀ b s x, SameDriving s (act b s x).state) : r.LeavesDriving := fun b s => by
  rw [hrun]
  exact configuring_keeps (SameDriving s) _ _ s (.refl s) fun x _ => hact b s x

end

theorem linkRequests_leaveDriving : ∀ r ∈ [fetchReportsRequest, statusRequest, identifyRequest, setRouteRequest,
    configureLinkRequest, resetRequest], r.LeavesDriving := by
  simp only [List.forall_mem_cons, List.not_mem_nil, false_imp_iff, implies_true, and_true]
  exact ⟨.of_reading (fun _ _ => rfl) fun b s n => .of_parts (by simp [fetchReports]), fun _ s => .refl s,
    fun _ s => .refl s, .of_configuring (fun _ _ => rfl) fun b s x => .of_parts ⟨rfl, rfl, rfl⟩,
    .of_configuring (fun _ _ => rfl) fun b s c => .of_parts (by simp [configureLink]), fun _ s => .refl s⟩

theorem powerRequests_leaveDriving : ∀ r ∈ [sleepRequest, wakeRequest, configurePowerRequest], r.LeavesDriving := by
  simp only [List.forall_mem_cons, List.not_mem_nil, false_imp_iff, implies_true, and_true]
  refine ⟨fun b s => ?_, fun b s => ?_, .of_configuring (fun _ _ => rfl) fun b s c => .of_parts ⟨rfl, rfl, rfl⟩⟩
  · simp only [sleepRequest]
    split
    · exact .refl s
    · exact .refl s
    · split
      · exact .refl s
      · exact enterParkingState_driving s
    · exact .refl s
  · simp only [wakeRequest]
    split
    · exact enterProving_driving _ .wake s
    · exact .of_parts (by simp)
    all_goals exact .refl s

theorem storeRequests_keepDuty : ∀ r ∈ [saveConfigurationRequest, lockCalibrationRequest, readConfigurationRequest],
    r.Keeps State.dutyKept := by
  simp only [List.forall_mem_cons, List.not_mem_nil, false_imp_iff, implies_true, and_true]
  refine ⟨fun b s h => ?_, fun b s h => ?_, keeps_of_reading (fun _ _ => rfl) fun b s x _ h => h⟩
  · simp only [saveConfigurationRequest]
    split
    · exact h
    · exact beginSave_dutyKept s h
  · simp only [lockCalibrationRequest, setLock]
    (repeat' split) <;> exact h

theorem quantityRequests_leaveDriving : ∀ r ∈ [configureQuantityRequest, setQuantitiesRequest, readQuantitiesRequest],
    r.LeavesDriving := by
  simp only [List.forall_mem_cons, List.not_mem_nil, false_imp_iff, implies_true, and_true]
  refine ⟨.of_configuring (fun _ _ => rfl) fun b s x => ?_, applyPairs_driving,
    .of_reading (fun _ _ => rfl) fun b s x => .refl s⟩
  dsimp only
  split
  · exact .refl s
  · exact .of_parts (by simp [configureEntry])

theorem scanRequests_leaveDriving : ∀ r ∈ [configureScanRequest, scanStartRequest, scanStopRequest, scanOnceRequest,
    readScanRequest], r.LeavesDriving := by
  simp only [List.forall_mem_cons, List.not_mem_nil, false_imp_iff, implies_true, and_true]
  refine ⟨fun b s => ?_, fun b s => ?_, fun b s => ?_, fun b s => ?_, fun _ s => .refl s⟩
  · simp only [configureScanRequest]
    split
    · exact .refl s
    · split
      · exact .refl s
      · refine reading_keeps (SameDriving s) _ _ s (.refl s) fun c _ => ?_
        split <;> exact .of_parts (by simp [configureScan])
  · simp only [scanStartRequest]
    (repeat' split) <;> exact .of_parts (by simp)
  · simp only [scanStopRequest]
    split <;> exact .of_parts (by simp)
  · simp only [scanOnceRequest]
    (repeat' split) <;> exact .of_parts (by simp)

theorem gaugeRequests_leaveDriving : ∀ r ∈ [configureGaugeRequest, homeGaugeRequest, parkGaugeRequest,
    releaseGaugeRequest, positionGaugeRequest, readGaugeRequest], r.LeavesDriving := by
  simp only [List.forall_mem_cons, List.not_mem_nil, false_imp_iff, implies_true, and_true]
  refine ⟨.of_configuring (fun _ _ => rfl) fun b s x => ?_,
    .of_reading (fun _ _ => rfl) fun b s g => (judgePower_driving _).after (.of_parts (by simp)),
    .of_reading (fun _ _ => rfl) fun b s g => ?_, fun b s => ?_,
    .of_reading (fun _ _ => rfl) fun b s x => ?_, .of_reading (fun _ _ => rfl) fun b s g => .refl s⟩
  · dsimp only
    split
    · exact .refl s
    · split
      · exact .refl s
      · rw [configuredGauge_state]
        exact .of_parts (by simp [configureGauge])
  · unfold parkGauge
    split
    · exact .refl s
    · split
      · exact .refl s
      · exact (judgePower_driving _).after (.of_parts (by simp))
  · simp only [releaseGaugeRequest]
    split
    · exact .refl s
    · refine reading_keeps (SameDriving s) _ _ s (.refl s) fun g _ => ?_
      split <;> exact .of_parts (by simp)
  · dsimp only
    split
    · exact .refl s
    · exact (judgePower_driving _).after (.of_parts (by simp))

theorem evaluationRequests_leaveDriving : ∀ r ∈ [configureShapeRequest, configureCriterionRequest,
    configureEvaluationRequest, readStrengthRequest], r.LeavesDriving := by
  simp only [List.forall_mem_cons, List.not_mem_nil, false_imp_iff, implies_true, and_true]
  exact ⟨.of_configuring (fun _ _ => rfl) fun b s x => .of_parts ⟨rfl, rfl, rfl⟩,
    .of_configuring (fun _ _ => rfl) fun b s x => configureCriterion_driving x.1 x.2 s,
    .of_configuring (fun _ _ => rfl) fun b s n => .of_parts ⟨rfl, rfl, rfl⟩,
    .of_reading (fun _ _ => rfl) fun b s w => .refl s⟩

theorem warningRequests_leaveDriving : ∀ r ∈ [configureWarningRequest, acknowledgeWarningRequest, clearWarningRequest,
    suppressWarningRequest, restoreWarningRequest, readWarningRequest, configureLampRequest, configureDimmerRequest,
    setLampsRequest, readLampsRequest], r.LeavesDriving := by
  simp only [List.forall_mem_cons, List.not_mem_nil, false_imp_iff, implies_true, and_true]
  refine ⟨.of_configuring (fun _ _ => rfl) fun b s x => reconfigureWarning_driving x.1 x.2 s,
    .of_reading (fun _ _ => rfl) fun b s w => acknowledgeByHost_driving w s,
    .of_reading (fun _ _ => rfl) fun b s w => clearByHost_driving w s,
    .of_reading (fun _ _ => rfl) fun b s w => suppressByHost_driving w s,
    .of_reading (fun _ _ => rfl) fun b s w => restoreByHost_driving w s,
    .of_reading (fun _ _ => rfl) fun b s w => .refl s, .of_configuring (fun _ _ => rfl) fun b s x => ?_,
    .of_configuring (fun _ _ => rfl) fun b s q => .of_parts ⟨rfl, rfl, rfl⟩, applyLampPairs_driving, fun _ s => .refl s⟩
  simp only [Answer.ok_state, configureLamp]
  split <;> exact .of_parts (by simp)

theorem dutyRequests_keepDuty : ∀ r ∈ [configureDutyRequest, stageLimitsRequest, dutyActivityRequest, cardInRequest,
    cardOutRequest, readDutyRequest], r.Keeps State.dutyKept := by
  simp only [List.forall_mem_cons, List.not_mem_nil, false_imp_iff, implies_true, and_true]
  refine ⟨keeps_of_configuring (fun _ _ => rfl) fun b s c hc h => configureDuty_dutyKept (readDutySettings_valid hc) h,
    keeps_of_reading (fun _ _ => rfl) fun b s x hx h => setSlot_dutyKept h ⟨(h.slot x.1).1, ?_⟩,
    keeps_of_reading (fun _ _ => rfl) fun b s x _ h => ?_, keeps_of_reading (fun _ _ => rfl) fun b s x _ h => ?_,
    keeps_of_reading (fun _ _ => rfl) fun b s i _ h => ?_, keeps_of_reading (fun _ _ => rfl) fun b s i _ h => h⟩
  · rintro l ⟨⟩
    exact readStagedLimits_valid hx
  · obtain ⟨i, a⟩ := x
    dsimp only
    split
    · exact h
    · split
      · exact h
      · exact storeActivity_dutyKept i a s h
  · obtain ⟨i, a⟩ := x
    dsimp only
    split
    · exact h
    · split
      · exact h
      · next hgood =>
        split
        · exact h
        · exact (drivingNotice_driving a _).keeps (insertCard_dutyKept (by simpa using hgood) h)
  · split
    · exact h
    · exact removeCard_dutyKept i s h

theorem lineRequests_leaveDriving : ∀ r ∈ [configureMessageRequest, configureLineRequest, configureDutyMessagesRequest,
    setPriorityMapRequest, holdRequest, releaseRequest, acknowledgeShownRequest, announceRequest, withdrawRequest,
    setRestingPageRequest, chimeClickRequest, readLineRequest], r.LeavesDriving := by
  simp only [List.forall_mem_cons, List.not_mem_nil, false_imp_iff, implies_true, and_true]
  refine ⟨.of_configuring (fun _ _ => rfl) fun b s x => .of_parts (by simp),
    .of_configuring (fun _ _ => rfl) fun b s c => .of_parts ⟨rfl, rfl, rfl⟩,
    .of_configuring (fun _ _ => rfl) fun b s c => .of_parts ⟨rfl, rfl, rfl⟩,
    .of_configuring (fun _ _ => rfl) fun b s m => ?_, fun b s => .of_parts ⟨rfl, rfl, rfl⟩, fun b s => ?_, fun b s => ?_,
    .of_reading (fun _ _ => rfl) fun b s x => offer_driving _ s,
    .of_reading (fun _ _ => rfl) fun b s h => withdraw_driving _ s,
    .of_configuring (fun _ _ => rfl) fun b s p => ?_, fun b s => ?_, fun _ s => .refl s⟩
  · split <;> exact .of_parts ⟨rfl, rfl, rfl⟩
  · simp only [releaseRequest]
    split
    · exact (decideLine_driving _).after (.of_parts ⟨rfl, rfl, rfl⟩)
    · exact .refl s
  · simp only [acknowledgeShownRequest]
    split
    · exact .refl s
    · exact acknowledgeShown_driving s
  · simp only [Answer.ok_state, setRestingPage]
    split <;> exact .of_parts (by simp)
  · simp only [chimeClickRequest]
    split <;> exact .of_parts ⟨rfl, rfl, rfl⟩

theorem requests_keepDuty : ∀ r ∈ requests, r.Keeps State.dutyKept := by
  simp only [requests, List.forall_mem_append]
  exact ⟨⟨⟨⟨⟨⟨⟨⟨⟨fun r h => (linkRequests_leaveDriving r h).keeps, fun r h => (powerRequests_leaveDriving r h).keeps⟩,
    storeRequests_keepDuty⟩, fun r h => (quantityRequests_leaveDriving r h).keeps⟩,
    fun r h => (scanRequests_leaveDriving r h).keeps⟩, fun r h => (gaugeRequests_leaveDriving r h).keeps⟩,
    fun r h => (evaluationRequests_leaveDriving r h).keeps⟩, fun r h => (warningRequests_leaveDriving r h).keeps⟩,
    dutyRequests_keepDuty⟩, fun r h => (lineRequests_leaveDriving r h).keeps⟩

/-! ### Events and time -/

/-- What follows an expiry at its own time (log entry 3). -/
theorem reached_driving {s u : State} (due : Nat) (h : SameDriving (s.reach due) u) : SameDriving s u :=
  h.after (.of_parts ⟨rfl, rfl, rfl⟩)

theorem onTimer_driving {timer : Option Nat} {f : State → State} {s : State}
    (hf : ∀ due, SameDriving (s.reach due) (f (s.reach due))) : SameDriving s (onTimer timer f s) :=
  onTimer_keeps (P := SameDriving s) (.refl s) fun due _ => reached_driving due (hf due)

theorem events_keepDuty (c : Instr) (s t : State) (hc : frame c = none) (h : s.dutyKept) (hstep : exec c s = .next t) :
    t.dutyKept := by
  cases c <;> cases hc
  case powerOn keyOn =>
    cases hstep
    exact powerOn_dutyKept keyOn s h
  all_goals
    simp only [exec, execReplySent, execBadLengthByte, execFrameCheckMismatch, execFrameByteTimeout, execLinkOverrun,
      execUnknownRequest, execSaveEnd, execRefreshExpiry, execSwitchSample, execScanIntervalExpiry,
      execConversionCompletion, execGaugeStep, execHomingStep, execGaugeUpdate, execCoilOpen, execPassStart,
      execCriterionEvaluation, execRaiseDelayExpiry, execReminderExpiry, execFlashHalfChange, execLampSample,
      execMinuteExpiry, execDwellExpiry, execShowTimeExpiry, execRotationExpiry, execLineRefresh, execTransferCompletion,
      execOneShotEnd, execClickEnd, execRepeatPeriod, execKeySample, execProofTimerExpiry, execProofDone, execEntryToSleep,
      execSilenceExpiry, execByteArrival, execLossOfSupply] at hstep
    refine event_keeps (fun h => ?_) h hstep
    clear hstep
  case replySent keyOn =>
    split
    · exact h
    · exact replySent_dutyKept keyOn _ s h
  case saveEnd outcome =>
    split
    · exact h
    · next hsaving => exact endSave_dutyKept outcome hsaving h
  case lossOfSupply => exact loseSupply_dutyKept s h
  case byteArrival b => exact receiveByte_keeps linkKeeps_dutyKept requests_keepDuty b s h
  case unknownRequest tag kind =>
    split
    · exact h
    · exact takeUnknown_keeps linkKeeps_dutyKept tag kind s h
  case minuteExpiry slot2First => exact minuteExpired_dutyKept _ _ _ h
  all_goals refine SameDriving.keeps ?_ h
  case switchSample levels => exact (forEach_driving (sampleSwitch_driving levels) _).after (.of_parts (by simp))
  case conversionCompletion raw =>
    split
    · exact .refl s
    · exact reached_driving _ (completeConversion_driving _ _ _)
  case gaugeStep =>
    split
    · exact (judgePower_driving _).after (.of_parts (by simp))
    · exact .refl s
  case homingStep | gaugeUpdate =>
    split
    · exact .refl s
    · exact (judgePower_driving _).after (.of_parts (by simp))
  case coilOpen => exact (judgePower_driving _).after (.of_parts (by simp))
  case criterionEvaluation =>
    split
    · exact .refl s
    · exact reached_driving _ (endCriterion_driving _ _)
  case raiseDelayExpiry w => exact onTimer_driving fun due => enterActiveNew_driving w false _
  case reminderExpiry w => exact onTimer_driving fun due => reminderExpired_driving w _
  case silenceExpiry => exact onTimer_driving fun due => beginLinkLost_driving _
  case refreshExpiry | frameByteTimeout => exact onTimer_driving fun due => .of_parts (by simp)
  case dwellExpiry =>
    split
    · exact .refl s
    · exact onTimer_driving fun due => dwellElapsed_driving _ _
  case showTimeExpiry =>
    split
    · exact .refl s
    · exact onTimer_driving fun due => showTimeExpired_driving _ _
  case rotationExpiry =>
    split
    · exact .refl s
    · exact onTimer_driving fun due => .of_parts (by simp)
  case keySample level => exact reached_driving _ (sampleKey_driving level _ _)
  case proofTimerExpiry =>
    split
    · exact (judgePower_driving _).after (.of_parts (by simp))
    all_goals exact .refl s
  case proofDone | entryToSleep => exact .ite (judgePower_driving s) (.refl s)
  all_goals (repeat' split) <;> exact .of_parts (by simp)

/-- Settles O57: the duty unit's own operations keep every slot sound, loads and saves keep the limit sets valid, and the rest
of the part touches neither. -/
theorem stepKeepsTheOrderOfDriving : Obligations.StepKeepsTheOrderOfDriving :=
  stepKeeps_of State.dutyKept linkKeeps_dutyKept (fun s => SameDriving.keeps (.of_parts (by simp))) requests_keepDuty
    events_keepDuty

end Sys2Proof.Machine
end

section
/-! PROOFS. O45: the stage of a counter, and the recomputation of a track (R125 to R127). What the line can make of the marks
of the tracks, what an offer with room leaves on the line, and what a recomputation makes of each track's record. -/
namespace Sys2Proof.Machine

/-! ### The stage of a counter (R125) -/

theorem stageOf_cases (limit margin counter : Nat) :
    (counter + margin < limit → stageOf limit margin counter = .normal) ∧
    (limit ≤ counter + margin → counter < limit → stageOf limit margin counter = .prewarn) ∧
    (counter = limit → stageOf limit margin counter = .limit) ∧
    (limit < counter → stageOf limit margin counter = .exceeded) := by
  unfold stageOf
  refine ⟨fun h => ?_, fun h hbelow => ?_, fun h => ?_, fun h => ?_⟩
  · rw [if_neg (by omega), if_neg (by omega), if_neg (by omega)]
  · rw [if_neg (by omega), if_neg (by omega), if_pos h]
  · rw [if_neg (by omega), if_pos h]
  · rw [if_pos h]

/-! ### The records of the tracks -/

theorem State.track_of {s t : State} (h : t.dtu = s.dtu) (i : Fin 2) (k : Track) : t.track i k = s.track i k := by
  rw [State.track, State.slot_of s t h, State.track]

@[simp] theorem handStage_track (i j : Fin 2) (k l : Track) (old new : Stage) (s : State) :
    (handStage i k old new s).track j l = s.track j l :=
  State.track_of (by simp) j l

theorem State.setStage_track (s : State) (i j : Fin 2) (k l : Track) (stage : Stage) (acknowledged : Bool) :
    (s.setStage i k stage acknowledged).track j l =
      if j = i ∧ l = k then ⟨stage, acknowledged, (s.track i k).offered⟩ else s.track j l :=
  State.setTrack_track s i j k l _

/-- The line can clear an announcement mark and set an acknowledged mark, and never the other way round (R128, R142). -/
def TracksSettle (s t : State) : Prop := ∀ i k,
  ((s.track i k).offered = false → (t.track i k).offered = false) ∧
  ((s.track i k).acknowledged = true → (t.track i k).acknowledged = true)

section
variable {s t u : State}

theorem TracksSettle.trans (h : TracksSettle s t) (k : TracksSettle t u) : TracksSettle s u := fun i l =>
  ⟨fun hs => (k i l).1 ((h i l).1 hs), fun hs => (k i l).2 ((h i l).2 hs)⟩

/-- The later change first, so that it says which state the earlier one leads to. -/
theorem TracksSettle.after (k : TracksSettle t u) (h : TracksSettle s t) : TracksSettle s u := h.trans k

theorem TracksSettle.of_dtu (h : t.dtu = s.dtu) : TracksSettle s t := fun i k => by
  rw [State.track_of h]
  exact ⟨id, id⟩

theorem TracksSettle.setTrack {i : Fin 2} {k : Track} {r : TrackRecord} (hoffered : r.offered = false)
    (hacknowledged : (s.track i k).acknowledged = true → r.acknowledged = true) : TracksSettle s (s.setTrack i k r) := by
  intro j l
  rw [State.setTrack_track]
  split
  · next hj =>
    obtain ⟨rfl, rfl⟩ := hj
    exact ⟨fun _ => hoffered, hacknowledged⟩
  · exact ⟨id, id⟩

end

theorem tellOwner_settles (cause : EndCause) (e : Entry) (s : State) : TracksSettle s (tellOwner cause e s) := by
  unfold tellOwner
  split
  · exact .of_dtu rfl
  · exact .of_dtu rfl
  · exact .of_dtu (by simp [warningEntryEnded])
  · exact .of_dtu (by simp [warningEntryEnded])
  · exact .setTrack rfl fun _ => rfl
  · exact .setTrack rfl id

theorem endEntry_settles (cause : EndCause) (e : Entry) (s : State) : TracksSettle s (endEntry cause e s) :=
  (tellOwner_settles cause e s).trans (.of_dtu (by simp [endEntry]))

theorem decideLine_settles (s : State) : TracksSettle s (decideLine s) := by
  have hdisplace (sh : Shown) : TracksSettle s (displace sh s) := by
    unfold displace
    dsimp only
    split
    · exact .of_dtu (by simp)
    · exact (endEntry_settles .displaced _ _).after (.of_dtu (by simp))
  unfold decideLine
  (repeat' split)
  · exact .of_dtu rfl
  · exact .of_dtu (by simp)
  · exact hdisplace _
  · exact .of_dtu rfl

theorem decideAfterEnd_settles (s : State) : TracksSettle s (decideAfterEnd s) :=
  (decideLine_settles s).trans (.of_dtu (by simp [decideAfterEnd]))

theorem joinQueue_settles (o : Offer) (s : State) : TracksSettle s (joinQueue o s) :=
  (decideLine_settles _).after (.of_dtu (by simp))

theorem offer_settles (o : Offer) (s : State) : TracksSettle s (offer o s) := by
  unfold offer updateShown updateWaiting offerOnFull
  (repeat' split)
  · exact .of_dtu (by simp)
  · exact .of_dtu (by simp)
  · exact joinQueue_settles o s
  · exact joinQueue_settles o s
  · exact ((endEntry_settles _ _ _).trans (joinQueue_settles o _)).after (.of_dtu (by simp))
  · exact (endEntry_settles _ _ _).after (.of_dtu (by simp))

theorem withdraw_settles (x : AnnSource) (s : State) : TracksSettle s (withdraw x s) := by
  unfold withdraw
  (repeat' split)
  · exact (endEntry_settles _ _ _).after (.of_dtu (by simp))
  · exact .of_dtu rfl
  · exact ((endEntry_settles _ _ _).trans (decideAfterEnd_settles _)).after (.of_dtu (by simp))
  · exact .of_dtu rfl

theorem writeEntry_settles (q : Fin 48) (e : Quantity) (s : State) : TracksSettle s (writeEntry q e s) := by
  have hset : TracksSettle s (s.setEntry q e) := .of_dtu (by simp)
  unfold writeEntry acknowledgeShown
  dsimp only
  (repeat' split)
  · exact hset
  · exact ((endEntry_settles _ _ _).trans (decideAfterEnd_settles _)).after (.of_dtu (by simp))
  · exact hset

/-! ### The track whose entry does not end -/

theorem endEntry_otherTrack {cause : EndCause} {e : Entry} {i : Fin 2} {k : Track} (s : State) (h : e.source ≠ .duty i k) :
    (endEntry cause e s).track i k = s.track i k := by
  have hother {j : Fin 2} {l : Track} (r : TrackRecord) (hsource : e.source = .duty j l) :
      (s.setTrack j l r).track i k = s.track i k := by
    rw [State.setTrack_track, if_neg]
    rintro ⟨rfl, rfl⟩
    exact h hsource
  have howner : (tellOwner cause e s).track i k = s.track i k := by
    unfold tellOwner
    split
    · rfl
    · rfl
    · exact State.track_of (by simp [warningEntryEnded]) i k
    · exact State.track_of (by simp [warningEntryEnded]) i k
    · next hsource => exact hother _ hsource
    · next hsource _ _ => exact hother _ hsource
  rw [← howner]
  exact State.track_of (by simp [endEntry]) i k

/-- Deciding the line can end no entry but the shown one. -/
theorem decideLine_otherTrack {i : Fin 2} {k : Track} {s : State}
    (h : ∀ sh, s.anu.shown = some sh → sh.entry.source ≠ .duty i k) : (decideLine s).track i k = s.track i k := by
  unfold decideLine
  split
  · rfl
  · split
    · exact State.track_of (by simp) i k
    · next sh hshown =>
      split
      · unfold displace
        dsimp only
        split
        · exact State.track_of (by simp) i k
        · rw [endEntry_otherTrack _ (h sh hshown)]
          exact State.track_of (by simp) i k
      · rfl

/-! ### An offer that finds room (R139) -/

/-- An entry says what an offer says. -/
def Entry.says (e : Entry) (o : Offer) : Prop := e.source = o.source ∧ e.message = o.message ∧ e.chime = o.chime

/-- A waiting entry waits on or is shown once the head is shown. -/
theorem showHead_announces {o : Offer} {s : State} (h : ∃ e ∈ s.anu.queue, e.says o) :
    ∃ e ∈ (showHead s).anu.entries, e.says o := by
  obtain ⟨e, he, hsays⟩ := h
  unfold showHead
  split
  · next hempty =>
    rw [hempty] at he
    contradiction
  · next head rest hqueue =>
    obtain ⟨hwaiting, hshown, -⟩ := beginShowing_anu head (s.setQueue rest)
    rw [hqueue, List.mem_cons] at he
    rcases he with rfl | he
    · exact ⟨{ e with shownBefore := true }, by simp [Annunciation.entries, hshown, State.beginTimers], hsays⟩
    · have he : e ∈ (beginShowing head (s.setQueue rest)).anu.queue := hwaiting ▸ he
      exact ⟨e, List.mem_append_left _ he, hsays⟩

theorem decideLine_announces {o : Offer} {s : State} (h : ∃ e ∈ s.anu.queue, e.says o) :
    ∃ e ∈ (decideLine s).anu.entries, e.says o := by
  have hstays : ∃ e ∈ s.anu.entries, e.says o := by
    obtain ⟨e, he, hsays⟩ := h
    exact ⟨e, by simp [Annunciation.entries, he], hsays⟩
  unfold decideLine
  split
  · exact hstays
  · split
    · exact showHead_announces h
    · split
      · obtain ⟨e, he, hsays⟩ := showHead_announces (s := stopShown s) h
        refine ⟨e, ?_, hsays⟩
        unfold displace
        dsimp only
        split
        · simp only [Annunciation.entries, State.setQueue, State.setAnu_anu, List.mem_append, mem_enqueue] at he ⊢
          exact he.imp_left .inr
        · simpa using he
      · exact hstays

/-- The shown entry keeps its source when the arrival counter gains 1, renumbered or not (R138). -/
theorem gainArrival_shown {s : State} {sh : Shown} (h : (gainArrival s).anu.shown = some sh) :
    ∃ before, s.anu.shown = some before ∧ sh.entry.source = before.entry.source := by
  unfold gainArrival at h
  dsimp only at h
  split at h
  · exact ⟨sh, h, rfl⟩
  · simp only [renumber, State.setAnu_anu, Option.map_eq_some_iff] at h
    obtain ⟨before, hbefore, rfl⟩ := h
    exact ⟨before, hbefore, rfl⟩

/-- An offer that finds room leaves its entry on the line, and the mark of its own track as it stands (R139). -/
theorem offer_announces {o : Offer} {s : State} (hroom : s.anu.queue.length < 16) :
    (∃ e ∈ (offer o s).anu.entries, e.says o) ∧
    ∀ i k, o.source = .duty i k → (offer o s).track i k = s.track i k := by
  unfold offer
  simp only [if_pos hroom]
  split
  · next sh hshown =>
    obtain ⟨-, hsource⟩ := Option.filter_eq_some_iff.mp hshown
    exact ⟨⟨sh.entry.updated o, by simp [Annunciation.entries, updateShown],
      of_decide_eq_true hsource, rfl, rfl⟩, fun i k _ => State.track_of (by simp) i k⟩
  · next hshown =>
    split
    · next hwaits =>
      obtain ⟨e, he, hsource⟩ := List.any_eq_true.mp hwaits
      have hsource : e.source = o.source := of_decide_eq_true hsource
      refine ⟨⟨e.updated o, ?_, hsource, rfl, rfl⟩, fun i k _ => State.track_of (by simp) i k⟩
      simp only [Annunciation.entries, updateWaiting, State.setQueue, State.setAnu_anu, List.mem_append, List.mem_map]
      exact .inl ⟨e, he, if_pos hsource⟩
    · refine ⟨decideLine_announces ⟨(gainArrival s).newEntry o, by simp [State.setQueue], rfl, rfl, rfl⟩, fun i k ho => ?_⟩
      refine (decideLine_otherTrack fun sh hsh => ?_).trans (State.track_of (by simp) i k)
      obtain ⟨before, hbefore, hsame⟩ := gainArrival_shown (s := s) hsh
      rw [hbefore] at hshown
      rw [hsame, ← ho]
      simpa using hshown

/-- A withdrawal makes no more entries wait. -/
theorem withdraw_queue_le (x : AnnSource) (s : State) : (withdraw x s).anu.queue.length ≤ s.anu.queue.length := by
  have hhead (t : State) (h : t.anu.shown = none) : (decideLine t).anu.queue.length ≤ t.anu.queue.length := by
    simp only [decideLine, h, showHead]
    split
    · exact le_rfl
    · split
      · exact le_rfl
      · next e rest hqueue =>
        rw [(beginShowing_anu e (t.setQueue rest)).1, hqueue]
        simp [State.setQueue]
  unfold withdraw
  split
  · simpa [State.setQueue] using List.length_filter_le _ s.anu.queue
  · split
    · exact le_rfl
    · next sh _ =>
      split
      · simpa [decideAfterEnd, stopShown] using
          hhead (endEntry .withdrawn sh.entry (stopShown s)) (by simp [stopShown])
      · exact le_rfl

/-! ### One track -/

section
variable {i : Fin 2} {k : Track} {s : State}

theorem withdrawTrack_duty (acks : Prop) (i : Fin 2) (k : Track) (s : State) : SameDuty acks s (withdrawTrack i k s) := by
  unfold withdrawTrack
  split
  · exact (SameDuty.setTrack acks s i k _ false (fun _ => rfl)).trans (withdraw_duty acks _ _)
  · exact .of_dtu _ _ _ rfl

theorem withdrawTrack_unoffered (i : Fin 2) (k : Track) (s : State) : ((withdrawTrack i k s).track i k).offered = false := by
  unfold withdrawTrack
  split
  · exact (withdraw_settles _ _ i k).1 (by simp)
  · next h => simpa using h

theorem withdrawTrack_queue_le (i : Fin 2) (k : Track) (s : State) :
    (withdrawTrack i k s).anu.queue.length ≤ s.anu.queue.length := by
  unfold withdrawTrack
  split
  · simpa using withdraw_queue_le (.duty i k) (s.setTrack i k { s.track i k with offered := false })
  · exact le_rfl

theorem State.dutyOffer_of {s t : State} (h : t.cfg = s.cfg) (i : Fin 2) (k : Track) (stage : Stage) :
    t.dutyOffer i k stage = s.dutyOffer i k stage := by
  simp [State.dutyOffer, h]

theorem State.dutyOffer_source {stage : Stage} {o : Offer} (h : s.dutyOffer i k stage = some o) : o.source = .duty i k := by
  unfold State.dutyOffer at h
  split at h
  · contradiction
  · obtain ⟨m, -, rfl⟩ := Option.map_eq_some_iff.mp h
    rfl

theorem offerTrack_silent (h : s.psc.state = .sleep ∨ s.dutyOffer i k (s.track i k).stage = none) :
    offerTrack i k s = s := by
  unfold offerTrack
  split
  · rfl
  · next hawake => rw [h.resolve_left hawake]

theorem offerTrack_offers {o : Offer} (hawake : s.psc.state ≠ .sleep)
    (ho : s.dutyOffer i k (s.track i k).stage = some o) :
    offerTrack i k s = offer o (s.setTrack i k { s.track i k with offered := true }) := by
  rw [offerTrack, if_neg hawake, ho]

theorem offerTrack_duty (acks : Prop) (i : Fin 2) (k : Track) (s : State) : SameDuty acks s (offerTrack i k s) := by
  unfold offerTrack
  (repeat' split)
  · exact .of_dtu _ _ _ rfl
  · exact .of_dtu _ _ _ rfl
  · exact (SameDuty.setTrack acks s i k _ true (fun _ => rfl)).trans (offer_duty acks _ _)

/-! ### A recomputation (R125 to R127) -/

theorem recomputeTrack_same (h : s.stage i k = (s.track i k).stage) : recomputeTrack i k s = s := if_pos h

theorem recomputeTrack_rises (h : (s.track i k).stage.rank < (s.stage i k).rank) :
    recomputeTrack i k s = riseTrack i k (s.stage i k) s := by
  have hne : s.stage i k ≠ (s.track i k).stage := fun heq => absurd h (by rw [heq]; exact lt_irrefl _)
  simp only [recomputeTrack, if_neg hne, if_pos h]

theorem recomputeTrack_falls (h : (s.stage i k).rank < (s.track i k).stage.rank) :
    recomputeTrack i k s = fallTrack i k (s.stage i k) s := by
  have hne : s.stage i k ≠ (s.track i k).stage := fun heq => absurd h (by rw [heq]; exact lt_irrefl _)
  simp only [recomputeTrack, if_neg hne, if_neg (Nat.not_lt.mpr h.le)]

/-- A fall leaves the track not offered, and acknowledged but for NORMAL (R127). -/
theorem fallTrack_track (i : Fin 2) (k : Track) (new : Stage) (s : State) :
    (fallTrack i k new s).track i k = ⟨new, decide (new ≠ .normal), false⟩ := by
  rw [fallTrack, handStage_track, State.setStage_track, if_pos ⟨rfl, rfl⟩,
    withdrawTrack_unoffered]

/-- A rise leaves the track not acknowledged (R126). -/
theorem riseTrack_track (i : Fin 2) (k : Track) (new : Stage) (s : State) :
    ((riseTrack i k new s).track i k).stage = new ∧ ((riseTrack i k new s).track i k).acknowledged = false := by
  obtain ⟨-, -, -, -, -, hrecords⟩ := offerTrack_duty True i k ((withdrawTrack i k s).setStage i k new false)
  obtain ⟨hstage, hacknowledged⟩ := hrecords i k
  rw [riseTrack, handStage_track, hstage, hacknowledged trivial,
    State.setStage_track, if_pos ⟨rfl, rfl⟩]
  exact ⟨rfl, rfl⟩

/-- A rise in SLEEP, or to a stage with no message, leaves the track not offered (R126). -/
theorem riseTrack_silent {new : Stage} (h : s.psc.state = .sleep ∨ s.dutyOffer i k new = none) :
    ((riseTrack i k new s).track i k).offered = false := by
  have hset : ((withdrawTrack i k s).setStage i k new false).track i k = ⟨new, false, false⟩ := by
    rw [State.setStage_track, if_pos ⟨rfl, rfl⟩, withdrawTrack_unoffered]
  rw [riseTrack, handStage_track, offerTrack_silent, hset]
  rw [hset, State.dutyOffer_of (s := s) (by simp)]
  simpa using h

/-- A rise that finds room leaves the track offered, with its entry on the line (R126, R139). -/
theorem riseTrack_announces {new : Stage} {o : Offer} (hawake : s.psc.state ≠ .sleep) (ho : s.dutyOffer i k new = some o)
    (hroom : s.anu.queue.length < 16) : ((riseTrack i k new s).track i k).offered = true ∧
      ∃ e ∈ (riseTrack i k new s).anu.entries, e.says o := by
  obtain ⟨u, hu⟩ : ∃ u, u = (withdrawTrack i k s).setStage i k new false := ⟨_, rfl⟩
  have hset : u.track i k = ⟨new, false, false⟩ := by
    rw [hu, State.setStage_track, if_pos ⟨rfl, rfl⟩, withdrawTrack_unoffered]
  have hoffer : offerTrack i k u = offer o (u.setTrack i k { u.track i k with offered := true }) := by
    refine offerTrack_offers (by simpa [hu] using hawake) ?_
    rw [hset, State.dutyOffer_of (s := s) (by simp [hu])]
    exact ho
  obtain ⟨hentry, htrack⟩ := offer_announces (o := o) (s := u.setTrack i k { u.track i k with offered := true })
    (by simpa [hu] using (withdrawTrack_queue_le i k s).trans_lt hroom)
  rw [riseTrack, ← hu, hoffer]
  refine ⟨?_, by simpa [handStage] using hentry⟩
  rw [handStage_track, htrack i k (State.dutyOffer_source ho)]
  simp

/-- The stage of the track that is recomputed, and of every other. -/
theorem recomputeTrack_stage (i j : Fin 2) (k l : Track) (s : State) : ((recomputeTrack i k s).track j l).stage =
    if j = i ∧ l = k then s.stage i k else (s.track j l).stage := by
  have hset : ∀ stage acknowledged, (((withdrawTrack i k s).setStage i k stage acknowledged).track j l).stage =
      if j = i ∧ l = k then stage else (s.track j l).stage := by
    intro stage acknowledged
    obtain ⟨-, -, -, -, -, hrecords⟩ := withdrawTrack_duty True i k s
    rw [State.setStage_track]
    split
    · rfl
    · exact (hrecords j l).1
  unfold recomputeTrack
  dsimp only
  split
  · next hsame =>
    split
    · next hj => rw [hj.1, hj.2, hsame]
    · rfl
  · split
    · obtain ⟨-, -, -, -, -, hrecords⟩ := offerTrack_duty True i k ((withdrawTrack i k s).setStage i k (s.stage i k) false)
      rw [riseTrack, handStage_track, (hrecords j l).1, hset]
    · rw [fallTrack, handStage_track, hset]

theorem recomputeTrack_reports (h : s.stage i k ≠ (s.track i k).stage) : ∃ u, recomputeTrack i k s =
    hand .dutyStage (i.val + 1) (code Track.list k + 16 * (s.track i k).stage.rank + 256 * (s.stage i k).rank) u := by
  unfold recomputeTrack
  dsimp only
  rw [if_neg h]
  split
  · exact ⟨_, rfl⟩
  · exact ⟨_, rfl⟩

end

/-- Settles O45: the recomputation is the identity, a fall or a rise by the ranks of the two stages. -/
theorem stagesRiseAndFall : Obligations.StagesRiseAndFall := by
  refine ⟨stageOf_cases, ?_⟩
  rintro i k s t old new rfl rfl hnew
  obtain rfl : new = s.stage i k := hnew
  refine ⟨recomputeTrack_same, fun hne => ⟨?_, ?_, (recomputeTrack_slots i k s).2, recomputeTrack_reports hne⟩,
    fun hfall => ?_, fun hrise => ?_⟩
  · rw [recomputeTrack_stage, if_pos ⟨rfl, rfl⟩]
  · rw [State.sameBut_parts]
    simp
  · rw [recomputeTrack_falls hfall, fallTrack_track]
    exact ⟨rfl, rfl⟩
  · rw [recomputeTrack_rises hrise]
    refine ⟨(riseTrack_track i k _ s).2, riseTrack_silent, fun o hawake ho hroom => ?_⟩
    rw [← State.dutyOffer_source ho]
    exact riseTrack_announces hawake ho hroom

end Sys2Proof.Machine
end

section
/-! PROOFS. O46 to O48: the stages and the derived quantities of a slot (R125, R131). What a recomputation of the three tracks
and a write of both quantities make of the slot they are made for, and what they leave of the other. -/
namespace Sys2Proof.Machine

/-! ### What a slot's stages and remaining minutes are read from -/

section
variable {s t u : State}

theorem SameSlots.counter (h : SameSlots s t) (i : Fin 2) (k : Track) : (t.slot i).counter k = (s.slot i).counter k := by
  rw [h.2 i]
  cases k <;> rfl

theorem State.stage_of (h : SameSlots s t) {i : Fin 2} (hlimits : t.limits i = s.limits i) (k : Track) :
    t.stage i k = s.stage i k := by
  rw [State.stage, hlimits, h.counter, State.stage]

theorem State.remaining_eq (s : State) (i : Fin 2) (k : Track) :
    s.remaining i k = ((s.limits i).limit k : Int) - ((s.slot i).counter k : Int) := rfl

/-! ### What is done for one slot leaves of the other -/

/-- What is done for one slot leaves of another: the slot but for the records of its tracks, the limit set, the stages, the
derived quantities and the time. -/
structure SlotLeft (i : Fin 2) (s t : State) : Prop where
  slot : t.slot i = { s.slot i with tracks := (t.slot i).tracks }
  limits : t.limits i = s.limits i
  stage : ∀ k, (t.track i k).stage = (s.track i k).stage
  entry : ∀ daily, t.entry (derivedQuantity i daily) = s.entry (derivedQuantity i daily)
  now : t.now = s.now

theorem SlotLeft.trans {i : Fin 2} (h : SlotLeft i s t) (k : SlotLeft i t u) : SlotLeft i s u where
  slot := by rw [k.slot, h.slot]
  limits := k.limits.trans h.limits
  stage l := (k.stage l).trans (h.stage l)
  entry daily := (k.entry daily).trans (h.entry daily)
  now := k.now.trans h.now

theorem SlotLeft.refl (i : Fin 2) (s : State) : SlotLeft i s s := ⟨rfl, rfl, fun _ => rfl, fun _ => rfl, rfl⟩

theorem SlotLeft.of_duty {acks : Prop} {i : Fin 2} (h : SameDuty acks s t) (hcfg : t.cfg = s.cfg)
    (hentry : ∀ daily, t.entry (derivedQuantity i daily) = s.entry (derivedQuantity i daily)) (hnow : t.now = s.now) :
    SlotLeft i s t := by
  obtain ⟨-, -, -, -, hslot, hrecords⟩ := h
  exact ⟨hslot i, State.limits_of hcfg i, fun k => (hrecords i k).1, hentry, hnow⟩

/-- A change of another slot alone, of the duty unit. -/
theorem SlotLeft.setSlot {i j : Fin 2} (h : j ≠ i) (x : Slot) (s : State) : SlotLeft j s (s.setSlot i x) := by
  have hslot : (s.setSlot i x).slot j = s.slot j := by simp [h]
  exact ⟨by rw [hslot], State.limits_of (by simp) j, fun k => by rw [State.track, hslot, State.track], fun _ => rfl, rfl⟩

/-- The stages and the derived quantities of a slot are those of its counters (R125, R131). -/
structure SlotSettled (i : Fin 2) (t : State) : Prop where
  stage : ∀ k, (t.track i k).stage = t.stage i k
  status : ∀ daily, (t.entry (derivedQuantity i daily)).status = .valid
  restarted : ∀ daily, (t.entry (derivedQuantity i daily)).restarted = t.now
  value : ∀ daily, (t.entry (derivedQuantity i daily)).value =
    max (-32768) (t.remaining i (if daily then .daily else .continuous))

theorem SlotLeft.counter {i : Fin 2} (h : SlotLeft i s t) (k : Track) : (t.slot i).counter k = (s.slot i).counter k := by
  rw [h.slot]
  cases k <;> rfl

theorem SlotSettled.keep {i : Fin 2} (h : SlotSettled i s) (k : SlotLeft i s t) : SlotSettled i t where
  stage l := by rw [k.stage, h.stage, State.stage, State.stage, k.limits, k.counter]
  status daily := by rw [k.entry, h.status]
  restarted daily := by rw [k.entry, h.restarted, k.now]
  value daily := by rw [k.entry, h.value, State.remaining_eq, State.remaining_eq, k.limits, k.counter]

end

/-! ### A write of both derived quantities (R131) -/

theorem derivedQuantity_iff (i : Fin 2) (q : Fin 48) : (q.val = 44 + 2 * i.val ↔ q = derivedQuantity i false) ∧
    (q.val = 45 + 2 * i.val ↔ q = derivedQuantity i true) := by
  simp only [derivedQuantity, Fin.ext_iff, if_true, Bool.false_eq_true, if_false]
  omega

theorem writeDerived_duty (i : Fin 2) (s : State) : SameDuty False s (writeDerived i s) :=
  (writeEntry_duty _ _ s).trans (writeEntry_duty _ _ _)

theorem writeDerived_settles (i : Fin 2) (s : State) : TracksSettle s (writeDerived i s) :=
  (writeEntry_settles _ _ s).trans (writeEntry_settles _ _ _)

theorem writeDerived_entry (i : Fin 2) (s : State) :
    (∀ q, (∀ daily, q ≠ derivedQuantity i daily) → (writeDerived i s).entry q = s.entry q) ∧
    ∀ daily, (writeDerived i s).entry (derivedQuantity i daily) =
      s.derivedEntry i daily (s.entry (derivedQuantity i daily)) := by
  obtain ⟨m, hm⟩ : ∃ m, m = writeRemaining i false s := ⟨_, rfl⟩
  have hfirst : ∀ q, m.entry q =
      if q = derivedQuantity i false then s.derivedEntry i false (s.entry (derivedQuantity i false)) else s.entry q :=
    fun q => hm ▸ writeEntry_entry (derivedQuantity i false) q _ s
  have hsecond : ∀ q, (writeDerived i s).entry q =
      if q = derivedQuantity i true then m.derivedEntry i true (m.entry (derivedQuantity i true)) else m.entry q :=
    fun q => by
      rw [writeDerived, ← hm]
      exact writeEntry_entry (derivedQuantity i true) q _ m
  have hderived : ∀ e, m.derivedEntry i true e = s.derivedEntry i true e := fun e => by
    have hslots : SameSlots s m := hm ▸ (writeEntry_duty _ _ s).slots
    have hcfg : m.cfg = s.cfg := by simp [hm]
    have hnow : m.now = s.now := by simp [hm]
    simp only [State.derivedEntry, State.remaining_eq, State.limits_of hcfg, hslots.counter, hnow]
  refine ⟨fun q hq => by rw [hsecond, if_neg (hq true), hfirst, if_neg (hq false)], fun daily => ?_⟩
  cases daily with
  | false => rw [hsecond, if_neg (by simp [derivedQuantity_inj]), hfirst, if_pos rfl]
  | true => rw [hsecond, if_pos rfl, hderived, hfirst, if_neg (by simp [derivedQuantity_inj])]

theorem writeDerived_left {i j : Fin 2} (h : j ≠ i) (s : State) : SlotLeft j s (writeDerived i s) :=
  .of_duty (writeDerived_duty i s) (by simp)
    (fun daily => (writeDerived_entry i s).1 _ fun d => by simp [derivedQuantity_inj, h]) (by simp)

/-- The two writes settle a slot whose stages are those of its counters. -/
theorem writeDerived_settled {i : Fin 2} {s : State} (h : ∀ k, (s.track i k).stage = s.stage i k) :
    SlotSettled i (writeDerived i s) := by
  obtain ⟨-, -, -, -, -, hrecords⟩ := writeDerived_duty i s
  have hlimits : (writeDerived i s).limits i = s.limits i := State.limits_of (by simp) i
  have hentry := (writeDerived_entry i s).2
  refine ⟨fun k => ?_, fun daily => ?_, fun daily => ?_, fun daily => ?_⟩
  · rw [(hrecords i k).1, h, State.stage_of (writeDerived_slots i s) hlimits]
  · rw [hentry]
    rfl
  · rw [hentry]
    simp [State.derivedEntry]
  · rw [hentry, State.remaining_eq, hlimits, (writeDerived_slots i s).counter]
    rfl

/-! ### The three tracks recomputed (R125) -/

theorem recomputeStages_stage (i j : Fin 2) (k : Track) (s : State) : ((recomputeStages i s).track j k).stage =
    if j = i then s.stage i k else (s.track j k).stage := by
  have hkept (l : Track) (t : State) : (recomputeTrack i l t).stage i = t.stage i :=
    funext fun k => State.stage_of (recomputeTrack_slots i l t) (State.limits_of (by simp) i) k
  simp only [recomputeStages, recomputeTrack_stage, hkept]
  by_cases hj : j = i
  · cases k <;> simp [hj]
  · simp [hj]

theorem recomputeStages_left {i j : Fin 2} (h : j ≠ i) (s : State) : SlotLeft j s (recomputeStages i s) where
  slot := (recomputeStages_slots i s).2 j
  limits := State.limits_of (by simp) j
  stage k := by rw [recomputeStages_stage, if_neg h]
  entry daily := by
    have hqt : (recomputeStages i s).qt = s.qt := by simp
    rw [State.entry, hqt, State.entry]
  now := by simp

/-- A recomputation puts every stage of the slot where its counter is. -/
theorem recomputeStages_own (i : Fin 2) (k : Track) (s : State) :
    ((recomputeStages i s).track i k).stage = (recomputeStages i s).stage i k := by
  rw [recomputeStages_stage, if_pos rfl, State.stage_of (recomputeStages_slots i s) (State.limits_of (by simp) i)]

end Sys2Proof.Machine
end

section
/-! PROOFS. O47: CONFIGURE DUTY, STAGE LIMITS and DUTY ACTIVITY (R113 to R116, R172). -/
namespace Sys2Proof.Machine

/-! ### Requests that are taken in SLEEP too -/

section
variable {r : Request} {tag : Byte} {body : List Byte} {s t : State} {status : Status} {b : List Byte}

theorem Request.take_listening (h : s.listens) (hfits : r.fits body = true) (hsleep : r.inSleep = true)
    (hrun : r.run body (goodFrame s) = ⟨t, status, b⟩) :
    event (r.take tag body) s = .next (beginReply tag r.kind status b t) := by
  rw [r.take_next tag body s h.1 h.2 hfits (Or.inr hsleep), hrun]

/-- The same for an answer that a property describes. -/
theorem answers_listening {c : Instr} {P : State → Prop} (h : s.listens) (hexec : exec c s = event (r.take tag body) s)
    (hfits : r.fits body = true) (hsleep : r.inSleep = true) (hrun : r.run body (goodFrame s) = ⟨t, status, b⟩)
    (hb : b.length ≤ 240) (hP : P (beginReply tag r.kind status b t)) : Answers c s tag r.kind status b P :=
  answers_of c r tag body s status b P hexec h.1 h.2 hfits (Or.inr hsleep) t hrun hb hP

end

/-! ### CONFIGURE DUTY (R113) -/

section
variable {i j : Fin 2} {s : State}

theorem dutyReconfigured_empty (h : (s.slot i).card = none) : dutyReconfigured i s = s := by
  simp [dutyReconfigured, h]

theorem dutyReconfigured_present (h : (s.slot i).card.isSome = true) : dutyReconfigured i s =
    writeDerived i (recomputeStages i (s.setSlot i ((s.slot i).completeBreak (s.limits i)))) := if_pos h

theorem dutyReconfigured_left (h : j ≠ i) (s : State) : SlotLeft j s (dutyReconfigured i s) := by
  unfold dutyReconfigured
  split
  · exact (SlotLeft.setSlot h _ s).trans ((recomputeStages_left h _).trans (writeDerived_left h _))
  · exact .refl j s

/-- A PRESENT slot has its break completed where the new settings complete it, and its stages and derived quantities put
where its counters are. -/
theorem dutyReconfigured_own (h : (s.slot i).card.isSome = true) :
    (dutyReconfigured i s).slot i =
      { (s.slot i).completeBreak (s.limits i) with tracks := ((dutyReconfigured i s).slot i).tracks } ∧
    SlotSettled i (dutyReconfigured i s) := by
  rw [dutyReconfigured_present h]
  refine ⟨?_, writeDerived_settled fun k => recomputeStages_own i k _⟩
  rw [((recomputeStages_slots i _).trans (writeDerived_slots i _)).2 i]
  simp

end

/-- Each slot has its turn in CONFIGURE DUTY, and the rest of it leaves the slot alone. -/
theorem configureDuty_turn (c : DutySettings) (i : Fin 2) (s : State) : ∃ v,
    SlotLeft i (s.setCfg { s.cfg with duty := c }) v ∧ SlotLeft i (dutyReconfigured i v) (configureDuty c s) := by
  obtain rfl | rfl : i = 0 ∨ i = 1 := by omega
  · exact ⟨_, .refl 0 _, dutyReconfigured_left (by decide) _⟩
  · exact ⟨_, dutyReconfigured_left (by decide) _, .refl 1 _⟩

theorem configureDuty_cfg (c : DutySettings) (s : State) : (configureDuty c s).cfg = { s.cfg with duty := c } := by
  simp [configureDuty]

/-- An EMPTY slot is left alone. -/
theorem configureDuty_empty {c : DutySettings} {i : Fin 2} {s : State} (h : (s.slot i).card = none) :
    (configureDuty c s).slot i = { s.slot i with tracks := ((configureDuty c s).slot i).tracks } := by
  obtain ⟨v, hbefore, hafter⟩ := configureDuty_turn c i s
  have hslot := hbefore.slot
  rw [dutyReconfigured_empty (by rw [hslot]; exact h)] at hafter
  rw [hafter.slot, hslot]
  rfl

/-- A PRESENT slot has its break judged by the new limit set, and is settled. -/
theorem configureDuty_present {c : DutySettings} {i : Fin 2} {s : State} (h : (s.slot i).card.isSome = true) :
    (configureDuty c s).slot i =
      { (s.slot i).completeBreak (c.limits.get i) with tracks := ((configureDuty c s).slot i).tracks } ∧
    SlotSettled i (configureDuty c s) := by
  obtain ⟨v, hbefore, hafter⟩ := configureDuty_turn c i s
  have hslot : v.slot i = { s.slot i with tracks := (v.slot i).tracks } := hbefore.slot
  have hlimits : v.limits i = c.limits.get i := hbefore.limits
  obtain ⟨hown, hsettled⟩ := dutyReconfigured_own (i := i) (s := v) (by rw [hslot]; exact h)
  refine ⟨?_, hsettled.keep hafter⟩
  rw [hafter.slot, hown, hlimits, hslot]
  simp only [Slot.completeBreak]
  split <;> rfl

/-- What the answer to CONFIGURE DUTY says of the state it leaves. -/
theorem configureDuty_answers {tag : Byte} {body : List Byte} {c : DutySettings} {s : State} (h : s.configurable)
    (hfits : body.length = 40) (hread : readDutySettings body = some c) :
    Answers (.configureDuty tag body) s tag 0x40#8 .ok [] fun t =>
      t.cfg = { s.cfg with duty := c } ∧ s.sameBut t [.cfg, .lp, .qt, .weu, .dtu, .anu] ∧
      (∀ i, (s.slot i).card = none → t.slot i = { s.slot i with tracks := (t.slot i).tracks }) ∧
      ∀ i, (s.slot i).card.isSome = true →
        t.slot i = { (s.slot i).completeBreak (c.limits.get i) with tracks := (t.slot i).tracks } ∧ SlotSettled i t := by
  refine answers_awake _ configureDutyRequest tag body s h.1 rfl (exactly_length hfits)
    (configuring_accepts _ _ (goodFrame s) c (by simpa using h.2) hread) (by simp) ⟨?_, ?_, fun i hempty => ?_, fun i hcard => ?_⟩
  · simp [configureDuty_cfg]
  · rw [State.sameBut_parts]
    simp
  · simpa using configureDuty_empty (c := c) (s := goodFrame s) (i := i) (by simpa using hempty)
  · obtain ⟨hslot, hsettled⟩ := configureDuty_present (c := c) (s := goodFrame s) (i := i) (by simpa using hcard)
    refine ⟨by simpa using hslot, hsettled.keep ?_⟩
    exact .of_duty (.of_dtu True _ _ (by simp)) (by simp) (by simp) (by simp)

/-! ### DUTY ACTIVITY (R115, R116, R172) -/

/-- The Power State Controller hears of DRIVING alone, and heeds it in PARKING alone. -/
theorem drivingNotice_unheeded {a : Activity} {s : State} (h : a ≠ .driving ∨ s.psc.state ≠ .parking) :
    drivingNotice a s = s := by
  refine if_neg ?_
  rintro ⟨ha, hstate⟩
  exact h.elim (· ha) (· hstate)

theorem drivingNotice_heeded {a : Activity} {s : State} (ha : a = .driving) (hstate : s.psc.state = .parking) :
    drivingNotice a s = returnToRun .driving s := if_pos ⟨ha, hstate⟩

/-- DRIVING given in PARKING returns the part to RUN with the gauges released, and POWER STATE is the report it hands on. -/
theorem drivingNotice_returns {a : Activity} {s : State} (ha : a = .driving) (hstate : s.psc.state = .parking) :
    (drivingNotice a s).psc = { s.psc with state := .run, proof := .stopped } ∧ GaugesReleased s (drivingNotice a s) ∧
    ReportedFirst .powerState 2 0x0603 s (drivingNotice a s) := by
  rw [drivingNotice_heeded ha hstate]
  obtain ⟨hgauges, hpsc, hreported, -⟩ := returnToRun_spec .driving s
  exact ⟨hpsc, hgauges, hreported⟩

theorem drivingNotice_link (a : Activity) (s : State) : LinkGrows s (drivingNotice a s) := by
  unfold drivingNotice
  split
  · obtain ⟨-, -, -, hgrows⟩ := returnToRun_spec .driving s
    exact hgrows
  · exact .of_lp rfl

/-- The release of the gauges is read from the gauges alone. -/
theorem GaugesReleased.congr {s u v t : State} (h : GaugesReleased u v) (hs : u.gdu = s.gdu) (ht : t.gdu = v.gdu) :
    GaugesReleased s t := by
  have hbefore : ∀ g, u.gauge g = s.gauge g := fun g => by simp [State.gauge, hs]
  have hafter : ∀ g, t.gauge g = v.gauge g := fun g => by simp [State.gauge, ht]
  intro g
  rw [hafter, ← hbefore]
  exact h g

/-- The state in which a request's change of a slot is answered: `u` after the change, then the notice of the activity, then
the reply. -/
def noticed (tag kind : Byte) (status : Status) (body : List Byte) (a : Activity) (u : State) : State :=
  beginReply tag kind status body (drivingNotice a u)

section
variable {tag kind : Byte} {status : Status} {body : List Byte} {a : Activity} {s u : State}

theorem noticed_dtu : (noticed tag kind status body a u).dtu = u.dtu := by simp [noticed]

theorem noticed_slot (i : Fin 2) : (noticed tag kind status body a u).slot i = u.slot i := State.slot_of u _ noticed_dtu i

/-- A notice that is not heeded changes nothing. -/
theorem noticed_unheeded (hsame : s.sameBut u [.lp, .dtu]) (h : a ≠ .driving ∨ s.psc.state ≠ .parking) :
    s.sameBut (noticed tag kind status body a u) [.lp, .dtu] := by
  simp only [State.sameBut_parts, List.mem_cons, List.not_mem_nil, reduceCtorEq, or_false, false_or, true_or, or_true,
    true_and] at hsame ⊢
  obtain ⟨hpending, hnow, hpowered, hcoil, hcfg, hqt, hssu, hgdu, hweu, hanu, hpsc, hcs⟩ := hsame
  rw [noticed, drivingNotice_unheeded (hpsc ▸ h)]
  simp [hpending, hnow, hpowered, hcoil, hcfg, hqt, hssu, hgdu, hweu, hanu, hpsc, hcs]

/-- A notice that is heeded returns the part to RUN (R167). -/
theorem noticed_heeded (hsame : s.sameBut u [.lp, .dtu]) (ha : a = .driving) (hstate : s.psc.state = .parking) :
    (noticed tag kind status body a u).psc = { s.psc with state := .run, proof := .stopped } ∧
    GaugesReleased s (noticed tag kind status body a u) ∧
    ReportedFirst .powerState 2 0x0603 u (noticed tag kind status body a u) ∧
    s.sameBut (noticed tag kind status body a u) [.lp, .gdu, .dtu, .psc] := by
  simp only [State.sameBut_parts, List.mem_cons, List.not_mem_nil, reduceCtorEq, or_false, false_or, true_or, or_true,
    true_and] at hsame ⊢
  obtain ⟨hpending, hnow, hpowered, hcoil, hcfg, hqt, hssu, hgdu, hweu, hanu, hpsc, hcs⟩ := hsame
  obtain ⟨hpower, hgauges, hreported⟩ := drivingNotice_returns (s := u) ha (hpsc ▸ hstate)
  refine ⟨by simp [noticed, hpower, hpsc], hgauges.congr hgdu (by simp [noticed]), ?_, ?_⟩
  · intro urgent hroute hroom
    simpa [noticed] using hreported urgent hroute hroom
  · simp [noticed, hpending, hnow, hpowered, hcoil, hcfg, hqt, hssu, hweu, hanu, hcs]

/-- A report of the change stands in the answer. -/
theorem Reported.noticed {k : ReportKind} {n m : Nat} (h : Reported k .stop n m s u) :
    Reported k .stop n m s (noticed tag kind status body a u) :=
  .beginReply (h.widen List.prefix_rfl rfl (by simp) (drivingNotice_link a u).1) tag kind status body

end

theorem readActivity_request {tag : Byte} {body : List Byte} {s t : State} {status : Status} {b : List Byte} (h : s.listens)
    (hfits : body.length = 2) (hrun : dutyActivityRequest.run body (goodFrame s) = ⟨t, status, b⟩) :
    exec (.dutyActivity tag body) s = .next (beginReply tag 0x42#8 status b t) :=
  Request.take_listening (r := dutyActivityRequest) h (exactly_length hfits) rfl hrun

section
variable {body : List Byte} {i : Fin 2} {a : Activity} {s : State}

/-- What DUTY ACTIVITY answers once its fields are read. -/
theorem dutyActivity_run (hread : readActivity body = some (i, a)) : dutyActivityRequest.run body s =
    if (s.slot i).card = none then Answer.refuse s .noCard
    else if s.psc.state = .sleep ∧ a = .driving then Answer.refuse s .asleep
    else storeActivity i a s :=
  reading_accepts _ _ s (i, a) hread

theorem dutyActivity_stores (hread : readActivity body = some (i, a)) (hcard : (s.slot i).card.isSome = true)
    (hawake : a ≠ .driving ∨ s.psc.state ≠ .sleep) : dutyActivityRequest.run body s = storeActivity i a s := by
  rw [dutyActivity_run hread, if_neg (Option.isSome_iff_ne_none.mp hcard), if_neg]
  rintro ⟨hsleep, ha⟩
  exact hawake.elim (· ha) (· hsleep)

theorem storeActivity_fresh (h : (s.slot i).pending = none) :
    storeActivity i a s = ⟨drivingNotice a (s.setSlot i { s.slot i with pending := some a }), .ok, []⟩ := by
  simp only [storeActivity, h, Answer.ok]

theorem storeActivity_supersedes {old : Activity} (h : (s.slot i).pending = some old) : storeActivity i a s =
    ⟨drivingNotice a (hand .dutySuperseded (i.val + 1) (code Activity.list old)
        (s.setSlot i { s.slot i with pending := some a, superseded := true })),
      .superseded, [BitVec.ofNat 8 (code Activity.list old)]⟩ := by
  simp only [storeActivity, h]
  rfl

end

/-- DUTY ACTIVITY that finds no pending activity (R115). -/
theorem dutyActivity_answersOk {tag : Byte} {body : List Byte} {i : Fin 2} {a : Activity} {s : State} (h : s.listens)
    (hfits : body.length = 2) (hread : readActivity body = some (i, a)) (hcard : (s.slot i).card.isSome = true)
    (hawake : a ≠ .driving ∨ s.psc.state ≠ .sleep) (hpending : (s.slot i).pending = none) :
    Answers (.dutyActivity tag body) s tag 0x42#8 .ok [] fun t =>
      t.slot i = { s.slot i with pending := some a } ∧ (∀ j, j ≠ i → t.slot j = s.slot j) ∧
      (a ≠ .driving ∨ s.psc.state ≠ .parking → s.sameBut t [.lp, .dtu]) ∧
      (a = .driving → s.psc.state = .parking → t.psc = { s.psc with state := .run, proof := .stopped } ∧
        GaugesReleased s t ∧ ReportedFirst .powerState 2 0x0603 (goodFrame s) t ∧
        s.sameBut t [.lp, .gdu, .dtu, .psc]) := by
  obtain ⟨u, hu⟩ : ∃ u, u = (goodFrame s).setSlot i { s.slot i with pending := some a } := ⟨_, rfl⟩
  have hrun : dutyActivityRequest.run body (goodFrame s) = ⟨drivingNotice a u, .ok, []⟩ := by
    rw [dutyActivity_stores hread (by simpa using hcard) (by simpa using hawake),
      storeActivity_fresh (by simpa using hpending), hu]
    simp
  have hsame : s.sameBut u [.lp, .dtu] := by
    rw [State.sameBut_parts]
    simp [hu]
  refine answers_listening (r := dutyActivityRequest) h rfl (exactly_length hfits) rfl hrun (by simp) ?_
  show _ ∧ _ ∧ _ ∧ _
  refine ⟨(noticed_slot i).trans (by simp [hu]), fun j hj => (noticed_slot j).trans (by simp [hu, hj]),
    noticed_unheeded hsame, fun ha hstate => ?_⟩
  · obtain ⟨hpsc, hgauges, hreported, hrest⟩ := noticed_heeded (tag := tag) (kind := 0x42#8) (status := .ok) (body := [])
      hsame ha hstate
    refine ⟨hpsc, hgauges, ?_, hrest⟩
    rw [hu] at hreported ⊢
    exact hreported

/-- DUTY ACTIVITY that supersedes a pending activity, with DUTY SUPERSEDED before POWER STATE (R116). -/
theorem dutyActivity_answersSuperseded {tag : Byte} {body : List Byte} {i : Fin 2} {a old : Activity} {s : State}
    (h : s.listens) (hfits : body.length = 2) (hread : readActivity body = some (i, a))
    (hcard : (s.slot i).card.isSome = true) (hawake : a ≠ .driving ∨ s.psc.state ≠ .sleep)
    (hpending : (s.slot i).pending = some old) :
    Answers (.dutyActivity tag body) s tag 0x42#8 .superseded [BitVec.ofNat 8 (code Activity.list old)] fun t =>
      t.slot i = { s.slot i with pending := some a, superseded := true } ∧ (∀ j, j ≠ i → t.slot j = s.slot j) ∧
      Reported .dutySuperseded .stop (i.val + 1) (code Activity.list old) s t ∧
      (a ≠ .driving ∨ s.psc.state ≠ .parking → s.sameBut t [.lp, .dtu]) ∧
      (a = .driving → s.psc.state = .parking → t.psc = { s.psc with state := .run, proof := .stopped } ∧
        GaugesReleased s t ∧ Reported .powerState .stop 2 0x0603 s t ∧ s.sameBut t [.lp, .gdu, .dtu, .psc]) := by
  obtain ⟨v, hv⟩ : ∃ v, v = (goodFrame s).setSlot i { s.slot i with pending := some a, superseded := true } := ⟨_, rfl⟩
  obtain ⟨u, hu⟩ : ∃ u, u = hand .dutySuperseded (i.val + 1) (code Activity.list old) v := ⟨_, rfl⟩
  have hrun : dutyActivityRequest.run body (goodFrame s) =
      ⟨drivingNotice a u, .superseded, [BitVec.ofNat 8 (code Activity.list old)]⟩ := by
    rw [dutyActivity_stores hread (by simpa using hcard) (by simpa using hawake),
      storeActivity_supersedes (old := old) (by simpa using hpending), hu, hv]
    simp
  have hsame : s.sameBut u [.lp, .dtu] := by
    rw [State.sameBut_parts]
    simp [hu, hv]
  have hbefore : s.lp.queue <+: v.lp.queue := by simpa [hv] using goodFrame_queue s
  have hgrows : s.lp.queue <+: u.lp.queue := hbefore.trans (hu ▸ hand_queue _ _ _ v)
  have hsuperseded : Reported .dutySuperseded .stop (i.val + 1) (code Activity.list old) s u :=
    hand_reported _ _ _ s v u hbefore (by simp [hv]) (by simp [hu]) (by rw [hu])
  refine answers_listening (r := dutyActivityRequest) h rfl (exactly_length hfits) rfl hrun (by simp) ?_
  show _ ∧ _ ∧ _ ∧ _ ∧ _
  refine ⟨(noticed_slot i).trans (by simp [hu, hv]), fun j hj => (noticed_slot j).trans (by simp [hu, hv, hj]),
    hsuperseded.noticed, noticed_unheeded hsame, fun ha hstate => ?_⟩
  · obtain ⟨hpsc, hgauges, hreported, hrest⟩ := noticed_heeded (tag := tag) (kind := 0x42#8) (status := .superseded)
      (body := [BitVec.ofNat 8 (code Activity.list old)]) hsame ha hstate
    refine ⟨hpsc, hgauges, ?_, hrest⟩
    have hafter : u.lp.queue <+: (noticed tag 0x42#8 .superseded [BitVec.ofNat 8 (code Activity.list old)] a u).lp.queue := by
      simpa [noticed] using (drivingNotice_link a u).1
    exact (hreported.reported (by rw [noticed_dtu]) hafter).widen hgrows (by simp [hu, hv]) rfl List.prefix_rfl

/-- What STAGE LIMITS answers once its fields are read (R114). -/
theorem stageLimits_run {body : List Byte} {i : Fin 2} {l : LimitSet} {s : State} (hread : readStagedLimits body = some (i, l)) :
    stageLimitsRequest.run body s = Answer.ok (s.setSlot i { s.slot i with staged := some l }) :=
  reading_accepts _ _ s (i, l) hread

/-- Settles O47, request by request. -/
theorem dutySettingsAndActivityRequests : Obligations.DutySettingsAndActivityRequests := by
  refine ⟨fun tag body s h hfits => ⟨fun hread => ?_, fun c hread => ?_⟩,
    fun tag body s h hfits => ⟨fun hread => ?_, fun i l hread => ?_⟩,
    fun tag body s h hfits => ⟨fun hread => ?_, fun i a hread => ⟨fun hcard => ?_, fun hcard ha hsleep => ?_,
      fun hcard hawake => ⟨fun hpending => ?_, fun old hpending => ?_⟩⟩⟩⟩
  · exact configuring_answersRange (r := configureDutyRequest) h rfl (exactly_length hfits) rfl hread
  · obtain ⟨t, hexec, hreply, hcfg, hsame, hempty, hpresent⟩ := configureDuty_answers (tag := tag) h hfits hread
    refine ⟨t, hexec, hreply, hcfg, hsame, hempty, fun i hcard => ?_⟩
    obtain ⟨hslot, hsettled⟩ := hpresent i hcard
    obtain ⟨hopen, hdone⟩ := Slot.completeBreak_cases (c.limits.get i) (s.slot i)
    refine ⟨fun hcredit => ?_, fun hcredit => ?_, fun k => ?_, fun q hq => ?_⟩
    · rwa [hopen hcredit] at hslot
    · rwa [hdone hcredit] at hslot
    · rw [hsettled.stage, State.stage, State.limits, hcfg]
    · rcases hq with hq | hq
      · rw [(derivedQuantity_iff i q).1.mp hq, hsettled.status]
      · rw [(derivedQuantity_iff i q).2.mp hq, hsettled.status]
  · exact Request.take_awake stageLimitsRequest tag body s h (exactly_length hfits) (reading_range _ _ hread)
  · exact Request.take_awake stageLimitsRequest tag body s h (exactly_length hfits)
      ((stageLimits_run hread).trans (by simp [Answer.ok]))
  · exact readActivity_request h hfits (reading_range _ _ hread)
  · refine readActivity_request h hfits ((dutyActivity_run hread).trans ?_)
    rw [if_pos (by simpa using hcard)]
    rfl
  · refine readActivity_request h hfits ((dutyActivity_run hread).trans ?_)
    rw [if_neg (by simpa using Option.isSome_iff_ne_none.mp hcard), if_pos ⟨by simpa using hsleep, ha⟩]
    rfl
  · exact dutyActivity_answersOk h hfits hread hcard hawake hpending
  · exact dutyActivity_answersSuperseded h hfits hread hcard hawake hpending

end Sys2Proof.Machine
end

section
/-! PROOFS. O46: MINUTE_EXPIRY (R108, R109, R130, R131). What the accounting of one slot does to it, what it leaves of the
other slot, and the mismatch check of slot 1; then both slots in either order. -/
namespace Sys2Proof.Machine

/-! ### The mismatch check (R130) -/

/-- The minute's due time, the mismatch count and DUTY MISMATCH are as they were. -/
structure SameTally (s t : State) : Prop where
  due : t.dtu.minuteDue = s.dtu.minuteDue
  count : t.dtu.mismatchCount = s.dtu.mismatchCount
  mismatch : t.dtu.mismatch = s.dtu.mismatch

section
variable {s t u : State}

theorem SameTally.trans (h : SameTally s t) (k : SameTally t u) : SameTally s u :=
  ⟨k.due.trans h.due, k.count.trans h.count, k.mismatch.trans h.mismatch⟩

theorem SameTally.refl (s : State) : SameTally s s := ⟨rfl, rfl, rfl⟩

theorem SameTally.of_dtu (h : t.dtu = s.dtu) : SameTally s t := by
  constructor <;> rw [h]

theorem SameDuty.tally {acks : Prop} (h : SameDuty acks s t) : SameTally s t := by
  obtain ⟨-, hdue, hcount, hmismatch, -⟩ := h
  exact ⟨hdue, hcount, hmismatch⟩

end

theorem handStage_dtu (i : Fin 2) (k : Track) (old new : Stage) (s : State) : (handStage i k old new s).dtu = s.dtu := by
  simp

theorem recomputeTrack_tally (i : Fin 2) (k : Track) (s : State) : SameTally s (recomputeTrack i k s) := by
  have hset : ∀ stage acknowledged, SameTally s ((withdrawTrack i k s).setStage i k stage acknowledged) :=
    fun _ _ => (withdrawTrack_duty True i k s).tally.trans ⟨rfl, rfl, rfl⟩
  unfold recomputeTrack
  dsimp only
  split
  · exact .refl s
  · split
    · exact ((hset (s.stage i k) false).trans (offerTrack_duty True i k _).tally).trans (.of_dtu (handStage_dtu i k _ _ _))
    · exact (hset (s.stage i k) (decide (s.stage i k ≠ .normal))).trans (.of_dtu (handStage_dtu i k _ _ _))

theorem recomputeStages_tally (i : Fin 2) (s : State) : SameTally s (recomputeStages i s) :=
  (recomputeTrack_tally i _ s).trans ((recomputeTrack_tally i _ _).trans (recomputeTrack_tally i _ _))

theorem dayStart_tally (i : Fin 2) (s : State) : SameTally s (dayStart i s) := by
  unfold dayStart loadStaged
  dsimp only
  (repeat' split) <;> constructor <;> simp

theorem weekStart_tally (i : Fin 2) (s : State) : SameTally s (weekStart i s) := by
  unfold weekStart
  dsimp only
  split <;> constructor <;> simp

theorem State.disagrees_iff (s : State) : s.disagrees = true ↔ (s.slot 0).activity ≠ .driving ∧
    (s.entry s.cfg.duty.speed).status = .valid ∧ (s.cfg.duty.threshold : Int) < (s.entry s.cfg.duty.speed).value := by
  rw [State.disagrees, Bool.and_eq_true, decide_eq_true_eq, State.validValue]
  refine and_congr_right fun _ => ?_
  by_cases hvalid : (s.qt.entries.get s.cfg.duty.speed).status = .valid
  · simp [hvalid, State.entry]
  · simp [hvalid, State.entry]

theorem mismatchCheck_slot (i : Fin 2) (s : State) : (mismatchCheck s).slot i = s.slot i := by
  simp only [mismatchCheck]
  (repeat' split) <;> simp [State.slot]

theorem mismatchCheck_due (s : State) : (mismatchCheck s).dtu.minuteDue = s.dtu.minuteDue := by
  simp only [mismatchCheck]
  (repeat' split) <;> simp

/-- A minute that agrees ends the run and DUTY MISMATCH. -/
theorem mismatchCheck_agrees {s : State} (h : ¬ s.disagrees = true) :
    (mismatchCheck s).dtu.mismatchCount = 0 ∧ (mismatchCheck s).dtu.mismatch = false := by
  rw [mismatchCheck, if_neg h]
  exact ⟨rfl, rfl⟩

/-- A minute that disagrees counts, up to the minutes that begin DUTY MISMATCH. -/
theorem mismatchCheck_disagrees {s : State} (h : s.disagrees = true) :
    (mismatchCheck s).dtu.mismatchCount = min s.cfg.duty.mismatchMinutes (s.dtu.mismatchCount + 1) ∧
    ((mismatchCheck s).dtu.mismatch = true ↔
      s.dtu.mismatch = true ∨ s.cfg.duty.mismatchMinutes ≤ s.dtu.mismatchCount + 1) ∧
    (s.dtu.mismatch = false → (mismatchCheck s).dtu.mismatch = true →
      Reported .dutyMismatch .stop 1 (code Activity.list (s.slot 0).activity) s (mismatchCheck s)) := by
  simp only [mismatchCheck, if_pos h]
  split
  · next hbegins =>
    refine ⟨by simp, ?_, fun _ _ => ?_⟩
    · simp only [hand_frame, State.setDtu_dtu, hbegins.2, Bool.false_eq_true, false_or, true_iff]
      omega
    · exact hand_reported _ _ _ s ((s.setDtu _).setDtu _) _ (by simp) (by simp) (by simp) List.prefix_rfl
  · next hnot =>
    refine ⟨by simp, ?_, fun hfalse htrue => ?_⟩
    · cases hmismatch : s.dtu.mismatch with
      | true => simp
      | false =>
        simp only [hmismatch, and_true] at hnot
        simp only [State.setDtu_dtu, Bool.false_eq_true, false_or, false_iff]
        omega
    · simp [hfalse] at htrue

/-! ### The accounting of one slot -/

/-- Steps 1 to 7 of a slot's accounting. -/
def recounted (i : Fin 2) (s : State) : State :=
  recomputeStages i (weekStart i (dayStart i (s.setSlot i ((s.slot i).minute (s.limits i)))))

section
variable {i j : Fin 2} {s t u v : State}

theorem account_present (h : (s.slot i).card.isSome = true) :
    account i s = writeDerived i (if i = 0 then mismatchCheck (recounted i s) else recounted i s) := if_pos h

theorem account_empty (h : (s.slot i).card = none) : account i s = s := by
  simp [account, h]

theorem account_clock (i : Fin 2) (s : State) : (account i s).dtu.clock = s.dtu.clock :=
  (account_other i (i + 1) s (by revert i; decide)).1

/-- The limit sets alone of the configuration can change. -/
theorem account_cfg (i : Fin 2) (s : State) :
    ∃ limits, (account i s).cfg = { s.cfg with duty := { s.cfg.duty with limits := limits } } := by
  have hday : ∀ t : State, ∃ limits, (dayStart i t).cfg = { t.cfg with duty := { t.cfg.duty with limits := limits } } := by
    intro t
    unfold dayStart loadStaged
    dsimp only
    (repeat' split)
    · exact ⟨t.cfg.duty.limits, by simp⟩
    · next l _ => exact ⟨t.cfg.duty.limits.set i l, by simp⟩
    · exact ⟨t.cfg.duty.limits, rfl⟩
  unfold account
  split
  · obtain ⟨limits, hcfg⟩ := hday (s.setSlot i ((s.slot i).minute (s.limits i)))
    refine ⟨limits, ?_⟩
    split <;> simp [hcfg]
  · exact ⟨s.cfg.duty.limits, rfl⟩

theorem recounted_tally (i : Fin 2) (s : State) : SameTally s (recounted i s) :=
  SameTally.trans (t := s.setSlot i ((s.slot i).minute (s.limits i))) ⟨rfl, rfl, rfl⟩
    ((dayStart_tally i _).trans ((weekStart_tally i _).trans (recomputeStages_tally i _)))

theorem account_due (i : Fin 2) (s : State) : (account i s).dtu.minuteDue = s.dtu.minuteDue := by
  by_cases hcard : (s.slot i).card.isSome = true
  · rw [account_present hcard, (writeDerived_duty i _).tally.due]
    split
    · rw [mismatchCheck_due, (recounted_tally i s).due]
    · exact (recounted_tally i s).due
  · rw [account, if_neg hcard]

/-- Slot 2 has no part in the mismatch. -/
theorem account_tally (h : i ≠ 0) (s : State) : SameTally s (account i s) := by
  by_cases hcard : (s.slot i).card.isSome = true
  · rw [account_present hcard, if_neg h]
    exact (recounted_tally i s).trans (writeDerived_duty i _).tally
  · rw [account, if_neg hcard]
    exact .refl s

/-- The accounting of a slot writes its own derived quantities alone. -/
theorem account_entry {q : Fin 48} (h : ∀ daily, q ≠ derivedQuantity i daily) (s : State) :
    (account i s).entry q = s.entry q := by
  by_cases hcard : (s.slot i).card.isSome = true
  · rw [account_present hcard, (writeDerived_entry i _).1 q h]
    have hqt : (recounted i s).qt = s.qt := by simp [recounted]
    split <;> simp [State.entry, hqt]
  · rw [account, if_neg hcard]

/-- A change that leaves a slot as it is, its limit set and every quantity. -/
theorem SlotLeft.of_slot (hslot : t.slot j = s.slot j) (hlimits : t.limits j = s.limits j) (hqt : t.qt = s.qt)
    (hnow : t.now = s.now) : SlotLeft j s t where
  slot := by rw [hslot]
  limits := hlimits
  stage k := by rw [State.track, hslot, State.track]
  entry daily := by rw [State.entry, hqt, State.entry]
  now := hnow

theorem account_left (h : j ≠ i) (s : State) : SlotLeft j s (account i s) := by
  by_cases hcard : (s.slot i).card.isSome = true
  · rw [account_present hcard]
    have hday (t : State) : SlotLeft j t (dayStart i t) := by
      obtain ⟨hslot, hlimits⟩ := (dayStart_slots i t).2.1 j h
      exact .of_slot hslot hlimits (by simp) (by simp)
    have hweek (t : State) : SlotLeft j t (weekStart i t) :=
      .of_slot ((weekStart_slots i t).2.1 j h) (weekStart_limits i j t) (by simp) (by simp)
    have hcheck (t : State) : SlotLeft j t (mismatchCheck t) :=
      .of_slot (mismatchCheck_slot j t) (State.limits_of (by simp) j) (by simp) (by simp)
    have hrecounted : SlotLeft j s (recounted i s) := (SlotLeft.setSlot h _ s).trans
      ((hday _).trans ((hweek _).trans (recomputeStages_left h _)))
    refine SlotLeft.trans ?_ (writeDerived_left h _)
    split
    · exact hrecounted.trans (hcheck _)
    · exact hrecounted
  · rw [account, if_neg hcard]
    exact .refl j s

/-- The accounting of a PRESENT slot settles its stages and its derived quantities. -/
theorem account_settled (h : (s.slot i).card.isSome = true) : SlotSettled i (account i s) := by
  rw [account_present h]
  refine writeDerived_settled fun k => ?_
  split
  · rw [State.track, mismatchCheck_slot, State.stage_of (mismatchCheck_slots _) (State.limits_of (by simp) i)]
    exact recomputeStages_own i k _
  · exact recomputeStages_own i k _

theorem account_limits {x : Slot} (h : (s.slot i).card.isSome = true) (hx : x = (s.slot i).minute (s.limits i)) :
    (account i s).limits i = (dayStart i (s.setSlot i x)).limits i := by
  rw [account, if_pos h, ← hx]
  dsimp only
  rw [State.limits_of (accountEnd_keeps i _).2.2, weekStart_limits]

/-- What the accounting of slot 1 makes of the mismatch, with the quantities as they stand (R130). -/
theorem account_mismatch {e : Quantity} (h : (s.slot 0).card.isSome = true) (he : e = s.entry s.cfg.duty.speed) :
    (((account 0 s).slot 0).activity ≠ .driving → e.status = .valid → (s.cfg.duty.threshold : Int) < e.value →
      (account 0 s).dtu.mismatchCount = min s.cfg.duty.mismatchMinutes (s.dtu.mismatchCount + 1) ∧
      ((account 0 s).dtu.mismatch = true ↔
        s.dtu.mismatch = true ∨ s.cfg.duty.mismatchMinutes ≤ s.dtu.mismatchCount + 1) ∧
      (s.dtu.mismatch = false → (account 0 s).dtu.mismatch = true →
        Reported .dutyMismatch .stop 1 (code Activity.list ((account 0 s).slot 0).activity) s (account 0 s))) ∧
    (((account 0 s).slot 0).activity = .driving ∨ e.status ≠ .valid ∨ e.value ≤ (s.cfg.duty.threshold : Int) →
      (account 0 s).dtu.mismatchCount = 0 ∧ (account 0 s).dtu.mismatch = false) := by
  obtain ⟨m, hm⟩ : ∃ m, m = recounted 0 s := ⟨_, rfl⟩
  have hwrite : account 0 s = writeDerived 0 (mismatchCheck m) := by rw [account_present h, if_pos rfl, hm]
  obtain ⟨hclock, -, hcount, hmismatch, hslot, -⟩ := writeDerived_duty 0 (mismatchCheck m)
  have hactivity : ((account 0 s).slot 0).activity = (m.slot 0).activity := by
    rw [hwrite, hslot 0, mismatchCheck_slot]
  obtain ⟨-, hcountBefore, hmismatchBefore⟩ := hm ▸ recounted_tally 0 s
  obtain ⟨limits, hcfg⟩ := account_cfg 0 s
  have hcfg : m.cfg = { s.cfg with duty := { s.cfg.duty with limits := limits } } := by
    rw [← hcfg, hwrite]
    simp
  have hentry : m.entry s.cfg.duty.speed = e := by
    have hqt : m.qt = s.qt := by simp [hm, recounted]
    simp [State.entry, hqt, he]
  have hdisagrees := m.disagrees_iff
  simp only [hcfg, hentry] at hdisagrees
  rw [hactivity, hwrite, hcount, hmismatch]
  refine ⟨fun hactive hvalid habove => ?_, fun hagrees => mismatchCheck_agrees ?_⟩
  · obtain ⟨hnew, hiff, hreported⟩ := mismatchCheck_disagrees (hdisagrees.mpr ⟨hactive, hvalid, habove⟩)
    simp only [hcfg, hcountBefore, hmismatchBefore] at hnew hiff hreported
    refine ⟨hnew, hiff, fun hfalse htrue => ?_⟩
    have hgrows : LinkGrows s m := hm ▸ LinkGrows.trans (.of_lp (by simp)) ((dayStart_link 0 (s.setSlot 0 _)).trans
      ((weekStart_link 0 _).trans (recomputeStages_link 0 _)))
    exact (hreported hfalse htrue).widen hgrows.1 (by rw [hcfg]) hclock (writeDerived_link 0 _).1
  · rw [hdisagrees]
    rintro ⟨hactive, hvalid, habove⟩
    rcases hagrees with hdriving | hinvalid | hbelow
    · exact hactive hdriving
    · exact hinvalid hvalid
    · omega

/-! ### The accounting of the other slot -/

/-- What the accounting of the other slot, or nothing, leaves to a slot. -/
structure OtherAccounted (i : Fin 2) (s t : State) : Prop where
  left : SlotLeft i s t
  link : LinkGrows s t
  clock : t.dtu.clock = s.dtu.clock
  cfg : ∃ limits, t.cfg = { s.cfg with duty := { s.cfg.duty with limits := limits } }
  tally : i = 0 → SameTally s t

theorem OtherAccounted.refl (i : Fin 2) (s : State) : OtherAccounted i s s :=
  ⟨.refl i s, .of_lp rfl, rfl, ⟨s.cfg.duty.limits, rfl⟩, fun _ => .refl s⟩

theorem account_otherAccounted (h : j ≠ i) (s : State) : OtherAccounted j s (account i s) where
  left := account_left h s
  link := account_link i s
  clock := account_clock i s
  cfg := account_cfg i s
  tally hj := account_tally (fun hi => h (hj.trans hi.symm)) s

/-- A report of a slot's own accounting stands after both accountings. -/
theorem OtherAccounted.reported {k : ReportKind} {n m : Nat} (hbefore : OtherAccounted i s v)
    (hafter : OtherAccounted i u t) (h : Reported k .stop n m v u) : Reported k .stop n m s t := by
  obtain ⟨limits, hcfg⟩ := hbefore.cfg
  exact h.widen hbefore.link.1 (by rw [hcfg]) hafter.clock hafter.link.1

/-- The state as the duty clock has gained its minute and the minute's timer is set again (R108). -/
def minuteBegun (due : Nat) (s : State) : State :=
  s.setDtu { s.dtu with clock := gain 4294967295 s.dtu.clock, minuteDue := due + Config.minutes 1 }

/-- Each slot has its turn, and the accounting of the other slot comes before it or after it. Slot 1 reads the quantities as
the accounting of slot 2 has left them, when that comes first. -/
theorem minuteExpired_turn (due : Nat) (slot2First : Bool) (i : Fin 2) (s : State) :
    ∃ v, OtherAccounted i (minuteBegun due s) v ∧ OtherAccounted i (account i v) (minuteExpired due slot2First s) ∧
      (i = 0 → ∀ q : Fin 48, v.entry q =
        if slot2First = true ∧ 46 ≤ q.val then (minuteExpired due slot2First s).entry q else s.entry q) := by
  have hof0 : ∀ q : Fin 48, 46 ≤ q.val → ∀ daily, q ≠ derivedQuantity 0 daily := by decide
  have hof1 : ∀ q : Fin 48, ¬ 46 ≤ q.val → ∀ daily, q ≠ derivedQuantity 1 daily := by decide
  cases slot2First with
  | true =>
    have hrun : minuteExpired due true s = account 0 (account 1 (minuteBegun due s)) := rfl
    rw [hrun]
    obtain rfl | rfl : i = 0 ∨ i = 1 := by omega
    · refine ⟨_, account_otherAccounted (by decide) _, .refl 0 _, fun _ q => ?_⟩
      split
      · next hq => rw [account_entry (i := 0) (hof0 q hq.2)]
      · next hq => exact account_entry (i := 1) (hof1 q (by simpa using hq)) _
    · exact ⟨_, .refl 1 _, account_otherAccounted (by decide) _, nofun⟩
  | false =>
    have hrun : minuteExpired due false s = account 1 (account 0 (minuteBegun due s)) := rfl
    rw [hrun]
    obtain rfl | rfl : i = 0 ∨ i = 1 := by omega
    · exact ⟨_, .refl 0 _, account_otherAccounted (by decide) _, fun _ q => by simp [minuteBegun, State.entry]⟩
    · exact ⟨_, account_otherAccounted (by decide) _, .refl 1 _, nofun⟩

/-- An EMPTY slot is left alone. -/
theorem accounted_empty (hbefore : OtherAccounted i s v) (hafter : OtherAccounted i (account i v) t)
    (h : (s.slot i).card = none) : account i v = v ∧
      t.slot i = { s.slot i with tracks := (t.slot i).tracks } ∧ t.limits i = s.limits i := by
  have hsame : account i v = v := account_empty (by rw [hbefore.left.slot]; exact h)
  refine ⟨hsame, ?_, ?_⟩
  · rw [hafter.left.slot, hsame, hbefore.left.slot]
  · rw [hafter.left.limits, hsame, hbefore.left.limits]

/-- What the two accountings make of a PRESENT slot, where step 5 has made `y` and `l` of it and of its limit set. -/
theorem accounted_present {x y : Slot} {l : LimitSet} (hbefore : OtherAccounted i s v)
    (hafter : OtherAccounted i (account i v) t) (hcard : (s.slot i).card.isSome = true)
    (hx : x = (s.slot i).minute (s.limits i))
    (hkept : x.restRun < (s.limits i).dailyRest ∨ x.dayClosed = true → y = x ∧ l = s.limits i)
    (hmade : (s.limits i).dailyRest ≤ x.restRun → x.dayClosed = false → l = x.staged.getD (s.limits i) ∧
      y = { x with
        daily := 0, continuous := 0, credit := 0, totals := ⟨0, 0, 0, 0, 0⟩, dayBase := 0, dayStart := t.dtu.clock
        dayClosed := true, staged := none }) :
    t.limits i = l ∧
    (x.restRun < l.weeklyRest ∨ x.weekClosed = true → t.slot i = { y with tracks := (t.slot i).tracks }) ∧
    (l.weeklyRest ≤ x.restRun → x.weekClosed = false →
      t.slot i = { y with weekly := 0, weekClosed := true, tracks := (t.slot i).tracks } ∧
      Reported .dutyWeekStart .stop (i.val + 1) x.weekly s t) ∧
    ((s.limits i).dailyRest ≤ x.restRun → x.dayClosed = false →
      (1 ≤ (s.limits i).dailyRest → Reported .dutyDayStart .stop (i.val + 1) (s.slot i).daily s t) ∧
      (x.staged ≠ none → Reported .dutyLimitsLoaded .stop (i.val + 1) 0 s t)) := by
  obtain ⟨tracks, hslot⟩ : ∃ tracks, v.slot i = { s.slot i with tracks := tracks } := ⟨_, hbefore.left.slot⟩
  have hlimits : v.limits i = s.limits i := hbefore.left.limits
  have hcardThere : (v.slot i).card.isSome = true := by rw [hslot]; exact hcard
  have hxThere : { x with tracks := tracks } = (v.slot i).minute (v.limits i) := by
    rw [hslot, hlimits, minute_tracks, hx]
  have hclock : t.dtu.clock = v.dtu.clock := hafter.clock.trans (account_clock i v)
  obtain ⟨-, hown, hmadeSlot⟩ := account_own i v { x with tracks := tracks } { y with tracks := tracks } l hcardThere hxThere
    (fun h => by
      obtain ⟨rfl, rfl⟩ := hkept (hlimits ▸ h)
      exact ⟨rfl, hlimits.symm⟩)
    (fun hrun hclosed => by
      obtain ⟨rfl, rfl⟩ := hmade (hlimits ▸ hrun) hclosed
      exact ⟨by rw [hlimits], by rw [hclock]⟩)
  obtain ⟨hday, hweek⟩ := account_reports i v { x with tracks := tracks } hcardThere hxThere
  rw [← account_limits hcardThere hxThere, hown] at hweek
  have hslotAfter := hafter.left.slot
  rw [hmadeSlot] at hslotAfter
  refine ⟨hafter.left.limits.trans hown, fun hrests => ?_, fun hrun hclosed => ⟨?_, ?_⟩, fun hrun hclosed => ?_⟩
  · rw [hslotAfter, if_neg]
    rintro ⟨hrun, hclosed⟩
    rcases hrests with h | h
    · exact absurd hrun (by simpa using h)
    · simp [h] at hclosed
  · rw [hslotAfter, if_pos ⟨hrun, hclosed⟩]
  · exact hbefore.reported hafter (hweek hrun hclosed)
  · obtain ⟨hstarted, hloaded⟩ := hday (by rw [hlimits]; exact hrun) hclosed
    refine ⟨fun hrest => ?_, fun hstaged => hbefore.reported hafter (hloaded hstaged)⟩
    have hdaily : x.daily = (s.slot i).daily := by
      rw [hx] at hrun ⊢
      exact minute_rest _ _ (hrest.trans hrun)
    rw [← hdaily]
    exact hbefore.reported hafter hstarted

end

/-! ### The minute -/

theorem exec_minuteExpiry {s : State} (slot2First : Bool) (h : s.powered = true) : exec (.minuteExpiry slot2First) s =
    .next (minuteExpired s.dtu.minuteDue slot2First (s.reach s.dtu.minuteDue)) := by
  show event (fun t => minuteExpired t.dtu.minuteDue slot2First (t.reach t.dtu.minuteDue)) s = _
  rw [event_powered _ s h]

theorem minuteExpired_clock (due : Nat) (slot2First : Bool) (s : State) :
    (minuteExpired due slot2First s).dtu.clock = min 4294967295 (s.dtu.clock + 1) ∧
    (minuteExpired due slot2First s).dtu.minuteDue = due + 60000000 := by
  cases slot2First
  · exact ⟨(account_clock 1 _).trans (account_clock 0 _), (account_due 1 _).trans (account_due 0 _)⟩
  · exact ⟨(account_clock 0 _).trans (account_clock 1 _), (account_due 0 _).trans (account_due 1 _)⟩

theorem minuteExpired_entry (due : Nat) (slot2First : Bool) (s : State) (q : Fin 48) (h : q.val < 44) :
    (minuteExpired due slot2First s).entry q = s.entry q := by
  have hq : ∀ i daily, q ≠ derivedQuantity i daily := by
    rintro i daily rfl
    simp only [derivedQuantity] at h
    omega
  cases slot2First
  · exact (account_entry (hq 1) _).trans (account_entry (hq 0) _)
  · exact (account_entry (hq 0) _).trans (account_entry (hq 1) _)

/-- The mismatch after the minute, of a PRESENT slot 1 (R130). -/
theorem accounted_mismatch {s v t : State} {e : Quantity} (hbefore : OtherAccounted 0 s v)
    (hafter : OtherAccounted 0 (account 0 v) t) (hcard : (s.slot 0).card.isSome = true)
    (he : e = v.entry s.cfg.duty.speed) :
    ((t.slot 0).activity ≠ .driving → e.status = .valid → (s.cfg.duty.threshold : Int) < e.value →
      t.dtu.mismatchCount = min s.cfg.duty.mismatchMinutes (s.dtu.mismatchCount + 1) ∧
      (t.dtu.mismatch = true ↔ s.dtu.mismatch = true ∨ s.cfg.duty.mismatchMinutes ≤ s.dtu.mismatchCount + 1) ∧
      (s.dtu.mismatch = false → t.dtu.mismatch = true →
        Reported .dutyMismatch .stop 1 (code Activity.list (t.slot 0).activity) s t)) ∧
    ((t.slot 0).activity = .driving ∨ e.status ≠ .valid ∨ e.value ≤ (s.cfg.duty.threshold : Int) →
      t.dtu.mismatchCount = 0 ∧ t.dtu.mismatch = false) := by
  obtain ⟨limits, hcfg⟩ := hbefore.cfg
  have hactivity : (t.slot 0).activity = ((account 0 v).slot 0).activity := by rw [hafter.left.slot]
  obtain ⟨hcounts, hclears⟩ := account_mismatch (s := v) (e := e) (by rw [hbefore.left.slot]; exact hcard) (by rw [hcfg, he])
  rw [hcfg, (hbefore.tally rfl).count, (hbefore.tally rfl).mismatch] at hcounts
  rw [hcfg] at hclears
  rw [hactivity, (hafter.tally rfl).count, (hafter.tally rfl).mismatch]
  refine ⟨fun hactive hvalid habove => ?_, hclears⟩
  obtain ⟨hcount, hmismatch, hreported⟩ := hcounts hactive hvalid habove
  exact ⟨hcount, hmismatch, fun hfalse htrue => hbefore.reported hafter (hreported hfalse htrue)⟩

/-- Settles O46, slot by slot. -/
theorem minuteExpiryAccountsThePresentSlots : Obligations.MinuteExpiryAccountsThePresentSlots := by
  intro slot2First s hpowered
  obtain ⟨r, hr⟩ : ∃ r, r = s.reach s.dtu.minuteDue := ⟨_, rfl⟩
  obtain ⟨t, ht⟩ : ∃ t, t = minuteExpired s.dtu.minuteDue slot2First r := ⟨_, rfl⟩
  obtain ⟨b, hb⟩ : ∃ b, b = minuteBegun s.dtu.minuteDue r := ⟨_, rfl⟩
  have hbegun : (∀ i, b.slot i = s.slot i) ∧ (∀ i, b.limits i = s.limits i) ∧ b.cfg = s.cfg ∧ b.lp = s.lp ∧
      b.dtu.mismatchCount = s.dtu.mismatchCount ∧ b.dtu.mismatch = s.dtu.mismatch := by
    subst hb hr
    exact ⟨fun _ => rfl, fun _ => rfl, rfl, rfl, rfl, rfl⟩
  obtain ⟨hslots, hlimits, hcfg, hlp, hcount, hmismatch⟩ := hbegun
  have hreported {k : ReportKind} {n m : Nat} (h : Reported k .stop n m b t) : Reported k .stop n m s t :=
    h.widen (by rw [hlp]) (by rw [hcfg]) rfl List.prefix_rfl
  have hturn := fun i => minuteExpired_turn s.dtu.minuteDue slot2First i r
  rw [← ht, ← hb] at hturn
  obtain ⟨hclock, hdue⟩ := minuteExpired_clock s.dtu.minuteDue slot2First r
  refine ⟨t, by rw [ht, hr]; exact exec_minuteExpiry slot2First hpowered, ?_, ?_, ?_, ?_, fun q hq => ?_, fun i hcard => ?_,
    fun i x y l hcard hx hkept hmade => ?_, fun i hcard => ?_, fun hcard => ?_, fun e hcard he => ?_⟩
  · simp [ht, hr, State.reach]
  · rw [ht, hdue]
  · rw [ht, hclock, hr]
    rfl
  · rw [State.sameBut_parts]
    simp [ht, hr]
  · rw [ht, minuteExpired_entry _ _ _ _ hq, hr]
    rfl
  · obtain ⟨v, hbefore, hafter, -⟩ := hturn i
    obtain ⟨-, hslot, hlimit⟩ := accounted_empty hbefore hafter (by rw [hslots]; exact hcard)
    rw [hslots] at hslot
    rw [hlimits] at hlimit
    exact ⟨hslot, hlimit⟩
  · obtain ⟨v, hbefore, hafter, -⟩ := hturn i
    rw [← hslots, ← hlimits] at hx
    rw [← hlimits] at hkept hmade
    obtain ⟨hloaded, hopen, hweek, hday⟩ := accounted_present hbefore hafter (by rw [hslots]; exact hcard) hx hkept hmade
    rw [hlimits, hslots] at hday
    refine ⟨hloaded, hopen, fun hrun hclosed => ?_, fun hrun hclosed => ?_⟩
    · exact ⟨(hweek hrun hclosed).1, hreported (hweek hrun hclosed).2⟩
    · obtain ⟨hstarted, hstaged⟩ := hday hrun hclosed
      exact ⟨fun h => hreported (hstarted h), fun h => hreported (hstaged h)⟩
  · obtain ⟨v, hbefore, hafter, -⟩ := hturn i
    have hsettled := (account_settled (by rw [hbefore.left.slot, hslots]; exact hcard)).keep hafter.left
    refine ⟨hsettled.stage, fun q => ⟨fun hq => ?_, fun hq => ?_⟩⟩
    · rw [(derivedQuantity_iff i q).1.mp hq]
      exact ⟨hsettled.status _, hsettled.restarted _, hsettled.value _⟩
    · rw [(derivedQuantity_iff i q).2.mp hq]
      exact ⟨hsettled.status _, hsettled.restarted _, hsettled.value _⟩
  · obtain ⟨v, hbefore, hafter, -⟩ := hturn 0
    obtain ⟨hsame, -⟩ := accounted_empty hbefore hafter (by rw [hslots]; exact hcard)
    rw [hsame] at hafter
    have htally := (hbefore.tally rfl).trans (hafter.tally rfl)
    exact ⟨htally.count.trans hcount, htally.mismatch.trans hmismatch⟩
  · obtain ⟨v, hbefore, hafter, hentry⟩ := hturn 0
    have hspeed : e = v.entry b.cfg.duty.speed := by
      rw [hentry rfl, hcfg, he, hr]
      rfl
    have hresult := accounted_mismatch hbefore hafter (by rw [hslots]; exact hcard) hspeed
    rw [hcfg, hcount, hmismatch] at hresult
    refine ⟨fun hactive hvalid habove => ?_, hresult.2⟩
    obtain ⟨hnew, hiff, hnotice⟩ := hresult.1 hactive hvalid habove
    exact ⟨hnew, hiff, fun hfalse htrue => hreported (hnotice hfalse htrue)⟩

end Sys2Proof.Machine
end

section
/-! PROOFS. O48: CARD IN (R117, R118). The fields, the checks in their order, and the record that an accepted card makes, with
the stages of its tracks. -/
namespace Sys2Proof.Machine

/-! ### What is done for one track leaves of another -/

/-- What is done for one track leaves of another of the same slot: the slots but for the records of the tracks, the
configuration and the stage; and it can settle the marks. -/
structure TrackLeft (i : Fin 2) (k : Track) (s t : State) : Prop where
  slots : SameSlots s t
  cfg : t.cfg = s.cfg
  stage : (t.track i k).stage = (s.track i k).stage
  offered : (s.track i k).offered = false → (t.track i k).offered = false
  acknowledged : (s.track i k).acknowledged = true → (t.track i k).acknowledged = true

section
variable {i : Fin 2} {k l : Track} {s t u : State}

theorem TrackLeft.trans (h : TrackLeft i k s t) (h' : TrackLeft i k t u) : TrackLeft i k s u where
  slots := h.slots.trans h'.slots
  cfg := h'.cfg.trans h.cfg
  stage := h'.stage.trans h.stage
  offered := h'.offered ∘ h.offered
  acknowledged := h'.acknowledged ∘ h.acknowledged

theorem TrackLeft.of_dtu (hdtu : t.dtu = s.dtu) (hcfg : t.cfg = s.cfg) : TrackLeft i k s t := by
  refine ⟨.of_dtu hdtu, hcfg, ?_, ?_, ?_⟩ <;> rw [State.track_of hdtu]
  · exact id
  · exact id

theorem TrackLeft.refl (i : Fin 2) (k : Track) (s : State) : TrackLeft i k s s := .of_dtu rfl rfl

theorem TrackLeft.of_duty {acks : Prop} (h : SameDuty acks s t) (hsettles : TracksSettle s t) (hcfg : t.cfg = s.cfg) :
    TrackLeft i k s t := by
  obtain ⟨-, -, -, -, -, hrecords⟩ := id h
  exact ⟨h.slots, hcfg, (hrecords i k).1, (hsettles i k).1, (hsettles i k).2⟩

theorem TrackLeft.setTrack (h : l ≠ k) (r : TrackRecord) (s : State) : TrackLeft i l s (s.setTrack i k r) := by
  have htrack : (s.setTrack i k r).track i l = s.track i l := by simp [h]
  exact ⟨setTrack_slots s i k r, by simp, by rw [htrack], by rw [htrack]; exact id, by rw [htrack]; exact id⟩

theorem handStage_trackLeft (i : Fin 2) (l k : Track) (old new : Stage) (s : State) :
    TrackLeft i l s (handStage i k old new s) := .of_dtu (by simp) (by simp)

theorem offerTrack_trackLeft (h : l ≠ k) (i : Fin 2) (s : State) : TrackLeft i l s (offerTrack i k s) := by
  unfold offerTrack
  (repeat' split)
  · exact .refl i l s
  · exact .refl i l s
  · exact (TrackLeft.setTrack h _ s).trans (.of_duty (offer_duty True _ _) (offer_settles _ _) (by simp))

/-! ### A track of a card that comes (R118) -/

theorem insertTrack_normal (h : s.stage i k = .normal) : insertTrack i k s = s := by
  simp only [insertTrack, h]

theorem insertTrack_prewarn (h : s.stage i k = .prewarn) :
    insertTrack i k s = handStage i k .normal .prewarn (s.setStage i k .prewarn true) := by
  simp only [insertTrack, h]

theorem insertTrack_offers (h : s.stage i k = .limit ∨ s.stage i k = .exceeded) : insertTrack i k s =
    handStage i k .normal (s.stage i k) (offerTrack i k (s.setStage i k (s.stage i k) false)) := by
  rcases h with h | h <;> simp only [insertTrack, h]

/-- A stage is NORMAL, PREWARN, or one that CARD IN offers. -/
theorem Stage.at_insert (x : Stage) : x = .normal ∨ x = .prewarn ∨ x = .limit ∨ x = .exceeded := by
  cases x <;> decide

theorem insertTrack_trackLeft (h : l ≠ k) (i : Fin 2) (s : State) : TrackLeft i l s (insertTrack i k s) := by
  rcases (s.stage i k).at_insert with hstage | hstage | hstage
  · rw [insertTrack_normal hstage]
    exact .refl i l s
  · rw [insertTrack_prewarn hstage]
    exact (TrackLeft.setTrack h _ s).trans (handStage_trackLeft ..)
  · rw [insertTrack_offers hstage]
    exact ((TrackLeft.setTrack h _ s).trans (offerTrack_trackLeft h i _)).trans (handStage_trackLeft ..)

/-- A track that rests before goes to the stage of its counter. -/
theorem insertTrack_stage (h : (s.track i k).stage = .normal) :
    ((insertTrack i k s).track i k).stage = s.stage i k := by
  rcases (s.stage i k).at_insert with hstage | hstage | hstage
  · rw [insertTrack_normal hstage, h, hstage]
  · rw [insertTrack_prewarn hstage, handStage_track, State.setStage_track, if_pos ⟨rfl, rfl⟩, hstage]
  · obtain ⟨-, -, -, -, -, hrecords⟩ := offerTrack_duty True i k (s.setStage i k (s.stage i k) false)
    rw [insertTrack_offers hstage, handStage_track, (hrecords i k).1, State.setStage_track, if_pos ⟨rfl, rfl⟩]

/-- A track found at PREWARN is acknowledged and not offered. -/
theorem insertTrack_marks (hstage : s.stage i k = .prewarn) (hoffered : (s.track i k).offered = false) :
    ((insertTrack i k s).track i k).acknowledged = true ∧ ((insertTrack i k s).track i k).offered = false := by
  rw [insertTrack_prewarn hstage, handStage_track, State.setStage_track, if_pos ⟨rfl, rfl⟩]
  exact ⟨rfl, hoffered⟩

theorem insertTrack_tally (i : Fin 2) (k : Track) (s : State) : SameTally s (insertTrack i k s) := by
  rcases (s.stage i k).at_insert with hstage | hstage | hstage
  · rw [insertTrack_normal hstage]
    exact .refl s
  · rw [insertTrack_prewarn hstage]
    exact SameTally.trans (t := s.setStage i k .prewarn true) ⟨rfl, rfl, rfl⟩ (.of_dtu (handStage_dtu ..))
  · rw [insertTrack_offers hstage]
    exact SameTally.trans (t := s.setStage i k (s.stage i k) false) ⟨rfl, rfl, rfl⟩
      ((offerTrack_duty True i k _).tally.trans (.of_dtu (handStage_dtu ..)))

theorem insertTrack_link (i : Fin 2) (k : Track) (s : State) : LinkGrows s (insertTrack i k s) := by
  have hset : ∀ stage acknowledged, LinkGrows s (s.setStage i k stage acknowledged) := fun _ _ => .of_lp (by simp)
  rcases (s.stage i k).at_insert with hstage | hstage | hstage
  · rw [insertTrack_normal hstage]
    exact .of_lp rfl
  · rw [insertTrack_prewarn hstage]
    exact (hset .prewarn true).trans (handStage_link i k _ _ _)
  · rw [insertTrack_offers hstage]
    exact (hset (s.stage i k) false).trans ((offerTrack_link i k _).trans (handStage_link i k _ _ _))

end

/-! ### The record of the card (R118) -/

/-- The three tracks of a card that comes, in the order continuous, daily, weekly. -/
def insertTracks (i : Fin 2) (s : State) : State :=
  insertTrack i .weekly (insertTrack i .daily (insertTrack i .continuous s))

/-- Each track has its turn, with the others before it and after it. -/
theorem insertTracks_turn (i : Fin 2) (k : Track) (s : State) : ∃ v, TrackLeft i k s v ∧
    TrackLeft i k (insertTrack i k v) (insertTracks i s) := by
  cases k with
  | continuous => exact ⟨s, .refl .., (insertTrack_trackLeft (by decide) i _).trans (insertTrack_trackLeft (by decide) i _)⟩
  | daily => exact ⟨_, insertTrack_trackLeft (by decide) i s, insertTrack_trackLeft (by decide) i _⟩
  | weekly =>
    exact ⟨_, (insertTrack_trackLeft (by decide) i s).trans (insertTrack_trackLeft (by decide) i _), .refl ..⟩

theorem insertTracks_slots (i : Fin 2) (s : State) : SameSlots s (insertTracks i s) :=
  (insertTrack_slots i _ s).trans ((insertTrack_slots i _ _).trans (insertTrack_slots i _ _))

theorem insertTracks_tally (i : Fin 2) (s : State) : SameTally s (insertTracks i s) :=
  (insertTrack_tally i _ s).trans ((insertTrack_tally i _ _).trans (insertTrack_tally i _ _))

theorem insertTracks_link (i : Fin 2) (s : State) : LinkGrows s (insertTracks i s) :=
  (insertTrack_link i _ s).trans ((insertTrack_link i _ _).trans (insertTrack_link i _ _))

/-- A slot with its tracks at rest has their stages put where its counters are, and what is found at PREWARN acknowledged
and not offered. -/
theorem insertTracks_settles {i : Fin 2} {s : State} (h : ∀ k, s.track i k = .rest) (k : Track) :
    ((insertTracks i s).track i k).stage = (insertTracks i s).stage i k ∧
    (((insertTracks i s).track i k).stage = .prewarn →
      ((insertTracks i s).track i k).acknowledged = true ∧ ((insertTracks i s).track i k).offered = false) := by
  obtain ⟨v, hbefore, hafter⟩ := insertTracks_turn i k s
  have hstage : ((insertTracks i s).track i k).stage = v.stage i k := by
    rw [hafter.stage, insertTrack_stage (by rw [hbefore.stage, h]; rfl)]
  have hcounter : (insertTracks i s).stage i k = v.stage i k := by
    have hslots := (insertTrack_slots i k v).trans hafter.slots
    exact State.stage_of hslots (State.limits_of (hafter.cfg.trans (by simp)) i) k
  refine ⟨hstage.trans hcounter.symm, fun hprewarn => ?_⟩
  obtain ⟨hacknowledged, hoffered⟩ := insertTrack_marks (hstage ▸ hprewarn) (hbefore.offered (by rw [h]; rfl))
  exact ⟨hafter.acknowledged hacknowledged, hafter.offered hoffered⟩

/-- The state with the card's record in its slot, before its tracks are judged. -/
def cardTaken (i : Fin 2) (token : BitVec 32) (a : Activity) (c : Summary) (s : State) : State :=
  clearMismatch i (s.setSlot i (Slot.inserted token a c s.dtu.clock (s.slot i).staged))

section
variable {i : Fin 2} {token : BitVec 32} {a : Activity} {c : Summary} {s : State}

theorem insertCard_eq : insertCard i token a c s = writeDerived i (insertTracks i (cardTaken i token a c s)) := rfl

theorem clearMismatch_slot (i j : Fin 2) (s : State) : (clearMismatch i s).slot j = s.slot j := by
  unfold clearMismatch
  split <;> rfl

theorem clearMismatch_cleared (s : State) :
    (clearMismatch 0 s).dtu.mismatchCount = 0 ∧ (clearMismatch 0 s).dtu.mismatch = false := ⟨rfl, rfl⟩

theorem cardTaken_slot : (cardTaken i token a c s).slot i = Slot.inserted token a c s.dtu.clock (s.slot i).staged := by
  rw [cardTaken, clearMismatch_slot]
  simp

theorem cardTaken_track (k : Track) : (cardTaken i token a c s).track i k = .rest := by
  rw [State.track, cardTaken_slot]
  cases k <;> rfl

theorem insertCard_slot : (insertCard i token a c s).slot i =
    { Slot.inserted token a c s.dtu.clock (s.slot i).staged with tracks := ((insertCard i token a c s).slot i).tracks } := by
  have hslots : SameSlots (cardTaken i token a c s) (insertCard i token a c s) :=
    (insertTracks_slots i _).trans (writeDerived_slots i _)
  rw [hslots.2 i, cardTaken_slot]

theorem insertCard_settled : SlotSettled i (insertCard i token a c s) :=
  writeDerived_settled fun k => (insertTracks_settles cardTaken_track k).1

theorem insertCard_prewarned {k : Track} (h : ((insertCard i token a c s).track i k).stage = .prewarn) :
    ((insertCard i token a c s).track i k).acknowledged = true ∧
    ((insertCard i token a c s).track i k).offered = false := by
  have hwritten : TrackLeft i k (insertTracks i (cardTaken i token a c s)) (insertCard i token a c s) :=
    .of_duty (writeDerived_duty i _) (writeDerived_settles i _) (by simp [insertCard_eq])
  obtain ⟨hacknowledged, hoffered⟩ := (insertTracks_settles (s := cardTaken i token a c s) cardTaken_track k).2
    (hwritten.stage ▸ h)
  exact ⟨hwritten.acknowledged hacknowledged, hwritten.offered hoffered⟩

theorem insertCard_mismatch : (insertCard 0 token a c s).dtu.mismatchCount = 0 ∧
    (insertCard 0 token a c s).dtu.mismatch = false := by
  have htally : SameTally (cardTaken 0 token a c s) (insertCard 0 token a c s) :=
    (insertTracks_tally 0 _).trans (writeDerived_duty 0 _).tally
  exact ⟨htally.count, htally.mismatch⟩

theorem insertCard_link : LinkGrows s (insertCard i token a c s) :=
  LinkGrows.trans (.of_lp (t := cardTaken i token a c s) (by simp [cardTaken]))
    ((insertTracks_link i _).trans (writeDerived_link i _))

end

/-! ### The fields and the checks of CARD IN (R117, R197) -/

theorem readCardIn_some {b : List Byte} {i : Fin 2} {a : Activity} (h : readCardIn b = some (i, a)) :
    readSlot (byteAt b 0) ≠ none ∧ byteAt b 5 < 64 ∧ ¬ (byteAt b 5 % 2 = 1 ∧ 5 ≤ byteAt b 6) := by
  simp only [readCardIn, Option.bind_eq_bind, Option.bind_eq_some_iff] at h
  obtain ⟨slot, hslot, presence, hpresence, hactivity⟩ := h
  have hrange : byteAt b 5 < 64 ∧ presence = byteAt b 5 := by
    simp only [readRange, readWhen, Option.ite_none_right_eq_some, Option.some.injEq, decide_eq_true_eq] at hpresence
    exact ⟨by omega, hpresence.2.symm⟩
  refine ⟨by rw [hslot]; exact nofun, hrange.1, ?_⟩
  rintro ⟨hgiven, hout⟩
  rw [hrange.2, if_pos hgiven, readEnum_out hout] at hactivity
  simp at hactivity

theorem readCardIn_none {b : List Byte}
    (h : byteAt b 0 = 0 ∨ 2 < byteAt b 0 ∨ 64 ≤ byteAt b 5 ∨ (byteAt b 5 % 2 = 1 ∧ 5 ≤ byteAt b 6)) :
    readCardIn b = none := by
  cases hread : readCardIn b with
  | none => rfl
  | some x =>
    obtain ⟨hslot, hpresence, hactivity⟩ := readCardIn_some hread
    rcases h with h | h | h | h
    · exact absurd (readSlot_none (.inl h)) hslot
    · exact absurd (readSlot_none (.inr h)) hslot
    · omega
    · exact absurd h hactivity

theorem State.cardConflict_iff (s : State) (i : Fin 2) (token : BitVec 32) : s.cardConflict i token = true ↔
    (s.slot i).card.isSome = true ∨ ∃ j, (s.slot j).card = some token := by
  rw [State.cardConflict, Bool.or_eq_true, List.any_eq_true]
  refine or_congr_right ⟨?_, ?_⟩
  · rintro ⟨x, hx, hcard⟩
    obtain ⟨n, hn, rfl⟩ := List.mem_iff_getElem.mp hx
    exact ⟨⟨n, hn.trans_eq s.dtu.slots.size⟩, of_decide_eq_true hcard⟩
  · rintro ⟨j, hcard⟩
    exact ⟨s.slot j, List.getElem_mem _, decide_eq_true hcard⟩

section
variable {body : List Byte} {i : Fin 2} {a : Activity} {s : State}

/-- What CARD IN answers once its fields are read. -/
theorem cardIn_run (hread : readCardIn body = some (i, a)) : cardInRequest.run body s =
    if s.cardConflict i (readToken body) then Answer.refuse s .conflict
    else if (readSummary body).bad (s.limits i) then Answer.refuse s .range
    else if s.psc.state = .sleep ∧ a = .driving then Answer.refuse s .asleep
    else Answer.ok (drivingNotice a (insertCard i (readToken body) a (readSummary body) s)) :=
  reading_accepts _ _ s (i, a) hread

theorem cardIn_next {tag : Byte} {t : State} {status : Status} {b : List Byte} (h : s.listens)
    (hfits : cardInBodyFits body = true) (hrun : cardInRequest.run body (goodFrame s) = ⟨t, status, b⟩) :
    exec (.cardIn tag body) s = .next (beginReply tag 0x43#8 status b t) :=
  Request.take_listening (r := cardInRequest) h hfits rfl hrun

theorem State.cardConflict_goodFrame (i : Fin 2) (token : BitVec 32) :
    (goodFrame s).cardConflict i token = s.cardConflict i token := by
  simp [State.cardConflict]

/-- A card that no slot holds, for an EMPTY slot, passes the second check. -/
theorem State.cardConflict_free {token : BitVec 32} (h : (s.slot i).card = none) (hnew : ∀ j, (s.slot j).card ≠ some token) :
    ¬ s.cardConflict i token = true := by
  rw [State.cardConflict_iff]
  rintro (hcard | ⟨j, hcard⟩)
  · simp [h] at hcard
  · exact hnew j hcard

end

/-- An accepted CARD IN (R118, R167, R172). -/
theorem cardIn_answersOk {tag : Byte} {body : List Byte} {i : Fin 2} {a : Activity} {c : Summary} {s : State}
    (h : s.listens) (hfits : cardInBodyFits body = true)
    (hrun : cardInRequest.run body (goodFrame s) =
      Answer.ok (drivingNotice a (insertCard i (readToken body) a c (goodFrame s)))) :
    Answers (.cardIn tag body) s tag 0x43#8 .ok [] fun t =>
      t.slot i = { Slot.empty (s.slot i).staged with
        card := some (readToken body), activity := a, continuous := c.continuous, daily := c.daily
        weekly := c.weekly, credit := c.credit, dayBase := c.elapsed, dayStart := s.dtu.clock
        tracks := (t.slot i).tracks } ∧
      (∀ k, (t.track i k).stage =
        stageOf ((s.limits i).limit k) ((s.limits i).margin k) ((t.slot i).counter k)) ∧
      (∀ k, (t.track i k).stage = .prewarn → (t.track i k).acknowledged = true ∧ (t.track i k).offered = false) ∧
      (∀ q : Fin 48, (q.val = 44 + 2 * i.val ∨ q.val = 45 + 2 * i.val → (t.entry q).status = .valid)) ∧
      (i = 0 → t.dtu.mismatchCount = 0 ∧ t.dtu.mismatch = false) ∧
      t.psc.state = (if a = .driving ∧ s.psc.state = .parking then .run else s.psc.state) ∧
      (a = .driving → s.psc.state = .parking → GaugesReleased s t ∧ Reported .powerState .stop 2 0x0603 s t) ∧
      (a ≠ .driving ∨ s.psc.state ≠ .parking → t.gdu = s.gdu ∧ t.psc = s.psc) ∧
      s.sameBut t [.lp, .qt, .gdu, .weu, .dtu, .anu, .psc] := by
  obtain ⟨u, hu⟩ : ∃ u, u = insertCard i (readToken body) a c (goodFrame s) := ⟨_, rfl⟩
  rw [← hu] at hrun
  refine answers_listening (r := cardInRequest) h rfl hfits rfl hrun (by simp) ?_
  obtain ⟨t, ht⟩ : ∃ t, t = noticed tag 0x43#8 .ok [] a u := ⟨_, rfl⟩
  rw [show beginReply tag cardInRequest.kind .ok [] (drivingNotice a u) = t from ht.symm]
  have hdtu : t.dtu = u.dtu := by rw [ht, noticed_dtu]
  have hqt : t.qt = u.qt := by simp [ht, noticed]
  have hcfg : t.cfg = u.cfg := by simp [ht, noticed]
  have hpsc : u.psc = s.psc := by simp [hu]
  have hgdu : u.gdu = s.gdu := by simp [hu]
  have htrack : ∀ k, t.track i k = u.track i k := fun k => State.track_of hdtu i k
  have hslot : t.slot i = u.slot i := State.slot_of u t hdtu i
  have hsettled : SlotSettled i u := hu ▸ insertCard_settled
  refine ⟨?_, fun k => ?_, fun k hprewarn => ?_, fun q hq => ?_, ?_, ?_, fun ha hstate => ⟨?_, ?_⟩, fun hunheeded => ?_, ?_⟩
  · have hmade : u.slot i = { Slot.inserted (readToken body) a c (goodFrame s).dtu.clock ((goodFrame s).slot i).staged with
        tracks := (u.slot i).tracks } := hu ▸ insertCard_slot
    rw [hslot, hmade]
    simp [Slot.inserted]
  · have hlimits : u.limits i = s.limits i := State.limits_of (by simp [hu]) i
    rw [htrack, hsettled.stage, hslot, State.stage, hlimits]
  · rw [htrack] at hprewarn ⊢
    rw [hu] at hprewarn ⊢
    exact insertCard_prewarned hprewarn
  · rw [State.entry, hqt]
    rcases hq with hq | hq
    · rw [(derivedQuantity_iff i q).1.mp hq]
      exact hsettled.status false
    · rw [(derivedQuantity_iff i q).2.mp hq]
      exact hsettled.status true
  · rintro rfl
    rw [hdtu, hu]
    exact insertCard_mismatch
  · split
    · next hheeded =>
      obtain ⟨hreturned, -⟩ := drivingNotice_returns (s := u) hheeded.1 (hpsc ▸ hheeded.2)
      simp [ht, noticed, hreturned]
    · next hnot =>
      rw [ht, noticed, drivingNotice_unheeded (hpsc ▸ (by rwa [← not_and_or]))]
      simp [hpsc]
  · obtain ⟨-, hreleased, -⟩ := drivingNotice_returns (s := u) ha (hpsc ▸ hstate)
    exact hreleased.congr hgdu (by simp [ht, noticed])
  · have hgrows : s.lp.queue <+: u.lp.queue := (goodFrame_queue s).trans (hu ▸ insertCard_link.1)
    obtain ⟨-, -, hfirst⟩ := drivingNotice_returns (s := u) ha (hpsc ▸ hstate)
    have hnotice := hfirst.reported (by simp) (drivingNotice_link a u).1
    rw [ht]
    exact Reported.beginReply (hnotice.widen hgrows (by simp [hu]) rfl List.prefix_rfl) tag 0x43#8 .ok []
  · rw [ht, noticed, drivingNotice_unheeded (hpsc ▸ hunheeded)]
    simp [hgdu, hpsc]
  · rw [State.sameBut_parts]
    simp [ht, noticed, hu]

end Sys2Proof.Machine
end

section
/-! PROOFS. O48: CARD OUT (R119). What a withdrawal makes of the held entries and leaves of the duty unit, and the EMPTY record;
then both requests. -/
namespace Sys2Proof.Machine

/-! ### A withdrawal (R141) -/

/-- The sources of the held entries, waiting and shown. -/
def State.sources (s : State) : List AnnSource := s.anu.entries.map Entry.source

section
variable {s t : State}

/-- A withdrawal tells no track, and with nothing shown after it no entry is displaced. -/
theorem withdraw_dtu (x : AnnSource) (s : State) : (withdraw x s).dtu = s.dtu := by
  have hended : ∀ e t, (endEntry .withdrawn e t).dtu = t.dtu := fun e t => by simp [endEntry, tellOwner_withdrawn]
  unfold withdraw
  split
  · simp [hended]
  · split
    · rfl
    · next sh _ =>
      split
      · have hshown : (endEntry .withdrawn sh.entry (stopShown s)).anu.shown = none := by simp [stopShown]
        have hdecided : ∀ t : State, t.anu.shown = none → (decideLine t).dtu = t.dtu := by
          intro t ht
          simp only [decideLine, ht]
          split
          · rfl
          · simp
        simp [decideAfterEnd, hdecided _ hshown, hended]
      · rfl

theorem State.sources_of (hqueue : t.anu.queue = s.anu.queue)
    (hshown : t.anu.shown.map (·.entry.source) = s.anu.shown.map (·.entry.source)) : t.sources = s.sources := by
  have hsplit (a : Annunciation) :
      a.entries.map Entry.source = a.queue.map Entry.source ++ (a.shown.map (·.entry.source)).toList := by
    cases h : a.shown <;> simp [Annunciation.entries, h]
  rw [State.sources, State.sources, hsplit, hsplit, hqueue, hshown]

/-- With nothing shown, deciding the line keeps the held entries. -/
theorem decideLine_sources (h : s.anu.shown = none) : (decideLine s).sources.Perm (s.anu.queue.map Entry.source) := by
  have hsame : s.sources = s.anu.queue.map Entry.source := by simp [State.sources, Annunciation.entries, h]
  simp only [decideLine, h, showHead]
  split
  · rw [hsame]
  · split
    · rw [hsame]
    · next e rest hqueue =>
      obtain ⟨hwaiting, hshown, -⟩ := beginShowing_anu e (s.setQueue rest)
      have hsources : (beginShowing e (s.setQueue rest)).sources = rest.map Entry.source ++ [e.source] := by
        simp only [State.sources, Annunciation.entries, hwaiting, hshown]
        simp [State.setQueue, State.beginTimers]
      rw [hsources, hqueue]
      exact List.perm_append_singleton _ _

/-- A withdrawal ends the entry of its source, and holds the others (R141). -/
theorem withdraw_sources {x : AnnSource} (h : s.sources.Nodup) :
    (withdraw x s).sources.Perm (s.sources.filter fun y => decide (y ≠ x)) := by
  have hqueue : ∀ q : List Entry, (q.filter fun f => decide (f.source ≠ x)).map Entry.source =
      (q.map Entry.source).filter fun y => decide (y ≠ x) := fun q => by rw [List.filter_map]; rfl
  unfold withdraw
  split
  · next e hfound =>
    have hsource : e.source = x := by simpa using List.find?_some hfound
    have hwaits : x ∈ s.anu.queue.map Entry.source := hsource ▸ List.mem_map_of_mem (List.mem_of_find?_eq_some hfound)
    rw [State.sources_of (s := s.setQueue (s.anu.queue.filter fun f => decide (f.source ≠ x))) (by simp) (by simp)]
    rw [State.sources, Annunciation.entries, List.map_append, List.nodup_append] at h
    obtain ⟨-, -, hdisjoint⟩ := h
    refine List.Perm.of_eq ?_
    simp only [State.sources, Annunciation.entries, State.setQueue, State.setAnu_anu, List.map_append, List.filter_append,
      hqueue]
    congr 1
    refine (List.filter_eq_self.mpr fun y hy => ?_).symm
    exact decide_eq_true (hdisjoint x hwaits y hy).symm
  · next hnone =>
    have hkept : s.anu.queue.filter (fun f => decide (f.source ≠ x)) = s.anu.queue :=
      List.filter_eq_self.mpr fun e he => by simpa using List.find?_eq_none.mp hnone e he
    have hwaiting : (s.anu.queue.map Entry.source).filter (fun y => decide (y ≠ x)) = s.anu.queue.map Entry.source := by
      rw [← hqueue, hkept]
    split
    · next hshown =>
      have hsources : s.sources = s.anu.queue.map Entry.source := by simp [State.sources, Annunciation.entries, hshown]
      rw [hsources, hwaiting]
    · next sh hshown =>
      have hsources : s.sources = s.anu.queue.map Entry.source ++ [sh.entry.source] := by
        simp [State.sources, Annunciation.entries, hshown]
      rw [hsources, List.filter_append, hwaiting]
      split
      · next hsource =>
        have hended : (endEntry .withdrawn sh.entry (stopShown s)).anu.shown = none := by simp [stopShown]
        have hdecided := decideLine_sources hended
        rw [decideAfterEnd, State.sources_of (s := decideLine (endEntry .withdrawn sh.entry (stopShown s))) (by simp) (by simp)]
        simpa [hsource, stopShown] using hdecided
      · next hother => simp [hsources, hother]

/-- What a withdrawal leaves held is of another source, and was held before. -/
theorem withdraw_held {x y : AnnSource} (h : s.sources.Nodup) (hy : y ∈ (withdraw x s).sources) : y ≠ x ∧ y ∈ s.sources := by
  rw [(withdraw_sources h).mem_iff, List.mem_filter] at hy
  exact ⟨of_decide_eq_true hy.2, hy.1⟩

theorem withdraw_nodup (x : AnnSource) (h : s.sources.Nodup) : (withdraw x s).sources.Nodup :=
  (withdraw_sources h).nodup_iff.mpr (h.filter _)

end

/-! ### The three tracks of a card that goes (R119) -/

/-- The entries of a slot's tracks withdrawn, in the order continuous, daily, weekly. -/
def withdrawTracks (i : Fin 2) (s : State) : State :=
  withdraw (.duty i .weekly) (withdraw (.duty i .daily) (withdraw (.duty i .continuous) s))

@[simp] theorem withdrawTracks_left (i : Fin 2) (s : State) : (withdrawTracks i s).weu = s.weu ∧
    (withdrawTracks i s).dtu = s.dtu ∧ (withdrawTracks i s).qt = s.qt := by
  simp [withdrawTracks, withdraw_weu, withdraw_dtu]

/-- No entry of the slot is held any more. -/
theorem withdrawTracks_sources {i : Fin 2} {s : State} (h : s.sources.Nodup) (k : Track) :
    .duty i k ∉ (withdrawTracks i s).sources := by
  have hcontinuous := withdraw_nodup (.duty i .continuous) h
  have hdaily := withdraw_nodup (.duty i .daily) hcontinuous
  intro hheld
  obtain ⟨hweekly, hheld⟩ := withdraw_held hdaily hheld
  obtain ⟨hnotDaily, hheld⟩ := withdraw_held hcontinuous hheld
  obtain ⟨hnotContinuous, -⟩ := withdraw_held h hheld
  cases k <;> contradiction

/-- A quantity that is written ABSENT acknowledges nothing. -/
theorem writeAbsent_eq (q : Fin 48) (s : State) :
    writeAbsent q s = s.setEntry q { s.entry q with value := 0, status := .absent, restarted := s.now } := by
  simp [writeAbsent, writeEntry, State.risingEdge]

theorem removeCard_eq (i : Fin 2) (s : State) : removeCard i s =
    writeAbsent (derivedQuantity i true) (writeAbsent (derivedQuantity i false) (clearMismatch i
      ((withdrawTracks i (s.setSlot i { s.slot i with pending := none, superseded := false })).setSlot i
        (.empty ((withdrawTracks i (s.setSlot i { s.slot i with pending := none, superseded := false })).slot i).staged)))) :=
  rfl

section
variable {i : Fin 2} {s : State}

theorem removeCard_slot (i j : Fin 2) (s : State) :
    (removeCard i s).slot j = if j = i then Slot.empty (s.slot i).staged else s.slot j := by
  have hstaged : ∀ x : Slot, (withdrawTracks i (s.setSlot i x)).slot j = if j = i then x else s.slot j := fun x => by
    rw [State.slot_of (s.setSlot i x) _ (withdrawTracks_left i _).2.1, State.setSlot_slot]
  have hown : ∀ x : Slot, (withdrawTracks i (s.setSlot i x)).slot i = x := fun x => by
    rw [State.slot_of (s.setSlot i x) _ (withdrawTracks_left i _).2.1, State.setSlot_slot, if_pos rfl]
  rw [removeCard_eq, writeAbsent_eq, writeAbsent_eq]
  show (clearMismatch i _).slot j = _
  rw [clearMismatch_slot, State.setSlot_slot, hown, hstaged]
  split <;> rfl

theorem removeCard_mismatch (s : State) :
    (removeCard 0 s).dtu.mismatchCount = 0 ∧ (removeCard 0 s).dtu.mismatch = false := by
  rw [removeCard_eq, writeAbsent_eq, writeAbsent_eq]
  exact clearMismatch_cleared _

theorem removeCard_entry (daily : Bool) : ((removeCard i s).entry (derivedQuantity i daily)).status = .absent ∧
    ((removeCard i s).entry (derivedQuantity i daily)).value = 0 := by
  rw [removeCard_eq, writeAbsent_eq, writeAbsent_eq]
  cases daily <;> simp [derivedQuantity_inj]

theorem removeCard_weu (i : Fin 2) (s : State) : (removeCard i s).weu = s.weu := by
  rw [removeCard_eq, writeAbsent_eq, writeAbsent_eq]
  simp

theorem removeCard_sources (h : s.sources.Nodup) (k : Track) : .duty i k ∉ (removeCard i s).sources := by
  have hsources : (removeCard i s).sources =
      (withdrawTracks i (s.setSlot i { s.slot i with pending := none, superseded := false })).sources := by
    rw [removeCard_eq, writeAbsent_eq, writeAbsent_eq]
    simp [State.sources]
  rw [hsources]
  exact withdrawTracks_sources (by simpa [State.sources] using h) k

end

/-! ### CARD OUT -/

section
variable {tag b : Byte} {i : Fin 2} {s : State}

/-- What CARD OUT answers once its slot is read. -/
theorem cardOut_run (hb : b.toNat = i.val + 1) : cardOutRequest.run [b] s =
    if (s.slot i).card = none then Answer.refuse s .noCard else Answer.ok (removeCard i s) :=
  reading_accepts _ _ s i (by rw [readSlotByte, byteAt_zero, hb, readSlot_val])

/-- An accepted CARD OUT. -/
theorem cardOut_answersOk (h : s.listens) (hkept : s.announcementsKept) (hb : b.toNat = i.val + 1)
    (hcard : (s.slot i).card.isSome = true) : Answers (.cardOut tag [b]) s tag 0x44#8 .ok [] fun t =>
      t.slot i = Slot.empty (s.slot i).staged ∧ (∀ j, j ≠ i → t.slot j = s.slot j) ∧
      (∀ e ∈ t.anu.entries, ∀ k, e.source ≠ .duty i k) ∧
      (∀ q : Fin 48, (q.val = 44 + 2 * i.val ∨ q.val = 45 + 2 * i.val →
        (t.entry q).status = .absent ∧ (t.entry q).value = 0)) ∧
      (i = 0 → t.dtu.mismatchCount = 0 ∧ t.dtu.mismatch = false) ∧ s.sameBut t [.lp, .qt, .dtu, .anu] := by
  have hrun : cardOutRequest.run [b] (goodFrame s) = ⟨removeCard i (goodFrame s), .ok, []⟩ := by
    rw [cardOut_run hb, if_neg (by simpa using Option.isSome_iff_ne_none.mp hcard)]
    rfl
  refine answers_listening (r := cardOutRequest) h rfl rfl rfl hrun (by simp)
    ⟨?_, fun j hj => ?_, fun e he k hsource => ?_, fun q hq => ?_, ?_, ?_⟩
  · simp [removeCard_slot]
  · simp [removeCard_slot, hj]
  · refine removeCard_sources (i := i) (s := goodFrame s) (by simpa [State.sources] using hkept.2) k ?_
    rw [← hsource]
    exact List.mem_map_of_mem (by simpa using he)
  · rcases hq with hq | hq
    · rw [(derivedQuantity_iff i q).1.mp hq]
      simpa using removeCard_entry (i := i) (s := goodFrame s) false
    · rw [(derivedQuantity_iff i q).2.mp hq]
      simpa using removeCard_entry (i := i) (s := goodFrame s) true
  · rintro rfl
    simpa using removeCard_mismatch (goodFrame s)
  · rw [State.sameBut_parts]
    simp [removeCard_weu]

end

/-- Settles O48: CARD IN check by check, then CARD OUT. -/
theorem cardsComeAndGo : Obligations.CardsComeAndGo := by
  refine ⟨fun tag body s h hfits hout => ?_, fun tag b s h hout => ?_, ?_, fun tag b s i h hkept hb => ⟨fun hcard => ?_, ?_⟩⟩
  · exact cardIn_next h hfits (reading_range _ _ (readCardIn_none hout))
  · exact Request.take_listening (r := cardOutRequest) h rfl rfl
      (reading_range _ _ (by rw [readSlotByte, byteAt_zero, readSlot_none hout]))
  · rintro tag body s i a c h hfits hread rfl
    have hrun := cardIn_run (s := goodFrame s) hread
    have hlimits : (goodFrame s).limits i = s.limits i := by simp
    have hpsc : (goodFrame s).psc = s.psc := by simp
    rw [State.cardConflict_goodFrame, hlimits, hpsc] at hrun
    refine ⟨fun hconflict => cardIn_next h hfits (hrun.trans (if_pos ((s.cardConflict_iff i _).mpr hconflict))),
      fun hempty hnew => ?_⟩
    rw [if_neg (State.cardConflict_free hempty hnew)] at hrun
    refine ⟨fun hbad => cardIn_next h hfits (hrun.trans (if_pos (decide_eq_true hbad))), fun hcredit hdaily hweekly => ?_⟩
    rw [if_neg (by simp only [Summary.bad, decide_eq_true_eq]; omega)] at hrun
    refine ⟨fun hsleep ha => cardIn_next h hfits (hrun.trans (if_pos ⟨hsleep, ha⟩)), fun hawake => ?_⟩
    rw [if_neg (not_and_or.mpr hawake)] at hrun
    exact cardIn_answersOk h hfits hrun
  · refine Request.take_listening (r := cardOutRequest) h rfl rfl ((cardOut_run hb).trans ?_)
    rw [if_pos (by simpa using hcard)]
    rfl
  · exact cardOut_answersOk h hkept hb

end Sys2Proof.Machine
end

section
/-! PROOFS. The announcements held (R138): the sources of the entries, waiting and shown, through the showing of the head, a
displacement, the decision of the line, offers, withdrawals and acknowledgements. -/
namespace Sys2Proof.Machine

/-! ### The entries held -/

theorem State.sources_split (s : State) :
    s.sources = s.anu.queue.map Entry.source ++ (s.anu.shown.map (·.entry.source)).toList := by
  cases h : s.anu.shown <;> simp [State.sources, Annunciation.entries, h]

theorem State.sources_unshown {s : State} (h : s.anu.shown = none) : s.sources = s.anu.queue.map Entry.source := by
  simp [State.sources_split, h]

theorem State.sources_shown {s : State} {sh : Shown} (h : s.anu.shown = some sh) :
    s.sources = s.anu.queue.map Entry.source ++ [sh.entry.source] := by
  simp [State.sources_split, h]

theorem State.mem_sources {s : State} {x : AnnSource} : x ∈ s.sources ↔ ∃ e ∈ s.anu.entries, e.source = x := by
  simp [State.sources]

@[simp] theorem State.setQueue_anu (s : State) (q : List Entry) : (s.setQueue q).anu = { s.anu with queue := q } := rfl
@[simp] theorem State.setShown_anu (s : State) (x : Option Shown) : (s.setShown x).anu = { s.anu with shown := x } := rfl
@[simp] theorem stopShown_anu (s : State) :
    (stopShown s).anu = { s.anu with shown := none, sounder := s.anu.sounder.endRepeat } := rfl

/-- Showing the head takes it from the queue. -/
@[simp] theorem showHead_queue (s : State) : (showHead s).anu.queue = s.anu.queue.tail := by
  unfold showHead
  split
  · next h => simp [h]
  · next e rest h => simp [(beginShowing_anu e _).1, h]

/-- The head that begins to be shown is held on, with every other waiting entry. -/
theorem showHead_sources {s : State} (h : s.anu.shown = none) :
    (showHead s).sources.Perm (s.anu.queue.map Entry.source) := by
  unfold showHead
  split
  · rw [State.sources_unshown h]
  · next e rest hqueue =>
    obtain ⟨hwaiting, hshown, -⟩ := beginShowing_anu e (s.setQueue rest)
    rw [State.sources_shown hshown, hwaiting, hqueue]
    exact List.perm_append_singleton _ _

/-! ### What keeps the announcements -/

/-- A change keeps the announcements as R138 has them. -/
def KeepsLine (s t : State) : Prop := s.announcementsKept → t.announcementsKept

section
variable {s t u : State}

theorem KeepsLine.refl (s : State) : KeepsLine s s := id

theorem KeepsLine.trans (h : KeepsLine s t) (k : KeepsLine t u) : KeepsLine s u := k ∘ h

/-- The later change first, so that it says which state the earlier one leads to. -/
theorem KeepsLine.after (k : KeepsLine t u) (h : KeepsLine s t) : KeepsLine s u := h.trans k

theorem KeepsLine.ite {c : Prop} [Decidable c] {a b : State} (ha : KeepsLine s a) (hb : KeepsLine s b) :
    KeepsLine s (if c then a else b) := iteInduction (fun _ => ha) (fun _ => hb)

/-- A change of neither the waiting entries nor the shown one. -/
theorem KeepsLine.of_entries (h : t.anu.queue = s.anu.queue ∧ t.anu.shown = s.anu.shown) : KeepsLine s t := by
  obtain ⟨hqueue, hshown⟩ := h
  unfold KeepsLine State.announcementsKept Annunciation.entries
  rw [hqueue, hshown]
  exact id

/-- A change that holds no more entries, each of a source that was held. -/
theorem KeepsLine.of_fewer (hqueue : t.anu.queue.length ≤ s.anu.queue.length)
    (hsources : s.sources.Nodup → t.sources.Nodup) : KeepsLine s t :=
  fun ⟨hroom, hnodup⟩ => ⟨hqueue.trans hroom, hsources hnodup⟩

/-- A change of the shown entry in place. -/
theorem KeepsLine.of_sources (hqueue : t.anu.queue = s.anu.queue)
    (hshown : t.anu.shown.map (·.entry.source) = s.anu.shown.map (·.entry.source)) : KeepsLine s t :=
  .of_fewer (by rw [hqueue]) (by rw [State.sources_of hqueue hshown]; exact id)

theorem forEach_keepsLine {n : Nat} {f : Fin n → State → State} (hf : ∀ i t, KeepsLine t (f i t)) (s : State) :
    KeepsLine s (forEach f s) :=
  forEach_keeps (KeepsLine s) f (fun i t h => h.trans (hf i t)) s (.refl s)

end

/-! ### The decision of the line (R145, R146) -/

/-- A shown entry that is displaced waits again where the head stood, or ends (R146). -/
theorem displace_keepsLine {sh : Shown} {s : State} (hshown : s.anu.shown = some sh) (hqueue : s.anu.queue ≠ []) :
    KeepsLine s (displace sh s) := by
  obtain ⟨u, hu⟩ : ∃ u, u = showHead (stopShown s) := ⟨_, rfl⟩
  have hlength : u.anu.queue.length + 1 = s.anu.queue.length := by
    have := List.length_pos_of_ne_nil hqueue
    simp only [hu, showHead_queue, stopShown_anu, List.length_tail]
    omega
  have hsources : u.sources.Perm (s.anu.queue.map Entry.source) := hu ▸ showHead_sources (s := stopShown s) rfl
  unfold displace
  rw [← hu]
  dsimp only
  split
  · refine .of_fewer (by simp; omega) fun h => ?_
    have hbehind : (u.setQueue (enqueue sh.entry u.anu.queue)).sources.Perm (sh.entry.source :: u.sources) := by
      rw [State.sources_split, State.sources_split]
      exact ((enqueue_perm _ _).map _).append_right _
    rw [State.sources_shown hshown] at h
    exact (hbehind.trans ((hsources.cons _).trans (List.perm_append_singleton _ _).symm)).nodup_iff.mpr h
  · refine .of_fewer (by simp; omega) fun h => ?_
    rw [State.sources_shown hshown, List.nodup_append] at h
    rw [State.sources_of (s := u) (by simp) (by simp)]
    exact hsources.nodup_iff.mpr h.1

theorem decideLine_keepsLine (s : State) : KeepsLine s (decideLine s) := by
  unfold decideLine
  split
  · exact .refl s
  · split
    · next hshown =>
      refine .of_fewer (by simp) fun h => (showHead_sources hshown).nodup_iff.mpr ?_
      rwa [← State.sources_unshown hshown]
    · next sh hshown =>
      split
      · next hhigher =>
        refine displace_keepsLine hshown fun hempty => ?_
        simp [Annunciation.headHigher, hempty] at hhigher
      · exact .refl s

theorem decideAfterEnd_keepsLine (s : State) : KeepsLine s (decideAfterEnd s) :=
  (decideLine_keepsLine s).trans (.of_entries (by simp [decideAfterEnd]))

/-- The shown entry ends, and the line is decided (R141, R147, R149). -/
theorem endShown_keepsLine (cause : EndCause) (e : Entry) (s : State) :
    KeepsLine s (decideAfterEnd (endEntry cause e (stopShown s))) := by
  refine (decideAfterEnd_keepsLine _).after (.of_fewer (by simp) fun h => ?_)
  have hwaiting : (endEntry cause e (stopShown s)).sources = s.anu.queue.map Entry.source := by
    simp [State.sources_unshown]
  rw [State.sources_split] at h
  exact hwaiting ▸ (List.nodup_append.mp h).1

theorem acknowledgeShown_keepsLine (s : State) : KeepsLine s (acknowledgeShown s) := by
  unfold acknowledgeShown
  split
  · exact .refl s
  · exact endShown_keepsLine _ _ s

theorem withdraw_keepsLine (x : AnnSource) (s : State) : KeepsLine s (withdraw x s) :=
  .of_fewer (withdraw_queue_le x s) (withdraw_nodup x)

/-! ### Offers (R139, R140) -/

/-- Renumbered or not, the entries held when the arrival counter gains 1 stay held, and the shown one stays shown (R138). -/
theorem gainArrival_held (s : State) : (gainArrival s).anu.queue.length = s.anu.queue.length ∧
    (gainArrival s).sources = s.sources := by
  rw [State.sources_split, State.sources_split]
  unfold gainArrival
  dsimp only
  split
  · exact ⟨rfl, rfl⟩
  · simp [renumber, Function.comp_def]

/-- A new entry joins a queue that has room (R139). -/
theorem joinQueue_keepsLine {o : Offer} {s : State} (hroom : s.anu.queue.length < 16) (hnew : o.source ∉ s.sources) :
    KeepsLine s (joinQueue o s) := by
  obtain ⟨hlength, hsources⟩ := gainArrival_held s
  refine (decideLine_keepsLine _).after fun ⟨_, hnodup⟩ => ⟨by simp; omega, ?_⟩
  have hjoined : ((gainArrival s).setQueue (enqueue ((gainArrival s).newEntry o) (gainArrival s).anu.queue)).sources.Perm
      (o.source :: s.sources) := by
    rw [← hsources, State.sources_split, State.sources_split]
    exact ((enqueue_perm _ _).map _).append_right _
  exact hjoined.nodup_iff.mpr (List.nodup_cons.mpr ⟨hnew, hnodup⟩)

/-- On a full queue the lowest waiting entry gives its place to the new one, or the new one is not held (R140). -/
theorem offerOnFull_keepsLine {o : Offer} {s : State} (hfull : 16 ≤ s.anu.queue.length) (hnew : o.source ∉ s.sources) :
    KeepsLine s (offerOnFull o s) := by
  unfold offerOnFull
  split
  · next hnone =>
    rw [List.getLast?_eq_none_iff] at hnone
    simp [hnone] at hfull
  · next low _ =>
    split
    · intro hkept
      obtain ⟨u, hu⟩ : ∃ u, u = endEntry .dropped low (s.setQueue s.anu.queue.dropLast) := ⟨_, rfl⟩
      have hlength : u.anu.queue.length + 1 = s.anu.queue.length := by
        simp only [hu, endEntry_frame, State.setQueue_anu, List.length_dropLast]
        omega
      have hsublist : u.sources.Sublist s.sources := by
        rw [State.sources_split, State.sources_split]
        simp only [hu, endEntry_frame, State.setQueue_anu]
        exact ((List.dropLast_sublist _).map _).append_right _
      have hroom := hkept.1
      exact hu ▸ joinQueue_keepsLine (by omega) (fun hheld => hnew (hsublist.subset hheld))
        ⟨by omega, hkept.2.sublist hsublist⟩
    · obtain ⟨hlength, hsources⟩ := gainArrival_held s
      exact KeepsLine.trans (.of_fewer hlength.le (by rw [hsources]; exact id)) (.of_entries (by simp))

/-- An update in place keeps every source (R139). -/
theorem updateWaiting_sources (o : Offer) (s : State) : (updateWaiting o s).sources = s.sources := by
  have hsource (e : Entry) : (if e.source = o.source then e.updated o else e).source = e.source := by
    split <;> rfl
  rw [State.sources_split, State.sources_split]
  simp [updateWaiting, Function.comp_def, hsource]

theorem offer_keepsLine (o : Offer) (s : State) : KeepsLine s (offer o s) := by
  unfold offer
  split
  · next sh hshown =>
    obtain ⟨hshown, -⟩ := Option.filter_eq_some_iff.mp hshown
    exact .of_sources (by simp [updateShown]) (by simp [updateShown, hshown, Entry.updated])
  · next hshown =>
    split
    · exact .of_fewer (by simp [updateWaiting]) (by rw [updateWaiting_sources]; exact id)
    · next hwaits =>
      have hnew : o.source ∉ s.sources := by
        rw [State.sources_split]
        simp only [Annunciation.waits, List.any_eq_true, decide_eq_true_eq, not_exists, not_and] at hwaits
        simp only [List.mem_append, List.mem_map, Option.mem_toList, Option.map_eq_some_iff, not_or, not_exists, not_and]
        refine ⟨hwaits, fun sh hsh hsource => ?_⟩
        simp [hsh, hsource] at hshown
      split
      · next hroom => exact joinQueue_keepsLine hroom hnew
      · next hfull => exact offerOnFull_keepsLine (by omega) hnew

end Sys2Proof.Machine
end

section
/-! PROOFS. O56: what the rest of the part makes of the announcements held: each operation that offers, withdraws, acknowledges
or decides the line keeps them as R138 has them, and every other leaves the entries alone. -/
namespace Sys2Proof.Machine

/-! ### The warnings -/

theorem setWarning_keepsLine (w : Fin 48) (r : Warning) (s : State) : KeepsLine s (s.setWarning w r) :=
  .of_entries (by simp)

theorem judgeLampOf_keepsLine (w : Fin 48) (s : State) : KeepsLine s (judgeLampOf w s) := .of_entries (by simp)

theorem withdrawWarning_keepsLine (w : Fin 48) (s : State) : KeepsLine s (withdrawWarning w s) :=
  .ite (.refl s) ((withdraw_keepsLine _ _).after (.of_entries (by simp)))

theorem offerWarning_keepsLine (w : Fin 48) (kind : AnnKind) (mark : AnnMark) (s : State) :
    KeepsLine s (offerWarning w kind mark s) := by
  unfold offerWarning
  dsimp only
  split
  · exact .refl s
  · exact (offer_keepsLine _ _).after (.of_entries (by simp))

theorem reofferWarning_keepsLine (w : Fin 48) (s : State) : KeepsLine s (reofferWarning w s) :=
  .ite (offerWarning_keepsLine w _ _ s) (.refl s)

theorem enterActiveNew_keepsLine (w : Fin 48) (fromLatched : Bool) (s : State) :
    KeepsLine s (enterActiveNew w fromLatched s) := by
  refine (judgeLampOf_keepsLine w _).after (iteInduction (fun _ => ?_) fun _ => ?_)
  · exact (offerWarning_keepsLine w _ _ _).after (.of_entries (by simp))
  · exact .of_entries (by simp)

theorem goOff_keepsLine (w : Fin 48) (cause : WarnEnd) (s : State) : KeepsLine s (goOff w cause s) :=
  (setWarning_keepsLine w ((s.warning w).restedIn .off) s).trans
    ((withdrawWarning_keepsLine w _).trans (.of_entries (by simp [goOff])))

theorem endAtStrength_keepsLine (w : Fin 48) (s : State) : KeepsLine s (endAtStrength w s) :=
  .ite ((judgeLampOf_keepsLine w _).after
      (.ite ((setWarning_keepsLine w _ s).trans (withdrawWarning_keepsLine w _)) (setWarning_keepsLine w _ s)))
    (goOff_keepsLine w .strength s)

theorem actOnStrength_keepsLine (w : Fin 48) (strength : Nat) (s : State) : KeepsLine s (actOnStrength w strength s) := by
  unfold actOnStrength
  dsimp only
  split
  · exact .refl s
  · exact .refl s
  · exact .ite (.ite (enterActiveNew_keepsLine w false s) (.of_entries (by simp))) (.refl s)
  · exact .ite (.of_entries (by simp)) (.refl s)
  · exact .ite (endAtStrength_keepsLine w s) (.refl s)
  · exact .ite (endAtStrength_keepsLine w s) (.refl s)
  · exact .ite (.ite (.of_entries (by simp)) (enterActiveNew_keepsLine w true s)) (.refl s)

theorem putOff_keepsLine (w : Fin 48) (s : State) : KeepsLine s (putOff w s) := by
  obtain ⟨hleft, hoff⟩ := putOff_cases w s
  by_cases h : (s.warning w).state ∈ [.off, .disabled]
  · rw [hleft h]
    exact .refl s
  · rw [hoff h]
    exact goOff_keepsLine w .reconfigured s

theorem reconfigureWarning_keepsLine (w : Fin 48) (c : WarnSettings) (s : State) :
    KeepsLine s (reconfigureWarning w c s) :=
  (putOff_keepsLine w s).trans (.of_entries (by simp [reconfigureWarning]))

theorem configureCriterion_keepsLine (w : Fin 48) (c : Criterion) (s : State) : KeepsLine s (configureCriterion w c s) :=
  (putOff_keepsLine w s).trans (.of_entries ⟨rfl, rfl⟩)

theorem endCriterion_keepsLine (p : Pass) (s : State) : KeepsLine s (endCriterion p s) :=
  .ite (.of_entries ⟨rfl, rfl⟩) ((actOnStrength_keepsLine p.criterion _ _).after (.of_entries ⟨rfl, rfl⟩))

theorem reminderExpired_keepsLine (w : Fin 48) (s : State) : KeepsLine s (reminderExpired w s) :=
  (setWarning_keepsLine w _ s).trans (offerWarning_keepsLine w _ _ _)

theorem suppress_keepsLine (w : Fin 48) (s : State) : KeepsLine s (suppress w s) := by
  have hset := (setWarning_keepsLine w ((s.warning w).restedIn .suppressed) s).trans (withdrawWarning_keepsLine w _)
  exact (judgeLampOf_keepsLine w _).after (.ite (hset.trans (.of_entries (by simp))) hset)

theorem acknowledgeByHost_keepsLine (w : Fin 48) (s : State) : KeepsLine s (acknowledgeByHost w s).state := by
  have hacknowledged : KeepsLine s (withdrawWarning w (acknowledgeWarning w s)) :=
    (withdrawWarning_keepsLine w _).after (.of_entries (by simp))
  unfold acknowledgeByHost
  split
  · exact hacknowledged
  · exact hacknowledged
  · split
    · exact .refl s
    · exact hacknowledged
  all_goals exact .refl s

theorem clearByHost_keepsLine (w : Fin 48) (s : State) : KeepsLine s (clearByHost w s).state := by
  unfold clearByHost
  split
  · exact goOff_keepsLine w .cleared s
  all_goals exact .refl s

theorem suppressByHost_keepsLine (w : Fin 48) (s : State) : KeepsLine s (suppressByHost w s).state := by
  unfold suppressByHost
  split
  · exact .refl s
  · exact .refl s
  all_goals exact suppress_keepsLine w s

theorem restoreByHost_keepsLine (w : Fin 48) (s : State) : KeepsLine s (restoreByHost w s).state := by
  unfold restoreByHost
  split
  · exact .of_entries (by simp)
  · exact .refl s

theorem applyLampPairs_keepsLine (b : List Byte) (s : State) : KeepsLine s (applyLampPairs b s).1 := by
  fun_induction applyLampPairs b s with
  | case1 index level rest s one more ih =>
    refine KeepsLine.trans ?_ ih
    dsimp only [one, applyLampPair]
    (repeat' split) <;> exact .of_entries (by simp)
  | case2 => exact .refl _

/-! ### The line (R144 to R157) -/

theorem setPriorityMap_keepsLine (m : Table 6 AnnClass) (s : State) : KeepsLine s (setPriorityMap m s) := by
  refine .of_fewer (by simp [setPriorityMap, (sortQueue_perm _).length_eq]) fun h => ?_
  have hsorted : (setPriorityMap m s).sources.Perm s.sources := by
    rw [State.sources_split, State.sources_split]
    simp only [setPriorityMap, State.setAnu_anu, State.setCfg_anu, Option.map_map, Function.comp_def]
    refine List.Perm.append_right _ (((sortQueue_perm _).map _).trans ?_)
    simp [Function.comp_def]
  exact hsorted.nodup_iff.mpr h

theorem configureLine_keepsLine (c : LineSettings) (s : State) : KeepsLine s (configureLine c s) :=
  .of_sources rfl (by simp [configureLine, Shown.rerotated, Function.comp_def])

theorem setRestingPage_keepsLine (page : Option (Fin 64)) (s : State) : KeepsLine s (setRestingPage page s) :=
  .ite (.of_entries (by simp)) (.of_entries ⟨rfl, rfl⟩)

/-- A timer of the shown entry changed. -/
theorem setShown_keepsLine {sh new : Shown} {s : State} (hshown : s.anu.shown = some sh) (h : new.entry = sh.entry) :
    KeepsLine s (s.setShown (some new)) := .of_sources rfl (by simp [hshown, h])

theorem dwellElapsed_keepsLine {sh : Shown} {s : State} (h : s.anu.shown = some sh) : KeepsLine s (dwellElapsed sh s) :=
  (decideLine_keepsLine _).after (setShown_keepsLine h rfl)

theorem showTimeExpired_keepsLine (sh : Shown) (s : State) : KeepsLine s (showTimeExpired sh s) :=
  endShown_keepsLine .expired sh.entry s

/-- The shown entry goes behind the others while the head leaves the queue, so that no more wait than before (R148). -/
theorem rotate_keepsLine (s : State) : KeepsLine s (rotate s) := by
  obtain ⟨hlength, hsources⟩ := gainArrival_held s
  refine KeepsLine.trans (.of_fewer hlength.le (by rw [hsources]; exact id)) ?_
  unfold rotate
  dsimp only
  split
  · exact .refl _
  · next sh hshown =>
    refine .of_fewer (by simp) fun h => ?_
    rw [State.sources_shown hshown] at h
    refine (showHead_sources (by simp)).nodup_iff.mpr ?_
    exact ((((enqueue_perm _ _).map _).trans (List.perm_append_singleton _ _).symm).nodup_iff).mpr h

theorem rotationExpired_keepsLine {sh : Shown} {s : State} (h : s.anu.shown = some sh) :
    KeepsLine s (rotationExpired sh s) :=
  .ite (rotate_keepsLine s) (setShown_keepsLine h rfl)

theorem completeTransfer_keepsLine (x : Transfer) (s : State) : KeepsLine s (completeTransfer x s) :=
  .ite (.of_entries (by simp)) (.of_entries ⟨rfl, rfl⟩)

theorem beginLinkLost_keepsLine (s : State) : KeepsLine s (beginLinkLost s) :=
  (forEach_keepsLine (fun h t => withdraw_keepsLine (.host h) t) _).after (.of_entries (by simp))

/-! ### The quantities and the scan -/

theorem writeEntry_keepsLine (q : Fin 48) (e : Quantity) (s : State) : KeepsLine s (writeEntry q e s) :=
  .ite ((acknowledgeShown_keepsLine _).after (.of_entries (by simp))) (.of_entries (by simp))

theorem handRecovered_keepsLine (q : Fin 48) (before : QStatus) (s : State) : KeepsLine s (handRecovered q before s) :=
  .of_entries (by simp)

theorem applyPair_keepsLine (first : Byte) (v : Int) (s : State) : KeepsLine s (applyPair first v s).1 := by
  unfold applyPair
  split
  · exact .refl s
  · split
    · exact .ite (.of_entries (by simp)) ((writeEntry_keepsLine _ _ s).trans (handRecovered_keepsLine _ _ _))
    all_goals exact .refl s

theorem applyPairs_keepsLine (b : List Byte) (s : State) : KeepsLine s (applyPairs b s).1 := by
  fun_induction applyPairs b s with
  | case1 first hi lo rest s one more ih => exact (applyPair_keepsLine first _ s).trans ih
  | case2 => exact .refl _

theorem deliverInLimit_keepsLine (q : Fin 48) (f : ScanFields) (filtered : Nat) (s : State) :
    KeepsLine s (deliverInLimit q f filtered s) := by
  have hwritten : ∀ e before, KeepsLine s (handRecovered q before (writeEntry q e s)) := fun e before =>
    (writeEntry_keepsLine q e s).trans (handRecovered_keepsLine _ _ _)
  unfold deliverInLimit
  dsimp only
  split
  · exact writeEntry_keepsLine _ _ s
  · exact writeEntry_keepsLine _ _ s
  · exact hwritten _ _
  · exact .ite (hwritten _ _) (.of_entries (by simp))

theorem deliver_keepsLine (input : Fin 16) (raw filtered : Nat) (q : Fin 48) (s : State) :
    KeepsLine s (deliver input raw filtered q s) := by
  unfold deliver
  split
  · exact .ite (.ite (.of_entries (by simp)) (.ite (.of_entries (by simp)) (deliverInLimit_keepsLine q _ filtered s)))
      (.refl s)
  all_goals exact .refl s

theorem sampleSwitch_keepsLine (levels : BitVec 8) (q : Fin 48) (s : State) : KeepsLine s (sampleSwitch levels q s) := by
  unfold sampleSwitch
  split
  · exact .ite (writeEntry_keepsLine _ _ s) (.of_entries (by simp))
  all_goals exact .refl s

theorem completeConversion_keepsLine (f : Flight) (raw : Nat) (s : State) : KeepsLine s (completeConversion f raw s) := by
  unfold completeConversion
  split
  · exact .of_entries (by simp)
  · next e _ =>
    have htaken : KeepsLine s (takeResult f.position e raw s) :=
      (forEach_keepsLine (fun q t => deliver_keepsLine _ _ _ q t) _).after (.of_entries (by simp))
    exact htaken.trans (.of_entries (by simp))

/-! ### Duty -/

theorem setTrack_keepsLine (s : State) (i : Fin 2) (k : Track) (r : TrackRecord) : KeepsLine s (s.setTrack i k r) :=
  .of_entries (by simp)

theorem handStage_keepsLine (i : Fin 2) (k : Track) (old new : Stage) (s : State) :
    KeepsLine s (handStage i k old new s) := .of_entries (by simp)

theorem offerTrack_keepsLine (i : Fin 2) (k : Track) (s : State) : KeepsLine s (offerTrack i k s) := by
  unfold offerTrack
  refine .ite (.refl s) ?_
  split
  · exact .refl s
  · exact (setTrack_keepsLine s i k _).trans (offer_keepsLine _ _)

theorem withdrawTrack_keepsLine (i : Fin 2) (k : Track) (s : State) : KeepsLine s (withdrawTrack i k s) :=
  .ite ((setTrack_keepsLine s i k _).trans (withdraw_keepsLine _ _)) (.refl s)

theorem recomputeTrack_keepsLine (i : Fin 2) (k : Track) (s : State) : KeepsLine s (recomputeTrack i k s) := by
  have hlowered : ∀ stage acknowledged, KeepsLine s ((withdrawTrack i k s).setStage i k stage acknowledged) := fun _ _ =>
    (withdrawTrack_keepsLine i k s).trans (setTrack_keepsLine _ i k _)
  exact .ite (.refl s) (.ite ((hlowered _ _).trans ((offerTrack_keepsLine i k _).trans (handStage_keepsLine i k _ _ _)))
    ((hlowered _ _).trans (handStage_keepsLine i k _ _ _)))

theorem recomputeStages_keepsLine (i : Fin 2) (s : State) : KeepsLine s (recomputeStages i s) :=
  (recomputeTrack_keepsLine i .continuous s).trans
    ((recomputeTrack_keepsLine i .daily _).trans (recomputeTrack_keepsLine i .weekly _))

theorem insertTrack_keepsLine (i : Fin 2) (k : Track) (s : State) : KeepsLine s (insertTrack i k s) := by
  unfold insertTrack
  dsimp only
  split
  · exact .refl s
  · exact (setTrack_keepsLine s i k _).trans (handStage_keepsLine i k _ _ _)
  all_goals exact (setTrack_keepsLine s i k _).trans ((offerTrack_keepsLine i k _).trans (handStage_keepsLine i k _ _ _))

theorem reofferTrack_keepsLine (i : Fin 2) (k : Track) (s : State) : KeepsLine s (reofferTrack i k s) :=
  .ite (offerTrack_keepsLine i k s) (.refl s)

theorem reofferSlot_keepsLine (i : Fin 2) (s : State) : KeepsLine s (reofferSlot i s) :=
  (reofferTrack_keepsLine i .continuous s).trans
    ((reofferTrack_keepsLine i .daily _).trans (reofferTrack_keepsLine i .weekly _))

theorem writeDerived_keepsLine (i : Fin 2) (s : State) : KeepsLine s (writeDerived i s) :=
  (writeEntry_keepsLine _ _ s).trans (writeEntry_keepsLine _ _ _)

theorem account_keepsLine (i : Fin 2) (s : State) : KeepsLine s (account i s) := by
  have hcounted : KeepsLine s
      (recomputeStages i (weekStart i (dayStart i (s.setSlot i ((s.slot i).minute (s.limits i)))))) :=
    (recomputeStages_keepsLine i _).after (.of_entries (by simp))
  exact .ite ((writeDerived_keepsLine i _).after (.ite (hcounted.trans (.of_entries (by simp))) hcounted)) (.refl s)

theorem minuteExpired_keepsLine (due : Nat) (slot2First : Bool) (s : State) :
    KeepsLine s (minuteExpired due slot2First s) := by
  have hclock : KeepsLine s
      (s.setDtu { s.dtu with clock := gain 4294967295 s.dtu.clock, minuteDue := due + Config.minutes 1 }) :=
    .of_entries ⟨rfl, rfl⟩
  exact .ite (hclock.trans ((account_keepsLine 1 _).trans (account_keepsLine 0 _)))
    (hclock.trans ((account_keepsLine 0 _).trans (account_keepsLine 1 _)))

theorem dutyReconfigured_keepsLine (i : Fin 2) (s : State) : KeepsLine s (dutyReconfigured i s) :=
  .ite (((recomputeStages_keepsLine i _).trans (writeDerived_keepsLine i _)).after (.of_entries (by simp))) (.refl s)

theorem configureDuty_keepsLine (c : DutySettings) (s : State) : KeepsLine s (configureDuty c s) :=
  ((dutyReconfigured_keepsLine 0 _).trans (dutyReconfigured_keepsLine 1 _)).after (.of_entries ⟨rfl, rfl⟩)

theorem insertCard_keepsLine (i : Fin 2) (token : BitVec 32) (activity : Activity) (c : Summary) (s : State) :
    KeepsLine s (insertCard i token activity c s) :=
  ((insertTrack_keepsLine i .continuous _).trans ((insertTrack_keepsLine i .daily _).trans
    ((insertTrack_keepsLine i .weekly _).trans (writeDerived_keepsLine i _)))).after (.of_entries (by simp))

theorem removeCard_keepsLine (i : Fin 2) (s : State) : KeepsLine s (removeCard i s) := by
  have hwithdrawn : KeepsLine s (withdrawTracks i (s.setSlot i { s.slot i with pending := none, superseded := false })) :=
    ((withdraw_keepsLine _ _).trans ((withdraw_keepsLine _ _).trans (withdraw_keepsLine _ _))).after (.of_entries (by simp))
  rw [removeCard_eq, writeAbsent_eq, writeAbsent_eq]
  exact hwithdrawn.trans (.of_entries (by simp))

theorem drivingNotice_keepsLine (a : Activity) (s : State) : KeepsLine s (drivingNotice a s) := .of_entries (by simp)

theorem storeActivity_keepsLine (i : Fin 2) (a : Activity) (s : State) : KeepsLine s (storeActivity i a s).state := by
  unfold storeActivity
  split <;> exact .of_entries (by simp)

/-! ### The power states and the resets -/

/-- With no entry held there is nothing to keep. -/
theorem KeepsLine.of_empty {s t : State} (hqueue : t.anu.queue = []) (hshown : t.anu.shown = none) : KeepsLine s t :=
  fun _ => by simp [State.announcementsKept, Annunciation.entries, hqueue, hshown]

theorem enterProving_keepsLine (old : Nat) (cause : PowerCause) (s : State) : KeepsLine s (enterProving old cause s) := by
  obtain ⟨-, -, hqueue, hshown, -⟩ := beforeOffers_anu old cause s
  have hoffers (t : State) : KeepsLine t (provingOffers t) :=
    (forEach_keepsLine reofferWarning_keepsLine t).trans (forEach_keepsLine reofferSlot_keepsLine _)
  rw [enterProving_stages]
  exact KeepsLine.trans (.of_entries ⟨hqueue, hshown⟩) ((hoffers _).trans (.of_entries (by simp [settleLink_frame])))

theorem finishProof_keepsLine (s : State) : KeepsLine s (finishProof s) := by
  have hdecided : KeepsLine s (decideLine ((handPowerState PowerState.proving.number .proofDone
      (s.setPower .run .stopped)).setAnu { s.anu with proofHold := false })) :=
    (decideLine_keepsLine _).after (.of_entries (by simp))
  refine hdecided.trans (.of_entries ?_)
  simp [finishProof, lineAtRun]

/-- In SLEEP no entry is held (R157). -/
theorem enterSleep_keepsLine (s : State) : KeepsLine s (enterSleep s) :=
  .of_empty (by simp [enterSleep, lineAtSleep]) (by simp [enterSleep, lineAtSleep])

theorem judgePower_keepsLine (s : State) : KeepsLine s (judgePower s) := by
  unfold judgePower
  split
  · exact .ite (finishProof_keepsLine s) (.refl s)
  · exact .ite (enterSleep_keepsLine s) (.refl s)
  all_goals exact .refl s

theorem enterParkingState_keepsLine (s : State) : KeepsLine s (enterParkingState s) :=
  (judgePower_keepsLine _).after (.of_entries (by simp))

theorem sampleKey_keepsLine (level : Bool) (due : Nat) (s : State) : KeepsLine s (sampleKey level due s) := by
  have hedge : ∀ t : State, KeepsLine t (keyOnEdge t) := by
    intro t
    unfold keyOnEdge
    split
    · exact enterProving_keepsLine _ .keyOn t
    · exact .of_entries (by simp)
    all_goals exact .refl t
  exact .ite (.ite ((hedge _).after (.of_entries ⟨rfl, rfl⟩)) (.of_entries ⟨rfl, rfl⟩)) (.of_entries ⟨rfl, rfl⟩)

theorem choosePower_keepsLine (cause : PowerCause) (s : State) : KeepsLine s (choosePower cause s) :=
  .ite (enterProving_keepsLine _ cause s) (.of_entries (by simp))

theorem powerOn_keepsLine (keyOn : Bool) (s : State) : KeepsLine s (powerOn keyOn s) :=
  (choosePower_keepsLine .powerOn _).after (.of_empty rfl rfl)

theorem writeDerivedIfPresent_keepsLine (i : Fin 2) (s : State) : KeepsLine s (writeDerivedIfPresent i s) :=
  .ite (writeDerived_keepsLine i s) (.refl s)

theorem linkReset_keepsLine (keyOn : Bool) (s : State) : KeepsLine s (linkReset keyOn s) :=
  KeepsLine.trans (t := linkResetBlocks keyOn s) (.of_empty rfl rfl)
    ((writeDerivedIfPresent_keepsLine 0 _).trans ((writeDerivedIfPresent_keepsLine 1 _).trans
      (choosePower_keepsLine .linkReset _)))

theorem replySent_keepsLine (keyOn : Bool) (r : Reply) (s : State) : KeepsLine s (replySent keyOn r s) :=
  .ite (linkReset_keepsLine keyOn s) (.of_entries ⟨rfl, rfl⟩)

theorem loseSupply_keepsLine (s : State) : KeepsLine s (loseSupply s) := .of_empty rfl rfl

end Sys2Proof.Machine
end

section
/-! PROOFS. O56: every request, every event and the passing of time keep the announcements as R138 has them. -/
namespace Sys2Proof.Machine

/-! ### Requests -/

theorem linkKeeps_announcements : LinkKeeps State.announcementsKept where
  pending s _ := KeepsLine.of_entries (s := s) ⟨rfl, rfl⟩
  await _ s := KeepsLine.of_entries (s := s) (by simp)
  short s := KeepsLine.of_entries (s := s) (by simp)
  mismatch _ s := KeepsLine.of_entries (s := s) (by simp)
  good s := KeepsLine.of_entries (s := s) (by simp)
  overrun _ _ s := KeepsLine.of_entries (s := s) (by simp)
  reply _ _ _ _ s := KeepsLine.of_entries (s := s) (by simp)

/-- A request whose rule keeps the announcements, whatever it reads. -/
def Request.KeepsEntries (r : Request) : Prop := ∀ b s, KeepsLine s (r.run b s).state

section
variable {r : Request} {α : Type} {read : List Byte → State → Option α} {act : List Byte → State → α → Answer}

theorem Request.KeepsEntries.of_reading (hrun : ∀ b s, r.run b s = reading (read b s) (act b s) s)
    (hact : ∀ b s x, KeepsLine s (act b s x).state) : r.KeepsEntries := fun b s => by
  rw [hrun]
  exact reading_keeps (KeepsLine s) _ _ s (.refl s) fun x _ => hact b s x

theorem Request.KeepsEntries.of_configuring (hrun : ∀ b s, r.run b s = configuring (read b s) (act b s) s)
    (hact : ∀ b s x, KeepsLine s (act b s x).state) : r.KeepsEntries := fun b s => by
  rw [hrun]
  exact configuring_keeps (KeepsLine s) _ _ s (.refl s) fun x _ => hact b s x

end

theorem linkRequests_keepEntries : ∀ r ∈ [fetchReportsRequest, statusRequest, identifyRequest, setRouteRequest,
    configureLinkRequest, resetRequest], r.KeepsEntries := by
  simp only [List.forall_mem_cons, List.not_mem_nil, false_imp_iff, implies_true, and_true]
  exact ⟨.of_reading (fun _ _ => rfl) fun b s n => .of_entries ⟨rfl, rfl⟩, fun _ s => .refl s,
    fun _ s => .refl s, .of_configuring (fun _ _ => rfl) fun b s x => .of_entries ⟨rfl, rfl⟩,
    .of_configuring (fun _ _ => rfl) fun b s c => .of_entries ⟨rfl, rfl⟩, fun _ s => .refl s⟩

theorem powerRequests_keepEntries : ∀ r ∈ [sleepRequest, wakeRequest, configurePowerRequest], r.KeepsEntries := by
  simp only [List.forall_mem_cons, List.not_mem_nil, false_imp_iff, implies_true, and_true]
  refine ⟨fun b s => ?_, fun b s => ?_, .of_configuring (fun _ _ => rfl) fun b s c => .of_entries ⟨rfl, rfl⟩⟩
  · simp only [sleepRequest]
    split
    · exact .refl s
    · exact .refl s
    · split
      · exact .refl s
      · exact enterParkingState_keepsLine s
    · exact .refl s
  · simp only [wakeRequest]
    split
    · exact enterProving_keepsLine _ .wake s
    · exact .of_entries (by simp)
    all_goals exact .refl s

theorem storeRequests_keepEntries : ∀ r ∈ [saveConfigurationRequest, lockCalibrationRequest, readConfigurationRequest],
    r.KeepsEntries := by
  simp only [List.forall_mem_cons, List.not_mem_nil, false_imp_iff, implies_true, and_true]
  refine ⟨fun b s => ?_, fun b s => ?_, .of_reading (fun _ _ => rfl) fun b s x => .refl s⟩
  · simp only [saveConfigurationRequest]
    split
    · exact .refl s
    · exact .of_entries (by simp)
  · simp only [lockCalibrationRequest]
    (repeat' split)
    · exact .refl s
    · exact .refl s
    · exact .of_entries (by simp)

theorem quantityRequests_keepEntries : ∀ r ∈ [configureQuantityRequest, setQuantitiesRequest, readQuantitiesRequest],
    r.KeepsEntries := by
  simp only [List.forall_mem_cons, List.not_mem_nil, false_imp_iff, implies_true, and_true]
  refine ⟨.of_configuring (fun _ _ => rfl) fun b s x => ?_, applyPairs_keepsLine,
    .of_reading (fun _ _ => rfl) fun b s x => .refl s⟩
  dsimp only
  split
  · exact .refl s
  · exact .of_entries (by simp)

theorem scanRequests_keepEntries : ∀ r ∈ [configureScanRequest, scanStartRequest, scanStopRequest, scanOnceRequest,
    readScanRequest], r.KeepsEntries := by
  simp only [List.forall_mem_cons, List.not_mem_nil, false_imp_iff, implies_true, and_true]
  refine ⟨fun b s => ?_, fun b s => ?_, fun b s => ?_, fun b s => ?_, fun _ s => .refl s⟩
  · simp only [configureScanRequest]
    split
    · exact .refl s
    · split
      · exact .refl s
      · refine reading_keeps (KeepsLine s) _ _ s (.refl s) fun c _ => ?_
        split <;> exact .of_entries (by simp)
  · simp only [scanStartRequest]
    (repeat' split) <;> exact .of_entries (by simp)
  · simp only [scanStopRequest]
    split <;> exact .of_entries (by simp)
  · simp only [scanOnceRequest]
    (repeat' split) <;> exact .of_entries (by simp)

theorem gaugeRequests_keepEntries : ∀ r ∈ [configureGaugeRequest, homeGaugeRequest, parkGaugeRequest,
    releaseGaugeRequest, positionGaugeRequest, readGaugeRequest], r.KeepsEntries := by
  simp only [List.forall_mem_cons, List.not_mem_nil, false_imp_iff, implies_true, and_true]
  refine ⟨.of_configuring (fun _ _ => rfl) fun b s x => ?_,
    .of_reading (fun _ _ => rfl) fun b s g => (judgePower_keepsLine _).after (.of_entries (by simp)),
    .of_reading (fun _ _ => rfl) fun b s g => ?_, fun b s => ?_,
    .of_reading (fun _ _ => rfl) fun b s x => ?_, .of_reading (fun _ _ => rfl) fun b s g => .refl s⟩
  · dsimp only
    split
    · exact .refl s
    · split
      · exact .refl s
      · rw [configuredGauge_state]
        exact .of_entries (by simp)
  · unfold parkGauge
    split
    · exact .refl s
    · split
      · exact .refl s
      · exact (judgePower_keepsLine _).after (.of_entries (by simp))
  · simp only [releaseGaugeRequest]
    split
    · exact .refl s
    · refine reading_keeps (KeepsLine s) _ _ s (.refl s) fun g _ => ?_
      split <;> exact .of_entries (by simp)
  · dsimp only
    split
    · exact .refl s
    · exact (judgePower_keepsLine _).after (.of_entries (by simp))

theorem evaluationRequests_keepEntries : ∀ r ∈ [configureShapeRequest, configureCriterionRequest,
    configureEvaluationRequest, readStrengthRequest], r.KeepsEntries := by
  simp only [List.forall_mem_cons, List.not_mem_nil, false_imp_iff, implies_true, and_true]
  exact ⟨.of_configuring (fun _ _ => rfl) fun b s x => .of_entries ⟨rfl, rfl⟩,
    .of_configuring (fun _ _ => rfl) fun b s x => configureCriterion_keepsLine x.1 x.2 s,
    .of_configuring (fun _ _ => rfl) fun b s n => .of_entries ⟨rfl, rfl⟩,
    .of_reading (fun _ _ => rfl) fun b s w => .refl s⟩

theorem warningRequests_keepEntries : ∀ r ∈ [configureWarningRequest, acknowledgeWarningRequest, clearWarningRequest,
    suppressWarningRequest, restoreWarningRequest, readWarningRequest, configureLampRequest, configureDimmerRequest,
    setLampsRequest, readLampsRequest], r.KeepsEntries := by
  simp only [List.forall_mem_cons, List.not_mem_nil, false_imp_iff, implies_true, and_true]
  exact ⟨.of_configuring (fun _ _ => rfl) fun b s x => reconfigureWarning_keepsLine x.1 x.2 s,
    .of_reading (fun _ _ => rfl) fun b s w => acknowledgeByHost_keepsLine w s,
    .of_reading (fun _ _ => rfl) fun b s w => clearByHost_keepsLine w s,
    .of_reading (fun _ _ => rfl) fun b s w => suppressByHost_keepsLine w s,
    .of_reading (fun _ _ => rfl) fun b s w => restoreByHost_keepsLine w s,
    .of_reading (fun _ _ => rfl) fun b s w => .refl s,
    .of_configuring (fun _ _ => rfl) fun b s x => .of_entries (by simp),
    .of_configuring (fun _ _ => rfl) fun b s q => .of_entries ⟨rfl, rfl⟩, applyLampPairs_keepsLine, fun _ s => .refl s⟩

theorem dutyRequests_keepEntries : ∀ r ∈ [configureDutyRequest, stageLimitsRequest, dutyActivityRequest, cardInRequest,
    cardOutRequest, readDutyRequest], r.KeepsEntries := by
  simp only [List.forall_mem_cons, List.not_mem_nil, false_imp_iff, implies_true, and_true]
  refine ⟨.of_configuring (fun _ _ => rfl) fun b s c => configureDuty_keepsLine c s,
    .of_reading (fun _ _ => rfl) fun b s x => .of_entries (by simp),
    .of_reading (fun _ _ => rfl) fun b s x => ?_, .of_reading (fun _ _ => rfl) fun b s x => ?_,
    .of_reading (fun _ _ => rfl) fun b s i => ?_, .of_reading (fun _ _ => rfl) fun b s i => .refl s⟩
  · dsimp only
    (repeat' split)
    · exact .refl s
    · exact .refl s
    · exact storeActivity_keepsLine x.1 x.2 s
  · dsimp only
    (repeat' split)
    · exact .refl s
    · exact .refl s
    · exact .refl s
    · exact (insertCard_keepsLine x.1 _ x.2 _ s).trans (drivingNotice_keepsLine x.2 _)
  · split
    · exact .refl s
    · exact removeCard_keepsLine i s

theorem lineRequests_keepEntries : ∀ r ∈ [configureMessageRequest, configureLineRequest, configureDutyMessagesRequest,
    setPriorityMapRequest, holdRequest, releaseRequest, acknowledgeShownRequest, announceRequest, withdrawRequest,
    setRestingPageRequest, chimeClickRequest, readLineRequest], r.KeepsEntries := by
  simp only [List.forall_mem_cons, List.not_mem_nil, false_imp_iff, implies_true, and_true]
  refine ⟨.of_configuring (fun _ _ => rfl) fun b s x => .ite (.of_entries (by simp)) (.of_entries ⟨rfl, rfl⟩),
    .of_configuring (fun _ _ => rfl) fun b s c => configureLine_keepsLine c s,
    .of_configuring (fun _ _ => rfl) fun b s c => .of_entries ⟨rfl, rfl⟩,
    .of_configuring (fun _ _ => rfl) fun b s m => ?_, fun b s => .of_entries ⟨rfl, rfl⟩, fun b s => ?_, fun b s => ?_,
    .of_reading (fun _ _ => rfl) fun b s x => offer_keepsLine _ s,
    .of_reading (fun _ _ => rfl) fun b s h => withdraw_keepsLine _ s,
    .of_configuring (fun _ _ => rfl) fun b s p => setRestingPage_keepsLine p s, fun b s => ?_, fun _ s => .refl s⟩
  · split
    · exact setPriorityMap_keepsLine m s
    · exact .refl s
  · simp only [releaseRequest]
    split
    · exact (decideLine_keepsLine _).after (.of_entries ⟨rfl, rfl⟩)
    · exact .refl s
  · simp only [acknowledgeShownRequest]
    split
    · exact .refl s
    · exact acknowledgeShown_keepsLine s
  · simp only [chimeClickRequest]
    split <;> exact .of_entries ⟨rfl, rfl⟩

theorem requests_keepEntries : ∀ r ∈ requests, r.Keeps State.announcementsKept := by
  have hall : ∀ r ∈ requests, r.KeepsEntries := by
    simp only [requests, List.forall_mem_append]
    exact ⟨⟨⟨⟨⟨⟨⟨⟨⟨linkRequests_keepEntries, powerRequests_keepEntries⟩, storeRequests_keepEntries⟩,
      quantityRequests_keepEntries⟩, scanRequests_keepEntries⟩, gaugeRequests_keepEntries⟩,
      evaluationRequests_keepEntries⟩, warningRequests_keepEntries⟩, dutyRequests_keepEntries⟩, lineRequests_keepEntries⟩
  exact fun r hr b s => hall r hr b s

/-! ### Events and time -/

/-- What follows an expiry at its own time (log entry 3). -/
theorem reached_keepsLine {s u : State} (due : Nat) (h : KeepsLine (s.reach due) u) : KeepsLine s u :=
  h.after (.of_entries ⟨rfl, rfl⟩)

theorem onTimer_keepsLine {timer : Option Nat} {f : State → State} {s : State}
    (hf : ∀ due, KeepsLine (s.reach due) (f (s.reach due))) : KeepsLine s (onTimer timer f s) :=
  onTimer_keeps (P := KeepsLine s) (.refl s) fun due _ => reached_keepsLine due (hf due)

theorem events_keepEntries (c : Instr) (s t : State) (hc : frame c = none) (h : s.announcementsKept)
    (hstep : exec c s = .next t) : t.announcementsKept := by
  cases c <;> cases hc
  case powerOn keyOn =>
    cases hstep
    exact powerOn_keepsLine keyOn s h
  all_goals
    simp only [exec, execReplySent, execBadLengthByte, execFrameCheckMismatch, execFrameByteTimeout, execLinkOverrun,
      execUnknownRequest, execSaveEnd, execRefreshExpiry, execSwitchSample, execScanIntervalExpiry,
      execConversionCompletion, execGaugeStep, execHomingStep, execGaugeUpdate, execCoilOpen, execPassStart,
      execCriterionEvaluation, execRaiseDelayExpiry, execReminderExpiry, execFlashHalfChange, execLampSample,
      execMinuteExpiry, execDwellExpiry, execShowTimeExpiry, execRotationExpiry, execLineRefresh, execTransferCompletion,
      execOneShotEnd, execClickEnd, execRepeatPeriod, execKeySample, execProofTimerExpiry, execProofDone, execEntryToSleep,
      execSilenceExpiry, execByteArrival, execLossOfSupply] at hstep
    refine event_keeps (fun h => ?_) h hstep
    clear hstep
  case byteArrival b => exact receiveByte_keeps linkKeeps_announcements requests_keepEntries b s h
  case unknownRequest tag kind =>
    split
    · exact h
    · exact takeUnknown_keeps linkKeeps_announcements tag kind s h
  all_goals refine (show KeepsLine s _ from ?_) h
  case replySent keyOn =>
    split
    · exact .refl s
    · exact replySent_keepsLine keyOn _ s
  case lossOfSupply => exact loseSupply_keepsLine s
  case minuteExpiry slot2First => exact reached_keepsLine _ (minuteExpired_keepsLine _ _ _)
  case switchSample levels => exact (forEach_keepsLine (sampleSwitch_keepsLine levels) _).after (.of_entries (by simp))
  case conversionCompletion raw =>
    split
    · exact .refl s
    · exact reached_keepsLine _ (completeConversion_keepsLine _ _ _)
  case gaugeStep =>
    split
    · exact (judgePower_keepsLine _).after (.of_entries (by simp))
    · exact .refl s
  case homingStep | gaugeUpdate =>
    split
    · exact .refl s
    · exact (judgePower_keepsLine _).after (.of_entries (by simp))
  case coilOpen => exact (judgePower_keepsLine _).after (.of_entries (by simp))
  case criterionEvaluation =>
    split
    · exact .refl s
    · exact reached_keepsLine _ (endCriterion_keepsLine _ _)
  case raiseDelayExpiry w => exact onTimer_keepsLine fun due => enterActiveNew_keepsLine w false _
  case reminderExpiry w => exact onTimer_keepsLine fun due => reminderExpired_keepsLine w _
  case silenceExpiry => exact onTimer_keepsLine fun due => beginLinkLost_keepsLine _
  case refreshExpiry | frameByteTimeout => exact onTimer_keepsLine fun due => .of_entries (by simp)
  case dwellExpiry =>
    split
    · exact .refl s
    · next sh hshown => exact onTimer_keepsLine fun due => dwellElapsed_keepsLine (s := s.reach due) hshown
  case showTimeExpiry =>
    split
    · exact .refl s
    · exact onTimer_keepsLine fun due => showTimeExpired_keepsLine _ _
  case rotationExpiry =>
    split
    · exact .refl s
    · next sh hshown => exact onTimer_keepsLine fun due => rotationExpired_keepsLine (s := s.reach due) hshown
  case transferCompletion =>
    split
    · exact .refl s
    · exact reached_keepsLine _ (completeTransfer_keepsLine _ _)
  case oneShotEnd | clickEnd | repeatPeriod =>
    split
    · exact .of_entries ⟨rfl, rfl⟩
    all_goals exact .refl s
  case keySample level => exact reached_keepsLine _ (sampleKey_keepsLine level _ _)
  case proofTimerExpiry =>
    split
    · exact (judgePower_keepsLine _).after (.of_entries ⟨rfl, rfl⟩)
    all_goals exact .refl s
  case proofDone | entryToSleep => exact .ite (judgePower_keepsLine s) (.refl s)
  all_goals (repeat' split) <;> exact .of_entries (by simp)

/-- Settles O56: the operations of the Annunciation Unit keep the entries within R138, and the rest of the part holds and
ends entries through them alone. -/
theorem stepKeepsTheAnnouncements : Obligations.StepKeepsTheAnnouncements :=
  stepKeeps_of State.announcementsKept linkKeeps_announcements (fun s => KeepsLine.of_entries (s := s) (by simp))
    requests_keepEntries events_keepEntries

end Sys2Proof.Machine
end

section
/-! PROOFS. O49: CONFIGURE MESSAGE, CONFIGURE LINE, SET RESTING PAGE and SET PRIORITY MAP (R134, R136, R143, R151). -/
namespace Sys2Proof.Machine

/-! ### The line behind a request -/

@[simp] theorem beginReply_lineContent (tag kind : Byte) (status : Status) (body : List Byte) (s : State) :
    (beginReply tag kind status body s).lineContent = s.lineContent :=
  lineContent_congr _ _ (by simp) (by simp) (by simp) (by simp) (by simp) (by simp)

/-- A configuration request that fits and can be read is answered OK, with what holds of its change. -/
theorem configuring_answers {c : Instr} {r : Request} {tag : Byte} {body : List Byte} {s t : State} {α : Type}
    {read : Option α} {act : α → Answer} {x : α} {P : State → Prop} (h : s.configurable)
    (hexec : exec c s = event (r.take tag body) s) (hfits : r.fits body = true)
    (hrun : r.run body (goodFrame s) = configuring read act (goodFrame s)) (hread : read = some x)
    (hact : act x = Answer.ok t) (hP : P (beginReply tag r.kind .ok [] t)) : Answers c s tag r.kind .ok [] P :=
  ⟨_, configuring_next h hexec hfits hrun hread hact, by simp, hP⟩

/-! ### CONFIGURE MESSAGE (R134) -/

theorem configureMessage_answers {tag : Byte} {body : List Byte} {s : State} {m : Fin 64} {c : Message} (h : s.configurable)
    (hfits : messageBodyFits body = true) (hread : readMessage body = some (m, c)) :
    Answers (.configureMessage tag body) s tag 0x48#8 .ok [] fun t =>
      t.cfg = { s.cfg with messages := s.cfg.messages.set m c } ∧
      (s.onLine ≠ some m → s.sameBut t [.cfg, .lp]) ∧
      (s.onLine = some m → s.sameBut t [.cfg, .lp, .anu] ∧ t.anu.content = t.lineContent ∧
        t.anu.shown = s.anu.shown ∧ t.anu.queue = s.anu.queue ∧ t.anu.sounder = s.anu.sounder) := by
  obtain ⟨u, hu⟩ : ∃ u, u = (goodFrame s).setCfg
      { (goodFrame s).cfg with messages := (goodFrame s).cfg.messages.set m c } := ⟨_, rfl⟩
  have hline : u.onLine = s.onLine := by
    rw [← (goodFrame_reads s).2.2.2.2.2.2.2.2.2.2.2.2.1, hu]
    rfl
  refine configuring_answers (r := configureMessageRequest) (t := renderIfOnLine m u) h rfl hfits rfl hread
    (by simp [hu]) ⟨by simp [hu], fun hoff => ?_, fun hon => ?_⟩
  · rw [renderIfOnLine, hline, if_neg hoff, State.sameBut_parts]
    simp [hu]
  · rw [renderIfOnLine, hline, if_pos hon]
    refine ⟨by rw [State.sameBut_parts]; simp [hu], ?_, ?_⟩
    · simpa using renderLine_content u
    · simp [hu]

theorem readMessage_out {body : List Byte} (h : readMessage body = none ∨ 64 ≤ byteAt body 0) :
    readMessage body = none := by
  rcases h with h | h
  · exact h
  · rw [readMessage, readIndex_out h]
    rfl

/-! ### CONFIGURE LINE (R136) -/

theorem configureLine_answers {tag : Byte} {body : List Byte} {s : State} {c : LineSettings} (h : s.configurable)
    (hfits : body.length = 9) (hread : readLineSettings body = some c) :
    Answers (.configureLine tag body) s tag 0x49#8 .ok [] fun t =>
      t.cfg = { s.cfg with line := c } ∧ s.sameBut t [.cfg, .lp, .anu] ∧
      t.anu = { s.anu with shown := s.anu.shown.map fun sh => { sh with
        rotationDue := if c.rotation = 0 then none else some (s.now + c.rotation * 1000000) } } := by
  refine configuring_answers (r := configureLineRequest) h rfl (exactly_length hfits) rfl hread rfl
    ⟨by simp [configureLine], by rw [State.sameBut_parts]; simp, ?_⟩
  simp [configureLine, Shown.rerotated, Config.sec]

/-- CONFIGURE LINE's range: the dwells, the show time, the rotation interval and the acknowledge quantity (R136). -/
theorem readLineSettings_out {body : List Byte} (h : (∃ i, i < 6 ∧ 100 < byteAt body i) ∨ byteAt body 6 = 0 ∨
    25 < byteAt body 6 ∨ byteAt body 7 = 1 ∨ 60 < byteAt body 7 ∨ (48 ≤ byteAt body 8 ∧ byteAt body 8 ≤ 254)) :
    readLineSettings body = none := by
  have hdwell {i : Nat} (hi : 100 < byteAt body i) : readSteps 100 0 10000 (byteAt body i) = none := by
    rw [readSteps, readWhen, if_neg (by simp; omega)]
  have hrotation (hout : byteAt body 7 = 1 ∨ 60 < byteAt body 7) : readStepsOrZero 1 2 60 (byteAt body 7) = none := by
    rw [readStepsOrZero, if_neg (by omega), readSteps, readWhen, if_neg (by simp; omega)]
  unfold readLineSettings
  rcases h with ⟨i, hi, hout⟩ | h | h | h | h | ⟨hq, hlast⟩
  · interval_cases i <;> simp [hdwell hout]
  · simp [readRange_out (least := 1) (most := 25) (k := byteAt body 6) (by omega)]
  · simp [readRange_out (least := 1) (most := 25) (.inr h)]
  · simp [hrotation (.inl h)]
  · simp [hrotation (.inr h)]
  · simp [readOptIndex_out hq (by omega)]

/-! ### SET RESTING PAGE (R151) -/

theorem setRestingPage_answers {tag b : Byte} {s : State} {page : Option (Fin 64)} (h : s.configurable)
    (hread : readOptIndex 64 b.toNat = some page) :
    Answers (.setRestingPage tag [b]) s tag 0x51#8 .ok [] fun t =>
      t.cfg = { s.cfg with restingPage := page } ∧ s.sameBut t [.cfg, .lp, .anu] ∧
      t.anu.shown = s.anu.shown ∧ t.anu.queue = s.anu.queue ∧
      (s.anu.shown = none → s.anu.proofHold = false → t.anu.content = t.lineContent) ∧
      (s.anu.shown ≠ none ∨ s.anu.proofHold = true → t.anu = s.anu) := by
  obtain ⟨u, hu⟩ : ∃ u, u = (goodFrame s).setCfg { (goodFrame s).cfg with restingPage := page } := ⟨_, rfl⟩
  have hresting : u.restingOnLine = (s.anu.shown.isNone && !s.anu.proofHold) := by
    simp [hu, State.restingOnLine, h.1.2]
  refine configuring_answers (r := setRestingPageRequest) (t := if u.restingOnLine = true then renderLine u else u) h rfl
    rfl rfl hread (by simp [setRestingPage, hu]) ?_
  rw [hresting]
  split
  · next hon =>
    have hfree : s.anu.shown = none ∧ s.anu.proofHold = false := by simpa using hon
    refine ⟨by simp [hu], by rw [State.sameBut_parts]; simp [hu], by simp [hu], by simp [hu], fun _ _ => ?_, fun hoff => ?_⟩
    · simpa using renderLine_content u
    · simp [hfree] at hoff
  · next hoff =>
    refine ⟨by simp [hu], by rw [State.sameBut_parts]; simp [hu], by simp [hu], by simp [hu], fun hshown hhold => ?_,
      fun _ => by simp [hu]⟩
    simp [hshown, hhold] at hoff

/-! ### SET PRIORITY MAP (R143) -/

theorem readAll_some {α β : Type} {f : α → Option β} {xs : List α} {ys : List β} (h : readAll f xs = some ys) :
    ys.map some = xs.map f := by
  induction xs generalizing ys with
  | nil =>
    obtain rfl : [] = ys := by simpa [readAll] using h
    rfl
  | cons x xs ih =>
    simp only [readAll, Option.bind_eq_bind, Option.bind_eq_some_iff, Option.some.injEq] at h
    obtain ⟨y, hy, rest, hrest, rfl⟩ := h
    rw [List.map_cons, List.map_cons, ih hrest, hy]

/-- SET PRIORITY MAP's range: each of the six classes exactly once (R143). -/
theorem readPriorityMap_out {body : List Byte} (h : (∃ i, i < 6 ∧ 6 ≤ byteAt body i) ∨
    ∃ i j, i < j ∧ j < 6 ∧ byteAt body i = byteAt body j) : readPriorityMap body = none := by
  unfold readPriorityMap
  rcases h with ⟨i, hi, hout⟩ | ⟨i, j, hij, hj, hsame⟩
  · have hnone : readEnum AnnClass.list (byteAt body i) = none := readEnum_out hout
    rw [readAll_none _ _ ⟨i, List.mem_range.mpr hi, hnone⟩]
    rfl
  · cases hread : readAll (fun i => readEnum AnnClass.list (byteAt body i)) (List.range 6) with
    | none => rfl
    | some l =>
      have hbytes := readAll_some hread
      have hlength : l.length = 6 := by simpa using readAll_length _ _ _ hread
      have hget (k : Nat) (hk : k < 6) : l[k]? = readEnum AnnClass.list (byteAt body k) := by
        have := congrArg (·[k]?) hbytes
        simpa [hk, hlength] using this
      have htwice : ¬ l.Nodup := fun hnodup =>
        absurd ((List.getElem?_inj (i := i) (j := j) (by omega) hnodup).mp
          ((hget i (by omega)).trans (by rw [hsame, hget j hj]))) (by omega)
      simp [readWhen, htwice]

theorem readPriorityMap_nodup {body : List Byte} {m : Table 6 AnnClass} (h : readPriorityMap body = some m) :
    m.items.Nodup := by
  simp only [readPriorityMap, Option.bind_eq_bind, Option.bind_eq_some_iff, toTable, readWhen,
    Option.dite_none_right_eq_some, Option.ite_none_right_eq_some, Option.some.injEq, decide_eq_true_eq] at h
  obtain ⟨l, -, _, ⟨_, rfl⟩, hnodup, rfl⟩ := h
  exact hnodup

/-- The level of a class that stands in one place of the priority map alone (R143). -/
theorem State.levelOf_only {s : State} {c : AnnClass} {n : Fin 6} (h : s.cfg.priorityMap.get n = c)
    (honly : ∀ k, s.cfg.priorityMap.get k = c → k = n) : s.levelOf c = n.val + 1 := by
  have hlength := s.cfg.priorityMap.size
  have hplace : s.cfg.priorityMap.items.findIdx (fun y => decide (y = c)) = n.val :=
    (List.findIdx_eq (p := fun y => decide (y = c)) (by omega)).mpr ⟨decide_eq_true h, fun j hj =>
      decide_eq_false fun hsame => absurd (congrArg Fin.val (honly ⟨j, by omega⟩ hsame)) (Nat.ne_of_lt hj)⟩
  rw [State.levelOf, code, hplace]

theorem State.levelOf_place {s : State} {c : AnnClass} {n : Fin 6} (hnodup : s.cfg.priorityMap.items.Nodup)
    (h : s.cfg.priorityMap.get n = c) : s.levelOf c = n.val + 1 :=
  s.levelOf_only h fun _ hk => Fin.ext (hnodup.getElem_inj_iff.mp (hk.trans h.symm))

/-- One entry may stand before another (R138). -/
def Entry.upTo (a b : Entry) : Prop := a.level < b.level ∨ (a.level = b.level ∧ a.arrival ≤ b.arrival)

theorem enqueue_sorted (e : Entry) {q : List Entry} (h : q.Pairwise Entry.upTo) : (enqueue e q).Pairwise Entry.upTo := by
  induction q with
  | nil => exact List.pairwise_singleton _ _
  | cons f rest ih =>
    obtain ⟨hfirst, hrest⟩ := List.pairwise_cons.mp h
    unfold enqueue
    split
    · next hbefore =>
      have hbefore : e.level < f.level ∨ (e.level = f.level ∧ e.arrival < f.arrival) := of_decide_eq_true hbefore
      refine List.pairwise_cons.mpr ⟨fun x hx => ?_, h⟩
      unfold Entry.upTo
      rcases List.mem_cons.mp hx with rfl | hx
      · omega
      · have := hfirst x hx
        unfold Entry.upTo at this
        omega
    · next hafter =>
      have hafter : ¬ (e.level < f.level ∨ (e.level = f.level ∧ e.arrival < f.arrival)) := by
        simpa [Entry.before] using hafter
      refine List.pairwise_cons.mpr ⟨fun x hx => ?_, ih hrest⟩
      rcases (mem_enqueue e x rest).mp hx with rfl | hx
      · unfold Entry.upTo
        omega
      · exact hfirst x hx

theorem sortQueue_sorted (q : List Entry) : (sortQueue q).Pairwise Entry.upTo := by
  induction q with
  | nil => exact List.Pairwise.nil
  | cons e rest ih => exact enqueue_sorted e ih

theorem setPriorityMap_answers {tag : Byte} {body : List Byte} {s : State} {m : Table 6 AnnClass} (h : s.configurable)
    (hfits : body.length = 6) (hread : readPriorityMap body = some m) (hhold : s.anu.hostHold = true) :
    Answers (.setPriorityMap tag body) s tag 0x4B#8 .ok [] fun t =>
      t.cfg = { s.cfg with priorityMap := m } ∧ s.sameBut t [.cfg, .lp, .anu] ∧
      ∃ relevel : Entry → Entry, (∀ e n, m.get n = e.cls → relevel e = { e with level := n.val + 1 }) ∧
        t.anu.queue.Perm (s.anu.queue.map relevel) ∧
        t.anu.queue.Pairwise (fun a b => a.level < b.level ∨ (a.level = b.level ∧ a.arrival ≤ b.arrival)) ∧
        t.anu = { s.anu with
          queue := t.anu.queue, shown := s.anu.shown.map fun sh => { sh with entry := relevel sh.entry } } := by
  obtain ⟨u, hu⟩ : ∃ u, u = (goodFrame s).setCfg { (goodFrame s).cfg with priorityMap := m } := ⟨_, rfl⟩
  refine configuring_answers (r := setPriorityMapRequest) (t := setPriorityMap m (goodFrame s)) h rfl
    (exactly_length hfits) rfl hread (by simp [hhold]) ⟨by simp [setPriorityMap], by rw [State.sameBut_parts]; simp,
      fun e => { e with level := u.levelOf e.cls }, fun e n hn => ?_, ?_, ?_, ?_⟩
  · have hlevel : u.levelOf e.cls = n.val + 1 :=
      State.levelOf_place (by rw [hu]; exact readPriorityMap_nodup hread) (by rw [hu]; exact hn)
    simp [hlevel]
  · simpa [setPriorityMap, hu] using sortQueue_perm _
  · refine List.Pairwise.imp (R := Entry.upTo) id ?_
    simpa [setPriorityMap, hu] using sortQueue_sorted _
  · simp [setPriorityMap, hu]

/-- Settles O49, request by request. -/
theorem lineSettingsTakeEffect : Obligations.LineSettingsTakeEffect := by
  refine fun tag body s h => ⟨fun m c => configureMessage_answers h, fun c => configureLine_answers h,
    fun b page hbody hread => ?_, fun hfits hout => ?_, fun hfits hout => ?_, fun b hbody hleast hlast => ?_,
    fun hfits hout => ?_, fun m hfits hread => ⟨fun hhold => ?_, setPriorityMap_answers h hfits hread⟩⟩
  · subst hbody
    exact setRestingPage_answers h hread
  · exact configuring_answersRange (r := configureMessageRequest) h rfl hfits rfl (readMessage_out hout)
  · exact configuring_answersRange (r := configureLineRequest) h rfl (exactly_length hfits) rfl (readLineSettings_out hout)
  · subst hbody
    exact configuring_answersRange (r := setRestingPageRequest) h rfl rfl rfl
      (readOptIndex_out (k := b.toNat) hleast (by omega))
  · exact configuring_answersRange (r := setPriorityMapRequest) h rfl (exactly_length hfits) rfl (readPriorityMap_out hout)
  · refine setPriorityMapRequest.take_awake tag body s (.of_configurable h) (exactly_length hfits)
      ((configuring_accepts _ _ _ m (by simpa using h.2) hread).trans ?_)
    simp [hhold, Answer.refuse]

end Sys2Proof.Machine
end

section
/-! PROOFS. O50: what an offer does (R138, R139, R140), and the beginning of showing on an empty line (R145). -/
namespace Sys2Proof.Machine

section
variable {o : Offer} {s : State}

/-! ### Updates in place (R139) -/

theorem offer_shown {sh : Shown} (hshown : s.anu.shown = some sh) (hsource : sh.entry.source = o.source) :
    offer o s = updateShown o sh s := by
  have hsome : (s.anu.shown.filter fun sh => decide (sh.entry.source = o.source)) = some sh := by simp [hshown, hsource]
  simp [offer, hsome]

theorem offer_waiting (hshown : ∀ sh, s.anu.shown = some sh → sh.entry.source ≠ o.source)
    (hwaits : ∃ e ∈ s.anu.queue, e.source = o.source) : offer o s = updateWaiting o s := by
  have hnone : (s.anu.shown.filter fun sh => decide (sh.entry.source = o.source)) = none :=
    Option.filter_eq_none_iff.mpr fun sh hsh => by simpa using hshown sh hsh
  have hsome : s.anu.waits o.source = true := List.any_eq_true.mpr (by simpa using hwaits)
  simp [offer, hnone, hsome]

theorem updateShown_answers (sh : Shown) : (updateShown o sh s).anu.shown = some { sh with entry := sh.entry.updated o } ∧
    (updateShown o sh s).anu.queue = s.anu.queue ∧ (updateShown o sh s).anu.content = (updateShown o sh s).lineContent ∧
    s.sameBut (updateShown o sh s) [.anu] :=
  ⟨by simp [updateShown], by simp [updateShown], renderLine_content _, by rw [State.sameBut_parts]; simp⟩

/-! ### The new entry (R138, R139) -/

/-- An offer of a source that has no entry makes one, or is judged against the lowest waiting entry. -/
theorem offer_new (hnew : ∀ e ∈ s.anu.entries, e.source ≠ o.source) :
    offer o s = if s.anu.queue.length < 16 then joinQueue o s else offerOnFull o s := by
  have hshown : (s.anu.shown.filter fun sh => decide (sh.entry.source = o.source)) = none :=
    Option.filter_eq_none_iff.mpr fun sh hsh => by simpa using hnew sh.entry (by simp [Annunciation.entries, hsh])
  have hwaits : s.anu.waits o.source = false :=
    List.any_eq_false.mpr fun e he => by simpa using hnew e (by simp [Annunciation.entries, he])
  simp [offer, hshown, hwaits]

theorem gainArrival_counts (h : s.anu.arrivals < 65535) :
    gainArrival s = s.setAnu { s.anu with arrivals := s.anu.arrivals + 1 } := by
  rw [gainArrival, if_pos h]

/-- At 65535 the entries held are renumbered by the places of their arrival numbers (R138). -/
theorem gainArrival_renumbers (h : s.anu.arrivals = 65535) (hnodup : (s.anu.entries.map Entry.arrival).Nodup) :
    ∃ place : Nat → Nat,
      (∀ a ∈ s.anu.entries, ∀ b ∈ s.anu.entries, a.arrival < b.arrival → place a.arrival < place b.arrival) ∧
      (s.anu.entries.map fun e => place e.arrival).Perm (List.range' 1 s.anu.entries.length) ∧
      gainArrival s = s.setAnu { s.anu with
        queue := s.anu.queue.map fun e => { e with arrival := place e.arrival }
        shown := s.anu.shown.map fun sh => { sh with entry := { sh.entry with arrival := place sh.entry.arrival } }
        arrivals := s.anu.entries.length + 1 } := by
  obtain ⟨place, hrising, hplaces, hrenumber⟩ := renumber_place s hnodup
  refine ⟨place, hrising, hplaces, ?_⟩
  rw [gainArrival, if_neg (by omega), hrenumber]
  rfl

/-- The state with the offer's new entry in the queue, before the line is decided. -/
def State.joined (s : State) (o : Offer) : State :=
  (gainArrival s).setQueue (enqueue ((gainArrival s).newEntry o) (gainArrival s).anu.queue)

theorem joinQueue_joined : joinQueue o s = decideLine (s.joined o) := rfl

theorem gainArrival_newEntry {level : Fin 6} (hlevel : s.levelOf o.cls = level.val + 1) : (gainArrival s).newEntry o =
    ⟨o.source, o.cls, level.val + 1, o.message, o.chime, o.kind, (gainArrival s).anu.arrivals, false⟩ := by
  have hsame : (gainArrival s).levelOf o.cls = s.levelOf o.cls := by simp [State.levelOf]
  rw [State.newEntry, hsame, hlevel]

/-! ### The decision of the line keeps the arrival counter, the holds and the waiting entries -/

@[simp] theorem showHead_keeps (s : State) : (showHead s).anu.arrivals = s.anu.arrivals ∧
    (showHead s).anu.hostHold = s.anu.hostHold ∧ (showHead s).anu.proofHold = s.anu.proofHold := by
  unfold showHead
  split
  · exact ⟨rfl, rfl, rfl⟩
  · next e rest _ =>
    obtain ⟨-, -, harrivals, hhost, hproof, -⟩ := beginShowing_anu e (s.setQueue rest)
    exact ⟨harrivals, hhost, hproof⟩

@[simp] theorem decideLine_keeps (s : State) : (decideLine s).anu.arrivals = s.anu.arrivals ∧
    (decideLine s).anu.hostHold = s.anu.hostHold ∧ (decideLine s).anu.proofHold = s.anu.proofHold := by
  unfold decideLine
  split
  · exact ⟨rfl, rfl, rfl⟩
  · split
    · exact showHead_keeps s
    · split
      · unfold displace
        dsimp only
        split <;> simp
      · exact ⟨rfl, rfl, rfl⟩

/-- A waiting entry is held on once the head is shown: it waits, or is shown. -/
theorem showHead_holds {e : Entry} (h : e ∈ s.anu.queue) :
    ∃ b, { e with shownBefore := b } ∈ (showHead s).anu.entries := by
  unfold showHead
  split
  · next hempty =>
    rw [hempty] at h
    contradiction
  · next head rest hqueue =>
    obtain ⟨hwaiting, hshown, -⟩ := beginShowing_anu head (s.setQueue rest)
    rw [hqueue, List.mem_cons] at h
    rcases h with rfl | h
    · exact ⟨true, by simp [Annunciation.entries, hshown, State.beginTimers]⟩
    · have h : e ∈ (beginShowing head (s.setQueue rest)).anu.queue := hwaiting ▸ h
      exact ⟨e.shownBefore, List.mem_append_left _ h⟩

theorem decideLine_holds {e : Entry} (h : e ∈ s.anu.queue) :
    ∃ b, { e with shownBefore := b } ∈ (decideLine s).anu.entries := by
  have hstays : ∃ b, { e with shownBefore := b } ∈ s.anu.entries := ⟨e.shownBefore, List.mem_append_left _ h⟩
  unfold decideLine
  split
  · exact hstays
  · split
    · exact showHead_holds h
    · split
      · obtain ⟨b, hb⟩ := showHead_holds (s := stopShown s) h
        refine ⟨b, ?_⟩
        unfold displace
        dsimp only
        split
        · simp only [Annunciation.entries, State.setQueue_anu, List.mem_append, mem_enqueue] at hb ⊢
          exact hb.imp_left .inr
        · simpa using hb
      · exact hstays

theorem joinQueue_holds : ∃ b, { (gainArrival s).newEntry o with shownBefore := b } ∈ (joinQueue o s).anu.entries :=
  decideLine_holds (by simp)

theorem joinQueue_arrivals : (joinQueue o s).anu.arrivals = (gainArrival s).anu.arrivals := by
  simp [joinQueue_joined, State.joined]

/-- Under a hold the new entry waits, and nothing else changes. -/
theorem joinQueue_held (h : s.anu.hostHold = true ∨ s.anu.proofHold = true) : joinQueue o s = s.joined o := by
  refine decideLine_held _ ?_
  have hholds : (gainArrival s).anu.hostHold = s.anu.hostHold ∧ (gainArrival s).anu.proofHold = s.anu.proofHold := by
    unfold gainArrival
    dsimp only
    split <;> exact ⟨rfl, rfl⟩
  simpa [State.joined, Annunciation.held, hholds] using h

/-! ### The empty line (R145) -/

/-- With nothing shown, nothing waiting and no hold, the new entry begins to be shown. -/
theorem joinQueue_empty (harrivals : s.anu.arrivals < 65535) (hhost : s.anu.hostHold = false)
    (hproof : s.anu.proofHold = false) (hshown : s.anu.shown = none) (hqueue : s.anu.queue = []) :
    (∃ sh, (joinQueue o s).anu.shown = some sh ∧ sh.entry = { (gainArrival s).newEntry o with shownBefore := true }) ∧
    (joinQueue o s).anu.queue = [] ∧ BeganShowing ((gainArrival s).newEntry o) s (joinQueue o s) := by
  obtain ⟨u, hu⟩ : ∃ u, u = (s.joined o).setQueue [] := ⟨_, rfl⟩
  have hjoin : joinQueue o s = beginShowing ((gainArrival s).newEntry o) u := by
    rw [hu]
    exact decideLine_head _ _ [] (by simp [Annunciation.held, gainArrival_counts harrivals, hhost, hproof])
      (by simp [gainArrival_counts harrivals, hshown])
      (by simp [gainArrival_counts harrivals, hqueue, enqueue])
  obtain ⟨hwaiting, hnow, -⟩ := beginShowing_anu ((gainArrival s).newEntry o) u
  rw [hjoin]
  exact ⟨⟨_, hnow, rfl⟩, by rw [hwaiting, hu]; rfl, (beginShowing_began _ u).keep (by simp [hu, State.joined])
    (by simp [hu, State.joined]) (by simp [hu, State.joined]) List.prefix_rfl (fun _ => id) rfl rfl rfl rfl rfl rfl⟩

/-! ### A full queue (R140) -/

section
variable {low : Entry} (hlow : s.anu.queue.getLast? = some low)
include hlow

/-- A new entry that is not above the lowest waiting one is dropped. -/
theorem offerOnFull_drops (hjudged : low.level ≤ s.levelOf o.cls) :
    offerOnFull o s = endEntry .dropped ((gainArrival s).newEntry o) (gainArrival s) := by
  simp [offerOnFull, hlow, Nat.not_lt.mpr hjudged]

/-- The lowest waiting entry gives its place to a new one above it. -/
theorem offerOnFull_replaces (hjudged : s.levelOf o.cls < low.level) :
    offerOnFull o s = joinQueue o (endEntry .dropped low (s.setQueue s.anu.queue.dropLast)) := by
  simp [offerOnFull, hlow, hjudged]

end

/-- A new entry that is dropped has its end handed on with the cause DROPPED (R160). -/
theorem endEntry_dropped_new (u : State) : ∃ v, endEntry .dropped ((gainArrival s).newEntry o) u =
    hand .announcementEnded o.source.number (4 + (if o.kind = .reminder then 16 else 0)) v :=
  ⟨_, by rw [endEntry]; rfl⟩

theorem offer_counts {level : Fin 6} (hnew : ∀ e ∈ s.anu.entries, e.source ≠ o.source)
    (harrivals : s.anu.arrivals < 65535) (hlevel : s.levelOf o.cls = level.val + 1) :
    (offer o s).anu.arrivals = s.anu.arrivals + 1 ∧
    (s.anu.queue.length < 16 →
      ∃ e ∈ (offer o s).anu.entries,
        e = ⟨o.source, o.cls, level.val + 1, o.message, o.chime, o.kind, s.anu.arrivals + 1, e.shownBefore⟩) ∧
    (s.anu.queue.length < 16 → s.anu.hostHold = true ∨ s.anu.proofHold = true → (offer o s).anu.shown = s.anu.shown ∧
      s.sameBut (offer o s) [.anu] ∧ (offer o s).anu.queue.Perm
        (⟨o.source, o.cls, level.val + 1, o.message, o.chime, o.kind, s.anu.arrivals + 1, false⟩ :: s.anu.queue)) ∧
    (s.anu.queue.length < 16 → s.anu.hostHold = false → s.anu.proofHold = false → s.anu.shown = none →
      s.anu.queue = [] → ∃ sh, (offer o s).anu.shown = some sh ∧ sh.entry.source = o.source ∧
        sh.entry.shownBefore = true ∧ (offer o s).anu.queue = [] ∧ BeganShowing
          ⟨o.source, o.cls, level.val + 1, o.message, o.chime, o.kind, s.anu.arrivals + 1, false⟩ s (offer o s)) ∧
    ∀ low, 16 ≤ s.anu.queue.length → s.anu.queue.getLast? = some low →
      (low.level ≤ level.val + 1 → (offer o s).anu.queue = s.anu.queue ∧ (offer o s).anu.shown = s.anu.shown ∧
        ∃ u, offer o s = hand .announcementEnded o.source.number (4 + (if o.kind = .reminder then 16 else 0)) u) ∧
      (level.val + 1 < low.level →
        ∃ e ∈ (offer o s).anu.entries, e.source = o.source ∧ e.arrival = s.anu.arrivals + 1) := by
  have hentry := gainArrival_newEntry hlevel
  have hgained := gainArrival_counts harrivals
  have hroom (h : s.anu.queue.length < 16) : offer o s = joinQueue o s := by rw [offer_new hnew, if_pos h]
  have hfull (h : 16 ≤ s.anu.queue.length) : offer o s = offerOnFull o s := by rw [offer_new hnew, if_neg (by omega)]
  have hafter (low : Entry) : (gainArrival (endEntry .dropped low (s.setQueue s.anu.queue.dropLast))).anu.arrivals =
      s.anu.arrivals + 1 := by
    rw [gainArrival_counts (by simpa using harrivals)]
    simp
  refine ⟨?_, fun h => ?_, fun h hheld => ?_, fun h hhost hproof hshown hqueue => ?_, fun low h hlow =>
    ⟨fun hjudged => ?_, fun hjudged => ?_⟩⟩
  · rcases Nat.lt_or_ge s.anu.queue.length 16 with h | h
    · rw [hroom h, joinQueue_arrivals, hgained]
      rfl
    · rw [hfull h]
      unfold offerOnFull
      split
      · rw [joinQueue_arrivals, hgained]
        rfl
      · split
        · rw [joinQueue_arrivals, hafter]
        · simp [hgained]
  · obtain ⟨b, hb⟩ := joinQueue_holds (o := o) (s := s)
    rw [hroom h]
    exact ⟨_, hb, by rw [hentry, hgained]; rfl⟩
  · rw [hroom h, joinQueue_held hheld, State.joined, hentry, hgained]
    exact ⟨rfl, by rw [State.sameBut_parts]; simp, enqueue_perm _ _⟩
  · obtain ⟨⟨sh, hsh, hnow⟩, hwaiting, hbegan⟩ :=
      joinQueue_empty (o := o) harrivals hhost hproof hshown hqueue
    rw [hentry, hgained] at hbegan
    rw [hroom h]
    exact ⟨sh, hsh, by rw [hnow]; rfl, by rw [hnow], hwaiting, hbegan⟩
  · rw [hfull h, offerOnFull_drops hlow (hlevel ▸ hjudged)]
    exact ⟨by simp [hgained], by simp [hgained], endEntry_dropped_new _⟩
  · obtain ⟨b, hb⟩ := joinQueue_holds (o := o) (s := endEntry .dropped low (s.setQueue s.anu.queue.dropLast))
    rw [hfull h, offerOnFull_replaces hlow (hlevel ▸ hjudged)]
    exact ⟨_, hb, rfl, hafter low⟩

/-- Settles O50, by where an entry of the offer's source stands and by the room in the queue. -/
theorem offerIsTakenByTheQueue : Obligations.OfferIsTakenByTheQueue := by
  rintro o s t rfl
  refine ⟨by rw [State.sameBut_parts]; simp, fun sh hshown hsource => ?_, fun hshown hwaits => ?_,
    fun hnew harrivals level hlevel honly => offer_counts hnew harrivals (s.levelOf_only hlevel honly),
    fun hnew harrivals hnodup level hlevel honly => ?_⟩
  · rw [offer_shown hshown hsource]
    exact updateShown_answers sh
  · exact offer_waiting hshown hwaits
  · obtain ⟨place, hrising, hplaces, hgained⟩ := gainArrival_renumbers harrivals hnodup
    have hlevel := s.levelOf_only hlevel honly
    have hentry := gainArrival_newEntry hlevel
    refine ⟨place, _, _, hrising, hplaces, rfl, rfl, fun h => ?_, fun low h hlow hjudged => ?_⟩
    · rw [offer_new hnew, if_pos h]
      refine ⟨by rw [joinQueue_arrivals, hgained]; rfl, fun hheld => ?_⟩
      rw [joinQueue_held hheld, State.joined, hentry, hgained]
      exact ⟨rfl, enqueue_perm _ _⟩
    · rw [offer_new hnew, if_neg (by omega), offerOnFull_drops hlow (hlevel ▸ hjudged)]
      simp [hgained]

end

end Sys2Proof.Machine
end

section
/-! PROOFS. The end of the shown entry (R141, R142, R147, R149) and the beginning of showing of the head that follows it
(R145): the record of a warning held for its first showing is posted by the one or by the other (R181). -/
namespace Sys2Proof.Machine

/-- The record held for a warning, which its first showing posts (R181). -/
def State.heldRecord (s : State) (w : Fin 48) : Option Report :=
  s.lp.held.find? fun h => decide (h.subject = BitVec.ofNat 8 w.val)

/-- Between two states each held record stays held, or joins the queue where there is room. -/
def HeldOrPosted (s t : State) : Prop := ∀ w r, s.heldRecord w = some r → t.lp.queue.length < 32 →
  t.heldRecord w = some r ∨ ∃ before after, s.lp.queue <+: before ∧ t.lp.queue = before ++ r :: after

section
variable {s t u : State}

theorem HeldOrPosted.of_held (h : t.lp.held = s.lp.held) : HeldOrPosted s t := fun w r hr _ =>
  .inl (by rw [State.heldRecord, h]; exact hr)

/-- Reports that join the queue behind leave the posted ones posted. -/
theorem HeldOrPosted.grow (h : HeldOrPosted s t) (hheld : u.lp.held = t.lp.held) (hqueue : t.lp.queue <+: u.lp.queue) :
    HeldOrPosted s u := by
  obtain ⟨more, hmore⟩ := hqueue
  intro w r hr hroom
  have hroom' : t.lp.queue.length < 32 := Nat.lt_of_le_of_lt (by simp [← hmore]) hroom
  rcases h w r hr hroom' with hkept | ⟨before, after, hbefore, hposted⟩
  · exact .inl (by rw [State.heldRecord, hheld]; exact hkept)
  · exact .inr ⟨before, after ++ more, hbefore, by rw [← hmore, hposted]; simp⟩

theorem releaseHeld_heldOrPosted (w : Fin 48) (s : State) : HeldOrPosted s (releaseHeld w s) := by
  intro x r hr hroom
  have hbefore := (releaseHeld_link w s).1
  have hlength : s.lp.queue.length < 32 := Nat.lt_of_le_of_lt hbefore.length_le hroom
  by_cases hsame : x = w
  · subst hsame
    exact .inr ⟨s.lp.queue, [], List.prefix_rfl, (releaseHeld_posts x s).2 r hr hlength⟩
  · have hsubject : BitVec.ofNat 8 x.val ≠ byte w.val := fun h => hsame (Fin.ext (by
      have := congrArg BitVec.toNat h
      simp only [byte, BitVec.toNat_ofNat] at this
      omega))
    refine .inl ?_
    unfold State.heldRecord at hr ⊢
    unfold releaseHeld
    split
    · exact hr
    · have hfound : (s.lp.held.filter fun h => decide (h.subject ≠ byte w.val)).find?
          (fun h => decide (h.subject = BitVec.ofNat 8 x.val)) = some r := by
        rw [List.find?_filter, ← hr]
        congr 1
        funext h
        by_cases hx : h.subject = BitVec.ofNat 8 x.val
        · simpa [hx] using hsubject
        · simp [hx]
      simpa [postRecord_held] using hfound

theorem tellLink_heldOrPosted (e : Entry) (s : State) : HeldOrPosted s (tellLink e s) := by
  unfold tellLink
  split
  · split
    · exact .of_held rfl
    · exact releaseHeld_heldOrPosted _ s
  all_goals exact .of_held rfl

theorem endEntry_heldOrPosted (cause : EndCause) (e : Entry) (s : State) : HeldOrPosted s (endEntry cause e s) := by
  have htold : HeldOrPosted (tellOwner cause e s) (tellLink e (tellOwner cause e s)) := tellLink_heldOrPosted _ _
  have hended := htold.grow (u := endEntry cause e s) (by simp [endEntry]) (hand_queue _ _ _ _)
  intro w r hr
  simpa only [State.heldRecord, tellOwner_lp] using hended w r (by simpa only [State.heldRecord, tellOwner_lp] using hr)

/-- A beginning of showing is one from an earlier state on, where each held record has stayed held or been posted. -/
theorem BeganShowing.earlier {e : Entry} (h : BeganShowing e u t) (hqueue : s.lp.queue <+: u.lp.queue)
    (hgrows : u.lp.queue <+: t.lp.queue) (hheld : HeldOrPosted s u) (hcfg : u.cfg = s.cfg) : BeganShowing e s t := by
  obtain ⟨hshown, hposted, hreported, hsound⟩ := h
  refine ⟨by simpa only [hcfg] using hshown, fun w hw hfirst => ?_,
    hreported.widen hqueue (by rw [hcfg]) rfl List.prefix_rfl, hsound⟩
  obtain ⟨hnone, hrecord⟩ := hposted w hw hfirst
  refine ⟨hnone, fun r hr hroom => ?_⟩
  rcases hheld w r hr (Nat.lt_of_le_of_lt hgrows.length_le hroom) with hkept | ⟨before, after, hbefore, hthere⟩
  · obtain ⟨before, after, hbefore, hthere⟩ := hrecord r hkept hroom
    exact ⟨before, after, hqueue.trans hbefore, hthere⟩
  · obtain ⟨more, hmore⟩ := hgrows
    exact ⟨before, after ++ more, hbefore, by rw [← hmore, hthere]; simp⟩

end

/-! ### The head begins to be shown -/

/-- With no hold and nothing shown, deciding the line shows the head. -/
theorem decideLine_began {e : Entry} {rest : List Entry} {s : State} (hheld : s.anu.held = false)
    (hshown : s.anu.shown = none) (hqueue : s.anu.queue = e :: rest) :
    (decideLine s).anu.queue = rest ∧ BeganShowing e s (decideLine s) := by
  rw [decideLine_head s e rest hheld hshown hqueue]
  exact ⟨(beginShowing_anu e _).1, (beginShowing_began e (s.setQueue rest)).keep (by simp) (by simp) (by simp)
    List.prefix_rfl (fun _ => id) rfl rfl rfl rfl rfl rfl⟩

theorem decideAfterEnd_began {e : Entry} {rest : List Entry} {s : State} (hheld : s.anu.held = false)
    (hshown : s.anu.shown = none) (hqueue : s.anu.queue = e :: rest) :
    (decideAfterEnd s).anu.queue = rest ∧ BeganShowing e s (decideAfterEnd s) := by
  obtain ⟨hrest, hbegan⟩ := decideLine_began hheld hshown hqueue
  have hline : (decideAfterEnd s).lineContent = (decideLine s).lineContent :=
    lineContent_congr _ _ (by simp [decideAfterEnd]) (by simp [decideAfterEnd]) (by simp [decideAfterEnd])
      (by simp [decideAfterEnd]) (by simp [decideAfterEnd]) (by simp [decideAfterEnd])
  have hcontent : (decideLine s).anu.content = (decideLine s).lineContent := by
    obtain ⟨-, -, -, -, hcontent⟩ := hbegan
    exact hcontent
  refine ⟨by simpa [decideAfterEnd] using hrest, hbegan.keep List.prefix_rfl rfl rfl (by simp [decideAfterEnd])
    (by simp [decideAfterEnd]) (by simp [decideAfterEnd]) (by simp [decideAfterEnd]) (by simp [decideAfterEnd])
    (by simp [decideAfterEnd]) ?_ hline⟩
  rw [hcontent, ← hline]
  exact renderLine_content _

/-! ### The shown entry ends -/

/-- What the end of the shown entry leaves on the line: nothing under a hold or with nothing waiting, and else the head. -/
theorem endShown_line {cause : EndCause} {ended : Entry} {s t : State}
    (ht : t = decideAfterEnd (endEntry cause ended (stopShown s))) :
    t.anu.content = t.lineContent ∧
    (s.anu.held = true ∨ s.anu.queue = [] → t.anu.shown = none ∧ t.anu.queue = s.anu.queue) ∧
    ∀ e rest, s.anu.held = false → s.anu.queue = e :: rest → t.anu.queue = rest ∧ BeganShowing e s t := by
  obtain ⟨u, hu⟩ : ∃ u, u = endEntry cause ended (stopShown s) := ⟨_, rfl⟩
  have hanu : u.anu = { s.anu with shown := none, sounder := s.anu.sounder.endRepeat } := by simp [hu]
  have hheld : u.anu.held = s.anu.held := by rw [hanu]; rfl
  have hlink : LinkGrows s u := hu ▸ (LinkGrows.of_lp (by simp)).trans (endEntry_link cause ended (stopShown s))
  have hposted : HeldOrPosted s u := by
    have := endEntry_heldOrPosted cause ended (stopShown s)
    simpa only [hu, HeldOrPosted, State.heldRecord, stopShown_frame] using this
  rw [ht, ← hu]
  refine ⟨renderLine_content _, fun hnone => ?_, fun e rest hfree hqueue => ?_⟩
  · have hstays : decideLine u = u := hnone.elim (fun h => decideLine_held u (hheld.trans h))
      fun h => decideLine_empty u (by simp [hanu]) (by simp [hanu, h])
    simp [decideAfterEnd, hstays, hanu]
  · obtain ⟨hrest, hbegan⟩ := decideAfterEnd_began (e := e) (rest := rest) (s := u)
      (hheld.trans hfree) (by simp [hanu]) (by simp [hanu, hqueue])
    exact ⟨hrest, hbegan.earlier hlink.1 (decideAfterEnd_link u).1 hposted (by simp [hu])⟩

/-- With nothing shown, deciding the line tells no warning and no track. -/
theorem decideAfterEnd_unshown {s : State} (h : s.anu.shown = none) :
    (decideAfterEnd s).weu = s.weu ∧ (decideAfterEnd s).dtu = s.dtu := by
  have hdecided : (decideLine s).dtu = s.dtu := by
    simp only [decideLine, h]
    split
    · rfl
    · simp
  simp [decideAfterEnd, decideLine_unshown h, hdecided]

end Sys2Proof.Machine
end

section
/-! PROOFS. O51: HOLD, RELEASE, ACKNOWLEDGE SHOWN, ANNOUNCE, WITHDRAW and CHIME CLICK (R144, R149, R150, R155). -/
namespace Sys2Proof.Machine

/-- A beginning of showing at a request is one from before its frame on. -/
theorem BeganShowing.ofRequest {e : Entry} {s t : State} (h : BeganShowing e (goodFrame s) t) (tag kind : Byte)
    (status : Status) (body : List Byte) : BeganShowing e s (beginReply tag kind status body t) :=
  h.keep (goodFrame_queue s) (by simp) (by simp) (by simp) (by simp) (by simp) (by simp) (by simp) (by simp) (by simp)
    (by simp)

/-! ### HOLD and RELEASE (R144) -/

section
variable {tag : Byte} {s : State}

theorem hold_next (h : s.awake) : exec (.hold tag []) s =
    .next (beginReply tag 0x4C#8 .ok [] ((goodFrame s).setAnu { s.anu with hostHold := true })) :=
  holdRequest.take_awake tag [] s h rfl (by simp [holdRequest, Answer.ok])

/-- RELEASE with no host hold set changes nothing. -/
theorem release_unheld (h : s.awake) (hfree : s.anu.hostHold = false) :
    exec (.release tag []) s = .next (beginReply tag 0x4D#8 .ok [] (goodFrame s)) :=
  releaseRequest.take_awake tag [] s h rfl (by simp [releaseRequest, hfree, Answer.ok])

/-- RELEASE clears the host hold, and the line is decided. -/
theorem release_answers (h : s.awake) (hhost : s.anu.hostHold = true) : Answers (.release tag []) s tag 0x4D#8 .ok [] fun t =>
    t.anu.hostHold = false ∧ t.anu.proofHold = s.anu.proofHold ∧ s.sameBut t [.lp, .weu, .dtu, .anu] ∧
    (s.anu.proofHold = true → t.anu = { s.anu with hostHold := false } ∧ s.sameBut t [.lp, .anu]) ∧
    ∀ e rest, s.anu.proofHold = false → s.anu.shown = none → s.anu.queue = e :: rest → t.anu.queue = rest ∧
      BeganShowing e s t := by
  obtain ⟨u, hu⟩ : ∃ u, u = (goodFrame s).setAnu { (goodFrame s).anu with hostHold := false } := ⟨_, rfl⟩
  have hanu : u.anu = { s.anu with hostHold := false } := by simp [hu]
  refine answers_awake _ releaseRequest tag [] s h rfl rfl (t := decideLine u)
    (by simp [releaseRequest, hhost, Answer.ok, hu]) (by simp) ⟨by simp [hanu], by simp [hanu],
      by rw [State.sameBut_parts]; simp [hu], fun hproof => ?_, fun e rest hproof hshown hqueue => ?_⟩
  · rw [decideLine_held u (by simp [hanu, Annunciation.held, hproof])]
    exact ⟨by simp [hanu], by rw [State.sameBut_parts]; simp [hu]⟩
  · obtain ⟨hrest, hbegan⟩ := decideLine_began (e := e) (rest := rest) (s := u)
      (by simp [hanu, Annunciation.held, hproof]) (by simp [hanu, hshown]) (by simp [hanu, hqueue])
    have hfrom : BeganShowing e (goodFrame s) (decideLine u) :=
      hbegan.earlier (by simp [hu]) (decideLine_link u).1 (.of_held (by simp [hu])) (by simp [hu])
    exact ⟨by simpa using hrest, hfrom.ofRequest _ _ _ _⟩

/-! ### ACKNOWLEDGE SHOWN (R149) -/

/-- The end of an acknowledged entry tells its track (R128). -/
theorem endEntry_acknowledged_track {e : Entry} {i : Fin 2} {k : Track} (s : State) (h : e.source = .duty i k) :
    (endEntry .acknowledged e s).track i k = { s.track i k with acknowledged := true, offered := false } := by
  have htold : (tellOwner .acknowledged e s).track i k = { s.track i k with acknowledged := true, offered := false } := by
    simp [tellOwner, h]
  rw [← htold]
  exact State.track_of (by simp [endEntry]) i k

/-- An acknowledgement of a warning makes it seen, or marks a latched one acknowledged; its mark stays (R92). -/
theorem acknowledgeWarning_acknowledges (w : Fin 48) (s : State) :
    ((acknowledgeWarning w s).warning w).mark = (s.warning w).mark ∧
    ((s.warning w).state = .activeNew → ((acknowledgeWarning w s).warning w).state = .activeSeen) ∧
    ((s.warning w).state ∈ [.activeNew, .latched] → ((acknowledgeWarning w s).warning w).acknowledged = true) := by
  unfold acknowledgeWarning
  dsimp only
  split <;> simp_all [judgeLampOf_warning]

/-- The end of an acknowledged entry tells its warning (R90, R92). -/
theorem endEntry_acknowledged_warning {e : Entry} {w : Fin 48} (s : State) (h : e.source = .warning w) :
    ((endEntry .acknowledged e s).warning w).mark = .none ∧
    ((s.warning w).state = .activeNew → ((endEntry .acknowledged e s).warning w).state = .activeSeen) ∧
    ((s.warning w).state ∈ [.activeNew, .latched] → ((endEntry .acknowledged e s).warning w).acknowledged = true) := by
  have htold : (endEntry .acknowledged e s).warning w = (acknowledgeWarning w (warningEntryEnded w s)).warning w := by
    simp [State.warning, endEntry, tellOwner, h]
  rw [htold]
  simpa [warningEntryEnded] using acknowledgeWarning_acknowledges w (warningEntryEnded w s)

/-- ACKNOWLEDGE SHOWN with no entry shown is refused. -/
theorem acknowledgeShown_refuses (h : s.awake) (hshown : s.anu.shown = none) : exec (.acknowledgeShown tag []) s =
    .next (beginReply tag 0x4E#8 .state [] (goodFrame s)) :=
  acknowledgeShownRequest.take_awake tag [] s h rfl (by simp [acknowledgeShownRequest, hshown, Answer.refuse])

theorem acknowledgeShown_answers {sh : Shown} (h : s.awake) (hshown : s.anu.shown = some sh) :
    Answers (.acknowledgeShown tag []) s tag 0x4E#8 .ok [BitVec.ofNat 8 sh.entry.source.number] fun t =>
      s.sameBut t [.lp, .weu, .dtu, .anu] ∧ t.anu.content = t.lineContent ∧
      (s.anu.held = true ∨ s.anu.queue = [] → t.anu.shown = none ∧ t.anu.queue = s.anu.queue) ∧
      (∀ e rest, s.anu.held = false → s.anu.queue = e :: rest → t.anu.queue = rest ∧ BeganShowing e s t) ∧
      (∀ i k, sh.entry.source = .duty i k →
        t.track i k = { s.track i k with acknowledged := true, offered := false }) ∧
      ∀ w, sh.entry.source = .warning w → (t.warning w).mark = .none ∧
        ((s.warning w).state = .activeNew → (t.warning w).state = .activeSeen) ∧
        ((s.warning w).state ∈ [.activeNew, .latched] → (t.warning w).acknowledged = true) := by
  obtain ⟨u, hu⟩ : ∃ u, u = endEntry .acknowledged sh.entry (stopShown (goodFrame s)) := ⟨_, rfl⟩
  obtain ⟨hcontent, hnothing, hhead⟩ := endShown_line (t := decideAfterEnd u) (by rw [hu])
  obtain ⟨hweu, hdtu⟩ := decideAfterEnd_unshown (s := u) (by simp [hu])
  refine answers_awake _ acknowledgeShownRequest tag [] s h rfl rfl (t := decideAfterEnd u)
    (by simp [acknowledgeShownRequest, acknowledgeShown, hshown, Answer.okWith, hu, be8, byte]) (by simp)
    ⟨by rw [State.sameBut_parts]; simp [hu], by simpa using hcontent,
      fun hnone => by simpa using hnothing (by simpa using hnone),
      fun e rest hfree hqueue => ?_, fun i k hsource => ?_, fun w hsource => ?_⟩
  · obtain ⟨hrest, hbegan⟩ := hhead e rest (by simpa using hfree) (by simpa using hqueue)
    exact ⟨by simpa using hrest, hbegan.ofRequest _ _ _ _⟩
  · have hsame : s.track i k = (stopShown (goodFrame s)).track i k := (State.track_of (by simp) i k).symm
    rw [hsame, ← endEntry_acknowledged_track _ hsource, ← hu]
    exact State.track_of (by simp [hdtu]) i k
  · have hended := endEntry_acknowledged_warning (stopShown (goodFrame s)) hsource
    have hsame : (stopShown (goodFrame s)).warning w = s.warning w := by simp [State.warning]
    have hafter : (beginReply tag acknowledgeShownRequest.kind .ok [BitVec.ofNat 8 sh.entry.source.number]
        (decideAfterEnd u)).warning w = u.warning w := by simp [State.warning, hweu]
    rwa [hsame, ← hu, ← hafter] at hended

/-! ### ANNOUNCE (R150) -/

theorem Annunciation.shows_iff {a : Annunciation} {x : AnnSource} :
    a.shows x = true ↔ ∃ sh, a.shown = some sh ∧ sh.entry.source = x := by
  cases h : a.shown <;> simp [Annunciation.shows, h]

theorem Annunciation.waits_iff {a : Annunciation} {x : AnnSource} :
    a.waits x = true ↔ ∃ e ∈ a.queue, e.source = x := by
  simp [Annunciation.waits]

/-- An entry of a source is held when the shown entry or a waiting one is of it. -/
theorem Annunciation.holds_iff {a : Annunciation} {x : AnnSource} :
    (a.shows x || a.waits x) = true ↔ ∃ e ∈ a.entries, e.source = x := by
  rw [Bool.or_eq_true, Annunciation.shows_iff, Annunciation.waits_iff]
  cases h : a.shown <;> simp [Annunciation.entries, h, or_and_right, exists_or, or_comm]

/-- What ANNOUNCE's outcome says of the entries before and after the offer. -/
theorem offerOutcome_says (x : AnnSource) (before after : Annunciation) :
    offerOutcome x before after ≤ 3 ∧ (offerOutcome x before after = 0 ↔ ∃ e ∈ before.entries, e.source = x) ∧
    (offerOutcome x before after = 1 → ∃ sh, after.shown = some sh ∧ sh.entry.source = x) ∧
    (offerOutcome x before after = 2 → ∃ e ∈ after.queue, e.source = x) ∧
    (offerOutcome x before after = 3 → ∀ e ∈ after.entries, e.source ≠ x) := by
  rw [← Annunciation.holds_iff, ← Annunciation.shows_iff, ← Annunciation.waits_iff]
  unfold offerOutcome
  split
  · next hheld => simp [hheld]
  · next hheld =>
    split
    · next hshows => simp [hshows, hheld]
    · next hshows =>
      split
      · next hwaits => simp [hwaits, hheld]
      · next hwaits =>
        refine ⟨le_rfl, by simp [hheld], by simp, by simp, fun _ e he hsource => ?_⟩
        have hholds := Annunciation.holds_iff.mpr ⟨e, he, hsource⟩
        simp [hshows, hwaits] at hholds

theorem readAnnounce_out {body : List Byte} (h : 8 ≤ byteAt body 0 ∨ 64 ≤ byteAt body 1 ∨ 5 ≤ byteAt body 2) :
    readAnnounce body = none := by
  unfold readAnnounce
  rcases h with h | h | h
  · simp [readIndex_out h]
  · simp [readIndex_out h]
  · have hnone : readEnum Chime.list (byteAt body 2) = none := readEnum_out h
    simp [hnone]

theorem announce_range {body : List Byte} (h : s.awake) (hfits : body.length = 3)
    (hout : 8 ≤ byteAt body 0 ∨ 64 ≤ byteAt body 1 ∨ 5 ≤ byteAt body 2) : AnswersRange (.announce tag body) s tag 0x4F#8 :=
  announceRequest.take_awake tag body s h (exactly_length hfits) (reading_range _ _ (readAnnounce_out hout))

theorem announce_answers {body : List Byte} {i : Fin 8} {m : Fin 64} {chime : Chime} (h : s.awake)
    (hfits : body.length = 3) (hread : readAnnounce body = some (i, m, chime)) :
    ∃ n, Answers (.announce tag body) s tag 0x4F#8 .ok [BitVec.ofNat 8 n] fun t =>
      t.anu = (offer ⟨.host i, .hostMessage, m, chime, .normal⟩ (goodFrame s)).anu ∧
      s.sameBut t [.lp, .weu, .dtu, .anu] ∧ n ≤ 3 ∧ (n = 0 ↔ ∃ e ∈ s.anu.entries, e.source = .host i) ∧
      (n = 1 → ∃ sh, t.anu.shown = some sh ∧ sh.entry.source = .host i) ∧
      (n = 2 → ∃ e ∈ t.anu.queue, e.source = .host i) ∧ (n = 3 → ∀ e ∈ t.anu.entries, e.source ≠ .host i) := by
  obtain ⟨u, hu⟩ : ∃ u, u = offer ⟨.host i, .hostMessage, m, chime, .normal⟩ (goodFrame s) := ⟨_, rfl⟩
  have hrun : announceRequest.run body (goodFrame s) =
      Answer.okWith u (be8 (offerOutcome (.host i) s.anu u.anu)) :=
    (reading_accepts _ _ _ _ hread).trans (by simp [hu])
  refine ⟨offerOutcome (.host i) s.anu u.anu,
    answers_awake _ announceRequest tag body s h rfl (exactly_length hfits) hrun (by simp) ?_⟩
  rw [← hu]
  exact ⟨by simp, by rw [State.sameBut_parts]; simp [hu], by simpa using offerOutcome_says (.host i) s.anu u.anu⟩

/-! ### WITHDRAW (R150) -/

theorem withdraw_range {b : Byte} (h : s.awake) (hout : 8 ≤ b.toNat) : AnswersRange (.withdraw tag [b]) s tag 0x50#8 :=
  withdrawRequest.take_awake tag [b] s h rfl (reading_range _ _ (readIndex_out hout))

/-- A withdrawal of a source that has no entry changes nothing. -/
theorem withdraw_unheld {x : AnnSource} (h : ∀ e ∈ s.anu.entries, e.source ≠ x) : withdraw x s = s := by
  have hnone : (s.anu.queue.find? fun e => decide (e.source = x)) = none :=
    List.find?_eq_none.mpr fun e he => by simpa using h e (List.mem_append_left _ he)
  unfold withdraw
  rw [hnone]
  dsimp only
  split
  · rfl
  · next sh hshown => rw [if_neg (h sh.entry (by simp [Annunciation.entries, hshown]))]

section
variable {b : Byte} {i : Fin 8}

/-- WITHDRAW of a host announcement says whether an entry was held. -/
theorem withdrawRequest_run (hindex : b.toNat = i.val) : withdrawRequest.run [b] (goodFrame s) =
    Answer.okWith (withdraw (.host i) (goodFrame s)) (flagByte (s.anu.shows (.host i) || s.anu.waits (.host i))) := by
  have hread : readIndex 8 (byteAt [b] 0) = some i := by
    simp [byteAt, readIndex, hindex]
  exact (reading_accepts _ _ _ _ hread).trans (by simp)

theorem withdraw_nothing (h : s.awake) (hindex : b.toNat = i.val) (hnone : ∀ e ∈ s.anu.entries, e.source ≠ .host i) :
    exec (.withdraw tag [b]) s = .next (beginReply tag 0x50#8 .ok [0#8] (goodFrame s)) := by
  have hheld : (s.anu.shows (.host i) || s.anu.waits (.host i)) = false :=
    Bool.eq_false_iff.mpr fun hholds => by
      obtain ⟨e, he, hsource⟩ := Annunciation.holds_iff.mp hholds
      exact hnone e he hsource
  refine withdrawRequest.take_awake tag [b] s h rfl ?_
  rw [withdrawRequest_run hindex, hheld, withdraw_unheld (by simpa using hnone)]
  rfl

theorem withdraw_answers (h : s.awake) (hindex : b.toNat = i.val) (hheld : ∃ e ∈ s.anu.entries, e.source = .host i)
    (hkept : s.announcementsKept) : Answers (.withdraw tag [b]) s tag 0x50#8 .ok [1#8] fun t =>
      (∀ e ∈ t.anu.entries, e.source ≠ .host i) ∧ s.sameBut t [.lp, .anu] := by
  have hrun : withdrawRequest.run [b] (goodFrame s) = ⟨withdraw (.host i) (goodFrame s), .ok, [1#8]⟩ := by
    rw [withdrawRequest_run hindex, Annunciation.holds_iff.mpr hheld]
    rfl
  refine answers_awake _ withdrawRequest tag [b] s h rfl rfl hrun (by simp)
    ⟨fun e he hsource => ?_, by rw [State.sameBut_parts]; simp [withdraw_weu, withdraw_dtu]⟩
  have hnodup : (goodFrame s).sources.Nodup := by simpa [State.sources] using hkept.2
  have hleft : e.source ∈ (withdraw (.host i) (goodFrame s)).sources := State.mem_sources.mpr ⟨e, by simpa using he, rfl⟩
  exact (withdraw_held hnodup hleft).1 hsource

end

/-! ### CHIME CLICK (R155) -/

theorem chimeClick_sounds (h : s.awake) (hsilent : s.anu.sounder = .silent) : exec (.chimeClick tag []) s =
    .next (beginReply tag 0x52#8 .ok [] ((goodFrame s).setAnu { s.anu with sounder := .click (s.now + 20000) })) :=
  chimeClickRequest.take_awake tag [] s h rfl
    (by simp [chimeClickRequest, hsilent, Answer.ok, State.setSounder, Config.clickTime, Config.ms])

theorem chimeClick_suppressed (h : s.awake) (hsounds : s.anu.sounder ≠ .silent) : exec (.chimeClick tag []) s =
    .next (beginReply tag 0x52#8 .suppressed [] (goodFrame s)) :=
  chimeClickRequest.take_awake tag [] s h rfl (by simp [chimeClickRequest, hsounds])

end

/-- Settles O51, request by request. -/
theorem holdsAcknowledgementsAndAnnouncements : Obligations.HoldsAcknowledgementsAndAnnouncements :=
  fun _ _ h => ⟨hold_next h, release_unheld h, release_answers h, acknowledgeShown_refuses h,
    fun _ => acknowledgeShown_answers h, fun _ => announce_range h, fun _ => withdraw_range h,
    fun _ _ _ _ => announce_answers h,
    fun _ _ hindex => ⟨withdraw_nothing h hindex, withdraw_answers h hindex⟩, chimeClick_sounds h, chimeClick_suppressed h⟩

end Sys2Proof.Machine
end

section
/-! PROOFS. O52: DWELL_EXPIRY, SHOW_TIME_EXPIRY and ROTATION_EXPIRY (R146, R147, R148). -/
namespace Sys2Proof.Machine

/-! ### The timers of the shown entry -/

section
variable {s : State} {sh : Shown} {due : Nat} (hpowered : s.powered = true) (hshown : s.anu.shown = some sh)
include hpowered hshown

theorem dwellExpiry_next (hdue : sh.dwellDue = some due) :
    exec .dwellExpiry s = .next (dwellElapsed sh (s.reach due)) := by
  show execDwellExpiry s = _
  simp [execDwellExpiry, hpowered, hshown, hdue, onTimer]

theorem showTimeExpiry_next (hdue : sh.showDue = some due) :
    exec .showTimeExpiry s = .next (showTimeExpired sh (s.reach due)) := by
  show execShowTimeExpiry s = _
  simp [execShowTimeExpiry, hpowered, hshown, hdue, onTimer]

theorem rotationExpiry_next (hdue : sh.rotationDue = some due) :
    exec .rotationExpiry s = .next (rotationExpired sh (s.reach due)) := by
  show execRotationExpiry s = _
  simp [execRotationExpiry, hpowered, hshown, hdue, onTimer]

end

theorem State.reach_now (s : State) (due : Nat) : (s.reach due).now = max s.now due := rfl

/-- A beginning of showing at a timer is one from before its expiry on. -/
theorem BeganShowing.ofReach {e : Entry} {s t : State} {due : Nat} (h : BeganShowing e (s.reach due) t)
    (hgrows : s.lp.queue <+: t.lp.queue) : BeganShowing e s t :=
  h.earlier (by simp) (by simpa using hgrows) (.of_held (by simp)) (by simp)

/-! ### The displacement (R146) -/

/-- Under a hold, or with no higher head, the shown entry stays. -/
theorem decideLine_stays {sh : Shown} {s : State} (hshown : s.anu.shown = some sh)
    (h : s.anu.held = true ∨ s.anu.headHigher sh = false) : decideLine s = s := by
  unfold decideLine
  rcases h with h | h
  · rw [if_pos h]
  · simp [hshown, h]

theorem decideLine_displaces {sh : Shown} {s : State} (hheld : s.anu.held = false) (hshown : s.anu.shown = some sh)
    (hdwell : sh.dwellDue = none) (hhigher : s.anu.headHigher sh = true) : decideLine s = displace sh s := by
  simp [decideLine, hheld, hshown, hdwell, hhigher]

/-- What the line should show does not depend on the notices of the end of an entry. -/
theorem endEntry_lineContent (cause : EndCause) (e : Entry) (s : State) :
    (endEntry cause e s).lineContent = s.lineContent := by
  have hhanded : (endEntry cause e s).lineContent = (tellOwner cause e s).lineContent :=
    lineContent_congr _ _ (by simp) (by simp) (by simp [endEntry]) (by simp) (by simp) (by simp)
  have hsame (t : State) (h : t.dtu = s.dtu) (hcfg : t.cfg = s.cfg) (hqt : t.qt = s.qt) (hpsc : t.psc = s.psc)
      (hanu : t.anu = s.anu) : t.lineContent = s.lineContent :=
    lineContent_congr s t hcfg hqt h hpsc (by rw [hanu]) (by rw [hanu])
  rw [hhanded]
  unfold tellOwner
  split
  · rfl
  · rfl
  · exact hsame _ (by simp) (by simp) (by simp) (by simp) (by simp)
  · exact hsame _ (by simp) (by simp) (by simp) (by simp) (by simp)
  all_goals exact lineContent_setTrack _ _ _ _

/-- The head that displaces the shown entry begins to be shown; a NORMAL entry waits behind it, a REMINDER ends. -/
theorem displace_began {e : Entry} {rest : List Entry} {s : State} (sh : Shown) (hqueue : s.anu.queue = e :: rest) :
    BeganShowing e s (displace sh s) ∧ (sh.entry.kind = .normal → (displace sh s).anu.queue.Perm (sh.entry :: rest)) ∧
    (sh.entry.kind = .reminder → (displace sh s).anu.queue = rest) := by
  obtain ⟨u, hu⟩ : ∃ u, u = showHead (stopShown s) := ⟨_, rfl⟩
  have hwaiting : u.anu.queue = rest := by simp [hu, hqueue]
  have hhead : u = beginShowing e ((stopShown s).setQueue rest) := by simp [hu, showHead, hqueue]
  have hbegan : BeganShowing e s u := by
    rw [hhead]
    exact (beginShowing_began e _).earlier (by simp) (beginShowing_link e _).1 (.of_held (by simp)) (by simp)
  unfold displace
  rw [← hu]
  cases hkind : sh.entry.kind with
  | normal =>
    refine ⟨hbegan.keep List.prefix_rfl rfl rfl (by simp) (by simp) (by simp) (by simp) (by simp) (by simp) (by simp)
      (lineContent_congr _ _ (by simp) (by simp) (by simp) (by simp) (by simp) (by simp)), fun _ => ?_, by simp⟩
    simpa [hwaiting] using enqueue_perm sh.entry rest
  | reminder =>
    exact ⟨hbegan.keep List.prefix_rfl rfl rfl (endEntry_link _ _ _).1 (endEntry_heldWithin _ _ _) (by simp)
      (endEntry_duty _ _ _).1 (by simp) (by simp) (by simp) (endEntry_lineContent _ _ _), by simp, fun _ => by simp [hwaiting]⟩

theorem dwellExpiry_answers {s : State} {sh : Shown} {due : Nat} (hpowered : s.powered = true)
    (hshown : s.anu.shown = some sh) (hdue : sh.dwellDue = some due) :
    (s.anu.held = true ∨ s.anu.headHigher sh = false → exec .dwellExpiry s =
      .next ((s.setNow (max s.now due)).setAnu { s.anu with shown := some { sh with dwellDue := none } })) ∧
    ∀ e rest, s.anu.held = false → s.anu.queue = e :: rest → e.level < sh.entry.level →
      ∃ t, exec .dwellExpiry s = .next t ∧ t.now = max s.now due ∧ s.sameBut t [.now, .lp, .weu, .dtu, .anu] ∧
        BeganShowing e s t ∧ (sh.entry.kind = .normal → t.anu.queue.Perm (sh.entry :: rest)) ∧
        (sh.entry.kind = .reminder → t.anu.queue = rest) := by
  obtain ⟨u, hu⟩ : ∃ u, u = (s.reach due).setShown (some { sh with dwellDue := none }) := ⟨_, rfl⟩
  have hnext : exec .dwellExpiry s = .next (decideLine u) := hu ▸ dwellExpiry_next hpowered hshown hdue
  have hanu : u.anu = { s.anu with shown := some { sh with dwellDue := none } } := by simp [hu]
  have hheld : u.anu.held = s.anu.held := by rw [hanu]; rfl
  have hhigher : u.anu.headHigher { sh with dwellDue := none } = s.anu.headHigher sh := by rw [hanu]; rfl
  refine ⟨fun hstays => ?_, fun e rest hfree hqueue hlevel => ?_⟩
  · rw [hnext, decideLine_stays (s := u) (by rw [hanu]) (by rwa [hheld, hhigher]), hu]
    rfl
  · have hdisplaces : decideLine u = displace { sh with dwellDue := none } u :=
      decideLine_displaces (hheld.trans hfree) (by rw [hanu]) rfl
        (hhigher.trans (by simpa [Annunciation.headHigher, hqueue] using hlevel))
    obtain ⟨hbegan, hnormal, hreminder⟩ := displace_began (s := u) (e := e) (rest := rest) { sh with dwellDue := none }
      (by simp [hanu, hqueue])
    refine ⟨_, hnext, ?_, ?_, ?_⟩
    · simp [hu, State.reach_now]
    · rw [State.sameBut_parts]
      simp [hu]
    · rw [hdisplaces]
      exact ⟨hbegan.earlier (by simp [hu]) (displace_link _ u).1 (.of_held (by simp [hu])) (by simp [hu]), hnormal, hreminder⟩

/-! ### The end of a REMINDER (R147) -/

/-- The end of an entry that was not acknowledged clears its warning's mark (R90). -/
theorem endEntry_expired_warning {e : Entry} {w : Fin 48} (s : State) (h : e.source = .warning w) :
    (endEntry .expired e s).warning w = { s.warning w with mark := .none } := by
  have htold : (endEntry .expired e s).warning w = (warningEntryEnded w s).warning w := by
    simp [State.warning, endEntry, tellOwner, h]
  rw [htold]
  simp [warningEntryEnded]

theorem showTimeExpiry_answers {s : State} {sh : Shown} {due : Nat} (hpowered : s.powered = true)
    (hshown : s.anu.shown = some sh) (hdue : sh.showDue = some due) :
    ∃ t, exec .showTimeExpiry s = .next t ∧ t.now = max s.now due ∧
      s.sameBut t [.now, .lp, .weu, .dtu, .anu] ∧ t.anu.content = t.lineContent ∧
      (s.anu.held = true ∨ s.anu.queue = [] → t.anu.shown = none ∧ t.anu.queue = s.anu.queue) ∧
      (∀ e rest, s.anu.held = false → s.anu.queue = e :: rest → t.anu.queue = rest ∧ BeganShowing e s t) ∧
      ∀ w, sh.entry.source = .warning w → t.warning w = { s.warning w with mark := .none } := by
  obtain ⟨u, hu⟩ : ∃ u, u = endEntry .expired sh.entry (stopShown (s.reach due)) := ⟨_, rfl⟩
  obtain ⟨hcontent, hnothing, hhead⟩ := endShown_line (t := decideAfterEnd u) (by rw [hu])
  obtain ⟨hweu, -⟩ := decideAfterEnd_unshown (s := u) (by simp [hu])
  refine ⟨decideAfterEnd u, hu ▸ showTimeExpiry_next hpowered hshown hdue, by simp [hu, State.reach_now],
    by rw [State.sameBut_parts]; simp [hu], hcontent, fun hnone => by simpa using hnothing (by simpa using hnone),
    fun e rest hfree hqueue => ?_, fun w hsource => ?_⟩
  · obtain ⟨hrest, hbegan⟩ := hhead e rest (by simpa using hfree) (by simpa using hqueue)
    have hlink : LinkGrows s u := hu ▸ (LinkGrows.of_lp (by simp)).trans (endEntry_link _ _ (stopShown (s.reach due)))
    exact ⟨hrest, hbegan.ofReach (hlink.trans (decideAfterEnd_link u)).1⟩
  · have hended := endEntry_expired_warning (stopShown (s.reach due)) hsource
    have hafter : (decideAfterEnd u).warning w = u.warning w := by simp [State.warning, hweu]
    have hbefore : (stopShown (s.reach due)).warning w = s.warning w := by simp [State.warning]
    rw [hafter, hu, hended, hbefore]

/-! ### The rotation (R148) -/

theorem rotates_false {a : Annunciation} {sh : Shown} (h : a.held = true ∨ sh.entry.kind = .reminder ∨ sh.dwellDue ≠ none ∨
    ∀ e ∈ a.queue, e.level ≠ sh.entry.level) : a.rotates sh = false := by
  unfold Annunciation.rotates
  rcases h with h | h | h | h
  · simp [h]
  · simp [h]
  · simp [h]
  · have hnone : a.queue.any (fun e => decide (e.level = sh.entry.level)) = false :=
      List.any_eq_false.mpr fun e he => by simpa using h e he
    simp [hnone]

/-- An entry that has arrived last goes behind the head of its level. -/
theorem enqueue_behind {e f : Entry} {rest : List Entry} (hlevel : f.level = e.level) (harrival : f.arrival < e.arrival) :
    enqueue e (f :: rest) = f :: enqueue e rest := by
  have hafter : e.before f = false := decide_eq_false (by omega)
  simp [enqueue, hafter]

theorem State.setQueue_setQueue (s : State) (p q : List Entry) : (s.setQueue p).setQueue q = s.setQueue q := rfl

/-- The shown entry goes behind the entries of its level, and the head begins to be shown. -/
theorem rotate_head {s : State} {sh : Shown} {e : Entry} {rest : List Entry} (hshown : s.anu.shown = some sh)
    (hqueue : s.anu.queue = e :: rest) (hlevel : e.level = sh.entry.level) (harrival : e.arrival ≤ s.anu.arrivals)
    (hroom : s.anu.arrivals < 65535) : rotate s = beginShowing e ((stopShown (gainArrival s)).setQueue
      (enqueue { sh.entry with arrival := s.anu.arrivals + 1 } rest)) := by
  have hbehind : enqueue { sh.entry with arrival := s.anu.arrivals + 1 } (e :: rest) =
      e :: enqueue { sh.entry with arrival := s.anu.arrivals + 1 } rest :=
    enqueue_behind hlevel (Nat.lt_succ_of_le harrival)
  simp [rotate, gainArrival_counts hroom, hshown, hqueue, hbehind, showHead, State.setQueue_setQueue]

theorem rotationExpiry_answers {s : State} {sh : Shown} {due : Nat} (hpowered : s.powered = true)
    (hshown : s.anu.shown = some sh) (hdue : sh.rotationDue = some due) :
    ((s.anu.held = true ∨ sh.entry.kind = .reminder ∨ sh.dwellDue ≠ none ∨
        ∀ e ∈ s.anu.queue, e.level ≠ sh.entry.level) → exec .rotationExpiry s =
      .next ((s.setNow (max s.now due)).setAnu { s.anu with shown := some { sh with
        rotationDue := if s.cfg.line.rotation = 0 then none
          else some (max s.now due + s.cfg.line.rotation * 1000000) } })) ∧
    ∀ e rest, s.anu.held = false → sh.entry.kind = .normal → sh.dwellDue = none → s.anu.queue = e :: rest →
      e.level = sh.entry.level → e.arrival ≤ s.anu.arrivals → s.anu.arrivals < 65535 →
      ∃ t, exec .rotationExpiry s = .next t ∧ t.now = max s.now due ∧ s.sameBut t [.now, .lp, .anu] ∧
        BeganShowing e s t ∧ t.anu.queue.Perm ({ sh.entry with arrival := s.anu.arrivals + 1 } :: rest) ∧
        t.anu.arrivals = s.anu.arrivals + 1 ∧ t.anu.content = t.lineContent := by
  have hnext := rotationExpiry_next hpowered hshown hdue
  refine ⟨fun hstays => ?_, fun e rest hfree hkind hdwell hqueue hlevel harrival hroom => ?_⟩
  · rw [hnext, rotationExpired, if_neg (by simpa using rotates_false hstays)]
    rfl
  · have hrotates : (s.reach due).anu.rotates sh = true := by
      simp [Annunciation.rotates, hfree, hkind, hdwell, hqueue, hlevel]
    obtain ⟨u, hu⟩ : ∃ u, u = (stopShown (gainArrival (s.reach due))).setQueue
        (enqueue { sh.entry with arrival := s.anu.arrivals + 1 } rest) := ⟨_, rfl⟩
    have hrotated : rotationExpired sh (s.reach due) = beginShowing e u := by
      rw [rotationExpired, if_pos hrotates, hu]
      exact rotate_head hshown hqueue hlevel harrival hroom
    have hgained : gainArrival (s.reach due) = (s.reach due).setAnu { s.anu with arrivals := s.anu.arrivals + 1 } :=
      gainArrival_counts hroom
    obtain ⟨hwaiting, -, harrivals, -, -, hcontent⟩ := beginShowing_anu e u
    refine ⟨_, hrotated ▸ hnext, by simp [hu, State.reach_now], by rw [State.sameBut_parts]; simp [hu],
      (beginShowing_began e u).earlier (by simp [hu]) (beginShowing_link e u).1 (.of_held (by simp [hu])) (by simp [hu]),
      ?_, ?_, hcontent⟩
    · rw [hwaiting, hu]
      exact enqueue_perm _ _
    · rw [harrivals, hu, hgained]
      rfl

/-- Settles O52, timer by timer. -/
theorem timersOfTheShownEntry : Obligations.TimersOfTheShownEntry :=
  fun _ _ hpowered hshown => ⟨fun _ => dwellExpiry_answers hpowered hshown,
    fun _ => showTimeExpiry_answers hpowered hshown, fun _ => rotationExpiry_answers hpowered hshown⟩

end Sys2Proof.Machine
end

section
/-! PROOFS. O53: what the line shows (R135, R151), the display port (R152, R153) and the sounder (R154, R155). -/
namespace Sys2Proof.Machine

section
variable {s : State}

/-! ### The message on the line (R151, R152) -/

theorem State.onLine_shown {sh : Shown} (h : s.anu.shown = some sh) : s.onLine = some sh.entry.message := by
  rw [State.onLine, h]

theorem State.onLine_page (h : s.anu.shown = none) : s.onLine =
    (if s.psc.state = .sleep then none else if s.anu.proofHold = true then s.cfg.power.startMessage else s.cfg.restingPage) := by
  rw [State.onLine, h]
  rfl

theorem State.lineContent_blank (h : s.onLine = none) (j : Fin 16) : s.lineContent.get j = 0x20#8 := by
  rw [State.lineContent, h]
  exact Table.get_replicate 0x20#8 j

theorem State.lineContent_message {m : Fin 64} (h : s.onLine = some m) : s.lineContent = s.rendered m := by
  rw [State.lineContent, h]

theorem Placeholder.not_covers {p : Placeholder} {j : Fin 16} (h : j.val + 1 < p.start ∨ p.start + p.width ≤ j.val + 1) :
    ¬ p.covers j := by
  rintro ⟨hstart, hend⟩
  omega

section
variable {m : Fin 64} {c : Message} {j : Fin 16}

/-- A column that no placeholder occupies shows the message's own character (R135). -/
theorem lineContent_free (hline : s.onLine = some m) (hmessage : c = s.cfg.messages.get m)
    (hfree : ∀ p ∈ c.placeholders, j.val + 1 < p.start ∨ p.start + p.width ≤ j.val + 1) :
    s.lineContent.get j = c.chars.get j := by
  subst hmessage
  rw [State.lineContent_message hline]
  exact rendered_free s m j fun p hp => Placeholder.not_covers (hfree p hp)

/-- A column that one placeholder alone occupies shows dashes, stars or its text set to the right (R135). -/
theorem lineContent_covered (hline : s.onLine = some m) (hmessage : c = s.cfg.messages.get m) {p : Placeholder}
    (hp : p ∈ c.placeholders) (hstart : p.start ≤ j.val + 1) (hend : j.val + 1 < p.start + p.width)
    (hothers : ∀ q ∈ c.placeholders, q = p ∨ j.val + 1 < q.start ∨ q.start + q.width ≤ j.val + 1) :
    (s.fieldText p = none → s.lineContent.get j = 0x2D#8) ∧
    ∀ text, s.fieldText p = some text →
      (p.width < text.length → s.lineContent.get j = 0x2A#8) ∧
      (text.length ≤ p.width →
        (j.val + 1 + text.length < p.start + p.width → s.lineContent.get j = 0x20#8) ∧
        ∀ k b, text[k]? = some b → j.val + 1 + text.length = p.start + p.width + k → s.lineContent.get j = b) := by
  subst hmessage
  have hcolumn := rendered_covered s m j p hp ⟨hstart, hend⟩ fun q hq => (hothers q hq).imp_right Placeholder.not_covers
  rw [fitted_get _ _ _ (by omega), ← State.lineContent_message hline] at hcolumn
  refine ⟨fun hnone => by rw [hcolumn, hnone], fun text htext => ?_⟩
  rw [htext] at hcolumn
  dsimp only at hcolumn
  refine ⟨fun hwide => by rw [hcolumn, if_pos hwide], fun hfits => ⟨fun hleft => ?_, fun k b hk hplace => ?_⟩⟩
  · rw [hcolumn, if_neg (by omega), if_pos (by omega)]
  · have hindex : j.val + 1 - p.start + text.length - p.width = k := by omega
    rw [hcolumn, if_neg (by omega), if_neg (by omega), hindex, List.getD_eq_getElem?_getD, hk]
    rfl

end

/-! ### The text of a field (R135) -/

section
variable {p : Placeholder}

theorem fieldText_value {q : Fin 48} (h : p.field = .quantityValue q) :
    ((s.entry q).status ≠ .valid → s.fieldText p = none) ∧
    ((s.entry q).status = .valid → s.fieldText p = some (numberText p.format (s.entry q).value)) := by
  have htext : s.fieldText p = (s.validValue (some q)).map (numberText p.format) := by simp [State.fieldText, h]
  rw [htext]
  refine ⟨fun hvalid => ?_, fun hvalid => by rw [State.validValue_of_valid hvalid]; rfl⟩
  rw [State.validValue_eq_none (by rintro _ ⟨⟩; exact hvalid)]
  rfl

theorem fieldText_status {q : Fin 48} (h : p.field = .quantityStatus q) :
    s.fieldText p = some (s.entry q).status.word := by
  simp [State.fieldText, h]

section
variable {i : Fin 2}

theorem fieldText_card (h : p.field = .slotCard i) :
    s.fieldText p = some (if (s.slot i).card.isSome = true then word "CARD" else word "EMPTY") := by
  simp [State.fieldText, h]

/-- The fields of a slot without a card are filled with dashes. -/
theorem fieldText_noCard (hcard : (s.slot i).card = none) (h : p.field ∈ [.slotActivity i, .continuousRemaining i,
    .dailyRemaining i, .weeklyRemaining i, .breakCredit i]) : s.fieldText p = none := by
  simp only [List.mem_cons, List.not_mem_nil, or_false] at h
  rcases h with h | h | h | h | h <;> simp [State.fieldText, h, hcard]

theorem fieldText_slot (hcard : (s.slot i).card.isSome = true) :
    (p.field = .slotActivity i → s.fieldText p = some (s.slot i).activity.word) ∧
    (p.field = .continuousRemaining i → s.fieldText p =
      some (numberText p.format (((s.limits i).continuous : Int) - ((s.slot i).continuous : Int)))) ∧
    (p.field = .dailyRemaining i → s.fieldText p =
      some (numberText p.format (((s.limits i).daily : Int) - ((s.slot i).daily : Int)))) ∧
    (p.field = .weeklyRemaining i → s.fieldText p =
      some (numberText p.format (((s.limits i).weekly : Int) - ((s.slot i).weekly : Int)))) ∧
    (p.field = .breakCredit i → s.fieldText p = some (numberText p.format ((s.slot i).credit : Int))) := by
  refine ⟨fun h => ?_, fun h => ?_, fun h => ?_, fun h => ?_, fun h => ?_⟩ <;>
    simp [State.fieldText, h, hcard, State.remaining, State.limits, LimitSet.limit, Slot.counter]

end

theorem word_ascii {ascii : String → List Byte} (h : ∀ x, ascii x = x.toList.map fun c => BitVec.ofNat 8 c.toNat) :
    word = ascii := by
  funext x
  exact (h x).symm

theorem fieldText_says (p : Placeholder) {ascii : String → List Byte}
    (hascii : ∀ x, ascii x = x.toList.map fun c => BitVec.ofNat 8 c.toNat) :
    (∀ q, p.field = .quantityValue q → ((s.entry q).status ≠ .valid → s.fieldText p = none) ∧
      ((s.entry q).status = .valid → s.fieldText p = some (numberText p.format (s.entry q).value))) ∧
    (∀ q, p.field = .quantityStatus q → s.fieldText p = some (match (s.entry q).status with
      | .valid => ascii "VALID"
      | .stale => ascii "STALE"
      | .fault => ascii "FAULT"
      | .absent => ascii "NONE")) ∧
    ∀ i, (p.field = .slotCard i →
        s.fieldText p = some (if (s.slot i).card.isSome = true then ascii "CARD" else ascii "EMPTY")) ∧
      ((s.slot i).card = none →
        p.field ∈ [.slotActivity i, .continuousRemaining i, .dailyRemaining i, .weeklyRemaining i, .breakCredit i] →
        s.fieldText p = none) ∧
      ((s.slot i).card.isSome = true →
        (p.field = .slotActivity i → s.fieldText p = some (match (s.slot i).activity with
          | .driving => ascii "DRIVE"
          | .work => ascii "WORK"
          | .available => ascii "AVAIL"
          | .rest => ascii "REST"
          | .unknown => ascii "UNKN")) ∧
        (p.field = .continuousRemaining i → s.fieldText p =
          some (numberText p.format (((s.limits i).continuous : Int) - ((s.slot i).continuous : Int)))) ∧
        (p.field = .dailyRemaining i → s.fieldText p =
          some (numberText p.format (((s.limits i).daily : Int) - ((s.slot i).daily : Int)))) ∧
        (p.field = .weeklyRemaining i → s.fieldText p =
          some (numberText p.format (((s.limits i).weekly : Int) - ((s.slot i).weekly : Int)))) ∧
        (p.field = .breakCredit i → s.fieldText p = some (numberText p.format ((s.slot i).credit : Int)))) := by
  obtain rfl := word_ascii hascii
  refine ⟨fun q => fieldText_value, fun q h => ?_, fun i => ⟨fieldText_card, fieldText_noCard, fun hcard => ?_⟩⟩
  · rw [fieldText_status h]
    cases (s.entry q).status <;> rfl
  · obtain ⟨hactivity, hnumbers⟩ := fieldText_slot (p := p) hcard
    refine ⟨fun h => ?_, hnumbers⟩
    rw [hactivity h]
    cases (s.slot i).activity <;> rfl

end

/-! ### Numbers (R135) -/

theorem decimal_digit {n : Nat} (h : n < 10) : decimal n = [byte (48 + n)] := by
  rw [decimal_step, if_pos h, Nat.mod_eq_of_lt h]
  rfl

/-- Minutes are written with two digits. -/
theorem minutes_digits {n : Nat} (h : n < 60) : (if n < 10 then [0x30#8] else []) ++ decimal n =
    [byte (48 + n / 10), byte (48 + n % 10)] := by
  split
  · next hone =>
    rw [decimal_digit hone, Nat.div_eq_of_lt hone, Nat.mod_eq_of_lt hone]
    rfl
  · next htwo =>
    rw [decimal_step, if_neg htwo, decimal_digit (show n / 10 < 10 by omega)]
    rfl

theorem numberText_hours (v : Int) : numberText .hoursMinutes v = (if v < 0 then [0x2D#8] else []) ++
    decimal (v.natAbs / 60) ++
    [0x3A#8, byte (48 + v.natAbs % 60 / 10), byte (48 + v.natAbs % 60 % 10)] := by
  have hminutes := minutes_digits (n := v.natAbs % 60) (by omega)
  rw [numberText, hoursText, List.append_assoc _ _ (decimal _), hminutes, List.append_assoc _ [0x3A#8]]
  rfl

/-! ### When the sounder sounds (R154, R155) -/

theorem sounding_pattern (start : Nat) :
    (s.anu.sounder = .silent → s.sounding = false) ∧
    (s.anu.sounder = .oneShot .single (start + 200000) ∨ s.anu.sounder = .oneShot .proofTone (start + 200000) →
      s.now < start + 200000 → s.sounding = true) ∧
    (s.anu.sounder = .click (start + 20000) → s.now < start + 20000 → s.sounding = true) ∧
    (s.anu.sounder = .oneShot .double (start + 450000) → start ≤ s.now → s.now < start + 450000 →
      (s.sounding = true ↔ s.now < start + 150000 ∨ start + 300000 ≤ s.now)) ∧
    (s.anu.sounder = .repeating false (start + 2000000) → start ≤ s.now → s.now < start + 2000000 →
      (s.sounding = true ↔ s.now < start + 300000)) ∧
    (s.anu.sounder = .repeating true (start + 600000) → start ≤ s.now → s.now < start + 600000 →
      (s.sounding = true ↔ s.now < start + 200000)) := by
  unfold State.sounding
  refine ⟨fun h => by rw [h]; rfl, fun h hnow => ?_, fun h hnow => ?_, fun h hfrom hnow => ?_, fun h hfrom hnow => ?_,
    fun h hfrom hnow => ?_⟩
  · rcases h with h | h <;> rw [h] <;> exact decide_eq_true hnow
  · rw [h]
    exact decide_eq_true hnow
  · rw [h]
    rw [Sounder.sounds, decide_eq_true_iff]
    simp only [Config.ms]
    omega
  all_goals
    rw [h, Sounder.sounds, decide_eq_true_iff]
    simp only [repeatPeriod, repeatTone, Config.ms, if_true, Bool.false_eq_true, if_false]
    omega

/-! ### The display port (R152, R153) -/

/-- A rendering with no transfer in progress starts one where the content is not the last sent. -/
theorem renderLine_idle (h : s.anu.transfer = none) : renderLine s = s.setAnu { s.anu with
    content := s.lineContent
    transfer := if s.lineContent = s.anu.lastSent then none else some ⟨s.lineContent, s.now + 2000⟩ } := by
  simp only [renderLine, h]
  split <;> rfl

/-- A rendering during a transfer owes another one where the content is not the one being sent. -/
theorem renderLine_sending {x : Transfer} (h : s.anu.transfer = some x) : renderLine s = s.setAnu { s.anu with
    content := s.lineContent, owed := if s.lineContent = x.content then s.anu.owed else true } := by
  simp only [renderLine, h]
  split <;> simp

section
variable (hpowered : s.powered = true)
include hpowered

theorem lineRefresh_answers {due : Nat} (hdue : s.anu.refreshDue = some due) :
    ∃ t, exec .lineRefresh s = .next t ∧ t.now = max s.now due ∧
      s.sameBut t [.now, .anu] ∧ t.anu.content = t.lineContent ∧
      t.anu = { s.anu with
        refreshDue := some (due + 1000000), content := t.anu.content, transfer := t.anu.transfer, owed := t.anu.owed } ∧
      (s.anu.transfer = none → t.anu.owed = s.anu.owed ∧
        t.anu.transfer = (if t.anu.content = s.anu.lastSent then none else some ⟨t.anu.content, t.now + 2000⟩)) ∧
      ∀ x, s.anu.transfer = some x → t.anu.transfer = some x ∧
        t.anu.owed = (if t.anu.content = x.content then s.anu.owed else true) := by
  obtain ⟨u, hu⟩ : ∃ u, u = (s.reach due).setAnu { s.anu with refreshDue := some (due + 1000000) } := ⟨_, rfl⟩
  have hnext : exec .lineRefresh s = .next (renderLine u) := by
    show execLineRefresh s = _
    simp [execLineRefresh, hpowered, hdue, hu, Config.refreshInterval, Config.sec]
  have hanu : u.anu = { s.anu with refreshDue := some (due + 1000000) } := by simp [hu]
  refine ⟨_, hnext, by simp [hu, State.reach_now], by rw [State.sameBut_parts]; simp [hu], renderLine_content u, ?_,
    fun htransfer => ?_, fun x htransfer => ?_⟩
  · cases htransfer : s.anu.transfer with
    | none => simp [renderLine_idle (s := u) (by simp [hanu, htransfer]), hanu]
    | some x => simp [renderLine_sending (s := u) (x := x) (by simp [hanu, htransfer]), hanu, htransfer]
  · rw [renderLine_idle (s := u) (by simp [hanu, htransfer])]
    simp [hanu]
  · rw [renderLine_sending (s := u) (x := x) (by simp [hanu, htransfer])]
    simp [hanu, htransfer]

theorem transferCompletion_next {x : Transfer} (htransfer : s.anu.transfer = some x) :
    exec .transferCompletion s = .next (completeTransfer x (s.reach x.due)) := by
  show execTransferCompletion s = _
  simp [execTransferCompletion, hpowered, htransfer]

theorem transferCompletion_answers {x : Transfer} (htransfer : s.anu.transfer = some x) :
    (s.anu.owed = false → exec .transferCompletion s = .next ((s.setNow (max s.now x.due)).setAnu
      { s.anu with lastSent := x.content, transfer := none })) ∧
    (s.anu.owed = true → ∃ t, exec .transferCompletion s = .next t ∧ t.now = max s.now x.due ∧
      s.sameBut t [.now, .anu] ∧ t.anu = { s.anu with
        lastSent := x.content, owed := false, content := t.lineContent
        transfer := if t.lineContent = x.content then none else some ⟨t.lineContent, t.now + 2000⟩ }) := by
  obtain ⟨u, hu⟩ : ∃ u, u = (s.reach x.due).setAnu { s.anu with lastSent := x.content, transfer := none, owed := false } :=
    ⟨_, rfl⟩
  have hnext := transferCompletion_next hpowered htransfer
  refine ⟨fun howed => ?_, fun howed => ?_⟩
  · have hdone : completeTransfer x (s.reach x.due) = u := by simp [completeTransfer, howed, hu]
    rw [hnext, hdone, hu, ← howed]
    rfl
  · have hanu : u.anu = { s.anu with lastSent := x.content, transfer := none, owed := false } := by simp [hu]
    have hdone : completeTransfer x (s.reach x.due) = renderLine u := by simp [completeTransfer, howed, hu]
    have hline : (renderLine u).lineContent = u.lineContent := by rw [← renderLine_content, renderLine_shows]
    refine ⟨_, hdone ▸ hnext, by simp [hu, State.reach_now], by rw [State.sameBut_parts]; simp [hu], ?_⟩
    rw [hline, renderLine_idle (s := u) (by simp [hanu])]
    simp [hanu]

/-! ### The ends of the sounds (R154, R155) -/

theorem oneShotEnd_next {sound : OneShot} {due : Nat} (h : s.anu.sounder = .oneShot sound due) : exec .oneShotEnd s =
    .next ((s.setNow (max s.now due)).setAnu { s.anu with sounder := .silent }) := by
  show execOneShotEnd s = _
  simp only [execOneShotEnd, event_powered _ _ hpowered, h]
  rfl

theorem clickEnd_next {due : Nat} (h : s.anu.sounder = .click due) : exec .clickEnd s =
    .next ((s.setNow (max s.now due)).setAnu { s.anu with sounder := .silent }) := by
  show execClickEnd s = _
  simp only [execClickEnd, event_powered _ _ hpowered, h]
  rfl

theorem repeatPeriod_next {fast : Bool} {due : Nat} (h : s.anu.sounder = .repeating fast due) : exec .repeatPeriod s =
    .next ((s.setNow (max s.now due)).setAnu
      { s.anu with sounder := .repeating fast (due + if fast = true then 600000 else 2000000) }) := by
  show execRepeatPeriod s = _
  simp only [execRepeatPeriod, event_powered _ _ hpowered, h]
  cases fast <;> rfl

end

end

/-- Settles O53: the line column by column, the texts, the sounder's tones, and the events of the display port and the
sounder. -/
theorem displayPortAndSounderAdvance : Obligations.DisplayPortAndSounderAdvance := by
  refine ⟨fun s => ⟨fun sh => State.onLine_shown, State.onLine_page, State.lineContent_blank, fun m c hline hmessage j =>
      ⟨lineContent_free hline hmessage, fun p => lineContent_covered hline hmessage⟩⟩,
    fun s p ascii => fieldText_says p, fun n v sign hsign => ?_, fun s => sounding_pattern,
    fun s hpowered => ⟨fun due => lineRefresh_answers hpowered, fun x => transferCompletion_answers hpowered,
      fun sound due => oneShotEnd_next hpowered, fun due => clickEnd_next hpowered, fun fast due => repeatPeriod_next hpowered⟩⟩
  subst hsign
  exact ⟨decimal_step n, rfl, numberText_hours v⟩

end Sys2Proof.Machine
end

section
/-! PROOFS. O11: the checks of R175 in their order, the refusals that change nothing (R176, R198), and the requests that a
save in progress refuses (R191). -/
namespace Sys2Proof.Machine

/-! ### The request that a KIND names -/

/-- What a list without repetition in one of its keys finds by the key of a member is that member. -/
theorem find_of_nodup_keys {α β : Type} [DecidableEq β] (key : α → β) {l : List α} (hl : (l.map key).Nodup) {a : α}
    (ha : a ∈ l) : (l.find? fun x => decide (key x = key a)) = some a := by
  obtain ⟨b, hb⟩ : ∃ b, (l.find? fun x => decide (key x = key a)) = some b := by
    rw [← Option.isSome_iff_exists, List.find?_isSome]
    exact ⟨a, ha, by simp⟩
  have hkey : key b = key a := by simpa using List.find?_some hb
  rw [hb, List.inj_on_of_nodup_map hl (List.mem_of_find?_eq_some hb) ha hkey]

/-- The requests stand in the order of R195. -/
theorem requests_kinds : requests.map Request.kind = requestKinds := rfl

theorem requestKinds_nodup : requestKinds.Nodup := by decide

/-- No two requests have one KIND. -/
theorem requests_kind_injective {r q : Request} (hr : r ∈ requests) (hq : q ∈ requests) (h : r.kind = q.kind) : r = q :=
  List.inj_on_of_nodup_map (requests_kinds ▸ requestKinds_nodup) hr hq h

/-- The frame of a request is taken by that request. -/
theorem takeFrame_request {r : Request} (hr : r ∈ requests) (tag : Byte) (body : List Byte) (s : State) :
    takeFrame tag r.kind body s = r.take tag body s := by
  rw [takeFrame, find_of_nodup_keys Request.kind (requests_kinds ▸ requestKinds_nodup) hr]

/-- A frame whose KIND names no request is taken as an unknown one. -/
theorem takeFrame_unknown {kind : Byte} (h : kind ∉ requestKinds) (tag : Byte) (body : List Byte) (s : State) :
    takeFrame tag kind body s = takeUnknown tag kind s := by
  have hnone : (requests.find? fun r => decide (r.kind = kind)) = none := by
    rw [List.find?_eq_none]
    intro r hr hkind
    exact h (requests_kinds ▸ List.mem_map.mpr ⟨r, hr, by simpa using hkind⟩)
  rw [takeFrame, hnone]

/-! ### Steps 2 to 4 of R175 -/

theorem takeUnknown_answers (tag kind : Byte) {s : State} (h : s.lp.reply = none) :
    takeUnknown tag kind s = beginReply tag kind .unknown [] (goodFrame s) := by
  simp [takeUnknown, h]

theorem unknownRequest_next {tag kind : Byte} {s : State} (hs : s.listens) (hkind : kind ∉ requestKinds) :
    exec (.unknownRequest tag kind) s = .next (beginReply tag kind .unknown [] (goodFrame s)) := by
  obtain ⟨hpowered, hreply⟩ := hs
  show execUnknownRequest tag kind s = _
  rw [execUnknownRequest, event_powered _ _ hpowered, if_neg (by simpa using hkind), takeUnknown_answers tag kind hreply]

section
variable {r : Request} {body : List Byte} {s : State}

theorem Request.take_length (tag : Byte) (h : s.lp.reply = none) (hfits : r.fits body = false) :
    r.take tag body s = beginReply tag r.kind .length [] (goodFrame s) := by
  simp [r.take_answers tag body s h, Request.judge, hfits, Answer.refuse]

theorem Request.take_asleep (tag : Byte) (h : s.lp.reply = none) (hfits : r.fits body = true) (hsleep : s.psc.state = .sleep)
    (hout : r.inSleep = false) : r.take tag body s = beginReply tag r.kind .asleep [] (goodFrame s) := by
  simp [r.take_answers tag body s h, Request.judge, hfits, hsleep, hout, Answer.refuse]

end

/-- The nine requests of R170 are those that SLEEP accepts. -/
theorem requests_inSleep : ∀ r ∈ requests, r.inSleep = true →
    r.kind ∈ [0x01#8, 0x02#8, 0x03#8, 0x06#8, 0x09#8, 0x42#8, 0x43#8, 0x44#8, 0x45#8] := by
  decide

/-! ### Refusals change nothing (R176, R198) -/

/-- The answer to a request judged in a state changes nothing and has an empty body if it refuses. -/
def Answer.Clean (s : State) (a : Answer) : Prop := a.status.refusal = true → a.state = s ∧ a.body = []

theorem Answer.Clean.refuse (s : State) (status : Status) : (Answer.refuse s status).Clean s := fun _ => ⟨rfl, rfl⟩

theorem Answer.Clean.accept {s : State} {a : Answer} (h : a.status.refusal = false) : a.Clean s := fun hrefusal => by
  simp [h] at hrefusal

theorem Answer.Clean.ok (s t : State) : (Answer.ok t).Clean s := .accept rfl

theorem Answer.Clean.okWith (s t : State) (body : List Byte) : (Answer.okWith t body).Clean s := .accept rfl

theorem Answer.Clean.ite {p : Prop} [Decidable p] {s : State} {a b : Answer} (ha : a.Clean s) (hb : b.Clean s) :
    (if p then a else b).Clean s := by
  split
  · exact ha
  · exact hb

theorem Answer.Clean.reading {α : Type} {read : Option α} {act : α → Answer} {s : State} (h : ∀ x, (act x).Clean s) :
    (reading read act s).Clean s := by
  unfold Machine.reading
  split
  · exact .refuse s .range
  · exact h _

theorem Answer.Clean.configuring {α : Type} {read : Option α} {act : α → Answer} {s : State} (h : ∀ x, (act x).Clean s) :
    (configuring read act s).Clean s :=
  .ite (.refuse s .busy) (.reading h)

/-- Every refusal by a request's own rule changes nothing and has an empty body. -/
def Request.RefusesClean (r : Request) : Prop := ∀ body s, (r.run body s).Clean s

theorem linkRequests_refuse : ∀ r ∈ [fetchReportsRequest, statusRequest, identifyRequest, setRouteRequest,
    configureLinkRequest, resetRequest], r.RefusesClean := by
  simp only [List.forall_mem_cons, List.not_mem_nil, false_imp_iff, implies_true, and_true]
  exact ⟨fun _ s => .reading fun _ => .okWith s _ _, fun _ s => .okWith s s _, fun _ s => .okWith s s _,
    fun _ s => .configuring fun _ => .ok s _, fun _ s => .configuring fun _ => .ok s _, fun _ s => .ok s s⟩

theorem powerRequests_refuse : ∀ r ∈ [sleepRequest, wakeRequest, configurePowerRequest], r.RefusesClean := by
  simp only [List.forall_mem_cons, List.not_mem_nil, false_imp_iff, implies_true, and_true]
  refine ⟨fun _ s => ?_, fun _ s => ?_, fun _ s => .configuring fun _ => .ok s _⟩
  · simp only [sleepRequest]
    split
    · exact .refuse s .asleep
    · exact .refuse s .busy
    · exact .ite (.refuse s .driving) (.ok s _)
    · exact .ok s s
  · simp only [wakeRequest]
    split <;> exact .ok s _

theorem storeRequests_refuse : ∀ r ∈ [saveConfigurationRequest, lockCalibrationRequest, readConfigurationRequest],
    r.RefusesClean := by
  simp only [List.forall_mem_cons, List.not_mem_nil, false_imp_iff, implies_true, and_true]
  exact ⟨fun _ s => .ite (.refuse s .busy) (.ok s _),
    fun _ s => .ite (.refuse s .busy) (.ite (.refuse s .conflict) (.ok s _)),
    fun _ s => .reading fun _ => .okWith s s _⟩

theorem quantityRequests_refuse : ∀ r ∈ [configureQuantityRequest, setQuantitiesRequest, readQuantitiesRequest],
    r.RefusesClean := by
  simp only [List.forall_mem_cons, List.not_mem_nil, false_imp_iff, implies_true, and_true]
  exact ⟨fun _ s => .configuring fun _ => .ite (.refuse s .locked) (.ok s _), fun _ s => .okWith s _ _,
    fun _ s => .reading fun _ => .okWith s s _⟩

theorem scanRequests_refuse : ∀ r ∈ [configureScanRequest, scanStartRequest, scanStopRequest, scanOnceRequest,
    readScanRequest], r.RefusesClean := by
  simp only [List.forall_mem_cons, List.not_mem_nil, false_imp_iff, implies_true, and_true]
  refine ⟨fun _ s => .ite (.refuse s .busy) (.ite (.refuse s .notStopped) (.reading fun _ => ?_)), fun _ s => ?_,
    fun _ s => .ite (.ok s s) (.ok s _),
    fun _ s => .ite (.refuse s .busy) (.ite (.ok s _) (.refuse s .range)), fun _ s => .okWith s s _⟩
  · split <;> exact .accept rfl
  · simp only [scanStartRequest]
    split
    · exact .refuse s .busy
    · exact .ok s s
    · exact .ite (.refuse s .conflict) (.ok s _)

theorem configuredGauge_clean (c : GaugeSettings) (s t : State) : (configuredGauge c t).Clean s :=
  .ite (.ok s t) (.accept rfl)

theorem parkGauge_clean (g : Fin 6) (s : State) : (parkGauge g s).Clean s :=
  .ite (.ok s s) (.ite (.refuse s .state) (.ok s _))

theorem gaugeRequests_refuse : ∀ r ∈ [configureGaugeRequest, homeGaugeRequest, parkGaugeRequest, releaseGaugeRequest,
    positionGaugeRequest, readGaugeRequest], r.RefusesClean := by
  simp only [List.forall_mem_cons, List.not_mem_nil, false_imp_iff, implies_true, and_true]
  exact ⟨fun _ s => .configuring fun _ => .ite (.refuse s .locked) (.ite (.refuse s .state) (configuredGauge_clean _ s _)),
    fun _ s => .reading fun _ => .ok s _, fun _ s => .reading fun g => parkGauge_clean g s,
    fun _ s => .ite (.refuse s .state) (.reading fun _ => .ite (.refuse s .state) (.ok s _)),
    fun _ s => .reading fun _ => .ite (.refuse s .state) (.ok s _), fun _ s => .reading fun _ => .okWith s s _⟩

theorem evaluationRequests_refuse : ∀ r ∈ [configureShapeRequest, configureCriterionRequest, configureEvaluationRequest,
    readStrengthRequest], r.RefusesClean := by
  simp only [List.forall_mem_cons, List.not_mem_nil, false_imp_iff, implies_true, and_true]
  exact ⟨fun _ s => .configuring fun _ => .ok s _, fun _ s => .configuring fun _ => .ok s _,
    fun _ s => .configuring fun _ => .ok s _, fun _ s => .reading fun _ => .okWith s s _⟩

section
variable (w : Fin 48) (s : State)

theorem acknowledgeByHost_clean : (acknowledgeByHost w s).Clean s := by
  unfold acknowledgeByHost
  split
  · exact .ok s _
  · exact .ok s _
  · exact .ite (.ok s s) (.ok s _)
  all_goals exact .refuse s .conflict

theorem clearByHost_clean : (clearByHost w s).Clean s := by
  unfold clearByHost
  split
  any_goals exact .ok s _
  all_goals exact .refuse s .conflict

theorem suppressByHost_clean : (suppressByHost w s).Clean s := by
  unfold suppressByHost
  split
  · exact .refuse s .conflict
  all_goals exact .ok s _

theorem restoreByHost_clean : (restoreByHost w s).Clean s := .ite (.ok s _) (.refuse s .conflict)

end

theorem warningRequests_refuse : ∀ r ∈ [configureWarningRequest, acknowledgeWarningRequest, clearWarningRequest,
    suppressWarningRequest, restoreWarningRequest, readWarningRequest, configureLampRequest, configureDimmerRequest,
    setLampsRequest, readLampsRequest], r.RefusesClean := by
  simp only [List.forall_mem_cons, List.not_mem_nil, false_imp_iff, implies_true, and_true]
  exact ⟨fun _ s => .configuring fun _ => .ok s _, fun _ s => .reading fun w => acknowledgeByHost_clean w s,
    fun _ s => .reading fun w => clearByHost_clean w s, fun _ s => .reading fun w => suppressByHost_clean w s,
    fun _ s => .reading fun w => restoreByHost_clean w s, fun _ s => .reading fun _ => .okWith s s _,
    fun _ s => .configuring fun _ => .ok s _, fun _ s => .configuring fun _ => .ok s _, fun _ s => .okWith s _ _,
    fun _ s => .okWith s s _⟩

theorem storeActivity_clean (i : Fin 2) (a : Activity) (s : State) : (storeActivity i a s).Clean s := by
  unfold storeActivity
  split
  · exact .ok s _
  · exact .accept rfl

theorem dutyRequests_refuse : ∀ r ∈ [configureDutyRequest, stageLimitsRequest, dutyActivityRequest, cardInRequest,
    cardOutRequest, readDutyRequest], r.RefusesClean := by
  simp only [List.forall_mem_cons, List.not_mem_nil, false_imp_iff, implies_true, and_true]
  exact ⟨fun _ s => .configuring fun _ => .ok s _, fun _ s => .reading fun _ => .ok s _,
    fun _ s => .reading fun x => .ite (.refuse s .noCard) (.ite (.refuse s .asleep) (storeActivity_clean x.1 x.2 s)),
    fun _ s => .reading fun _ => .ite (.refuse s .conflict) (.ite (.refuse s .range)
      (.ite (.refuse s .asleep) (.ok s _))),
    fun _ s => .reading fun _ => .ite (.refuse s .noCard) (.ok s _), fun _ s => .reading fun _ => .okWith s s _⟩

theorem lineRequests_refuse : ∀ r ∈ [configureMessageRequest, configureLineRequest, configureDutyMessagesRequest,
    setPriorityMapRequest, holdRequest, releaseRequest, acknowledgeShownRequest, announceRequest, withdrawRequest,
    setRestingPageRequest, chimeClickRequest, readLineRequest], r.RefusesClean := by
  simp only [List.forall_mem_cons, List.not_mem_nil, false_imp_iff, implies_true, and_true]
  refine ⟨fun _ s => .configuring fun _ => .ok s _, fun _ s => .configuring fun _ => .ok s _,
    fun _ s => .configuring fun _ => .ok s _, fun _ s => .configuring fun _ => .ite (.ok s _) (.refuse s .noHold),
    fun _ s => .ok s _, fun _ s => .ite (.ok s _) (.ok s s), fun _ s => ?_, fun _ s => .reading fun _ => .okWith s _ _,
    fun _ s => .reading fun _ => .okWith s _ _, fun _ s => .configuring fun _ => .ok s _,
    fun _ s => .ite (.ok s _) (.accept rfl), fun _ s => .okWith s s _⟩
  simp only [acknowledgeShownRequest]
  split
  · exact .refuse s .state
  · exact .okWith s _ _

theorem requests_refuse : ∀ r ∈ requests, r.RefusesClean := by
  simp only [requests, List.forall_mem_append]
  exact ⟨⟨⟨⟨⟨⟨⟨⟨⟨linkRequests_refuse, powerRequests_refuse⟩, storeRequests_refuse⟩, quantityRequests_refuse⟩,
    scanRequests_refuse⟩, gaugeRequests_refuse⟩, evaluationRequests_refuse⟩, warningRequests_refuse⟩,
    dutyRequests_refuse⟩, lineRequests_refuse⟩

/-- The refusals of steps 3 and 4 are of the same kind as those of a request's own rule. -/
theorem Request.RefusesClean.judge {r : Request} (h : r.RefusesClean) (body : List Byte) (s : State) :
    (r.judge body s).Clean s :=
  .ite (.refuse s .length) (.ite (.refuse s .asleep) (h body s))

/-! ### A save in progress (R191) -/

/-- A request is refused with BUSY while a save is in progress, before its body is read. -/
def Request.BusyWhileSaving (r : Request) : Prop := ∀ body s, s.saving = true → r.run body s = Answer.refuse s .busy

/-- The requests that R191 lists, by rising KIND. -/
def busyRequests : List Request :=
  [setRouteRequest, configureLinkRequest, configurePowerRequest, saveConfigurationRequest, lockCalibrationRequest,
    configureQuantityRequest, configureScanRequest, configureGaugeRequest, configureShapeRequest,
    configureCriterionRequest, configureEvaluationRequest, configureWarningRequest, configureLampRequest,
    configureDimmerRequest, configureDutyRequest, configureMessageRequest, configureLineRequest,
    configureDutyMessagesRequest, setPriorityMapRequest, setRestingPageRequest]

theorem busyRequests_kinds : busyRequests.map Request.kind =
    [0x04#8, 0x05#8, 0x0A#8, 0x0C#8, 0x0D#8, 0x10#8, 0x18#8, 0x20#8, 0x28#8, 0x29#8, 0x2A#8, 0x30#8, 0x36#8, 0x37#8,
      0x40#8, 0x48#8, 0x49#8, 0x4A#8, 0x4B#8, 0x51#8] := rfl

theorem busyRequests_subset : busyRequests ⊆ requests := by
  simp [busyRequests, requests]

/-- A request with the KIND of one that R191 lists is that one. -/
theorem mem_busyRequests {r : Request} (hr : r ∈ requests) (h : r.kind ∈ busyRequests.map Request.kind) :
    r ∈ busyRequests := by
  obtain ⟨q, hq, hkind⟩ := List.mem_map.mp h
  rwa [← requests_kind_injective (busyRequests_subset hq) hr hkind]

theorem Request.BusyWhileSaving.of_configuring {r : Request} {α : Type} {read : List Byte → State → Option α}
    {act : List Byte → State → α → Answer} (hrun : ∀ b s, r.run b s = configuring (read b s) (act b s) s) :
    r.BusyWhileSaving := fun body s hs => by
  rw [hrun, configuring_busy _ _ s hs]

theorem busyRequests_busy : ∀ r ∈ busyRequests, r.BusyWhileSaving := by
  simp only [busyRequests, List.forall_mem_cons, List.not_mem_nil, false_imp_iff, implies_true, and_true]
  refine ⟨?_, ?_, ?_, fun _ _ h => if_pos h, fun _ _ h => if_pos h, ?_, fun _ _ h => if_pos h, ?_, ?_, ?_, ?_, ?_, ?_, ?_,
    ?_, ?_, ?_, ?_, ?_, ?_⟩
  all_goals exact .of_configuring fun _ _ => rfl

/-- Settles O11: the frame is taken by the request that its KIND names, and each check is a rule of its own. -/
theorem requestsAreJudgedInOrder : Obligations.RequestsAreJudgedInOrder := by
  refine ⟨⟨fun tag s hs => ⟨fun kind hkind => ⟨unknownRequest_next hs hkind, fun body => ?_⟩,
    fun r hr body => ⟨fun hfits => ?_, fun hfits hsleep hnine => ?_⟩⟩,
    fun r hr body s => (requests_refuse r hr).judge body s⟩, fun tag s hs hsaving r hr hlisted body hfits => ?_⟩
  · obtain ⟨-, hreply⟩ := hs
    rw [takeFrame_unknown hkind, takeUnknown_answers tag kind hreply]
  · obtain ⟨-, hreply⟩ := hs
    rw [takeFrame_request hr, r.take_length tag hreply hfits]
  · obtain ⟨-, hreply⟩ := hs
    rw [takeFrame_request hr, r.take_asleep tag hreply hfits hsleep]
    exact Bool.eq_false_iff.mpr fun hin => hnine (requests_inSleep r hr hin)
  · obtain ⟨⟨-, hreply⟩, hawake⟩ := hs
    have hbusy := busyRequests_busy r (mem_busyRequests hr (busyRequests_kinds ▸ hlisted)) body (goodFrame s)
      (by simpa using hsaving)
    rw [takeFrame_request hr, r.take_runs tag body s hreply hfits (.inl hawake), hbusy]
    rfl

end Sys2Proof.Machine
end

section
/-! PROOFS. O17 and O19: the request WAKE and the key sample, by the power state that takes them (R162, R163, R167, R169). -/
namespace Sys2Proof.Machine

/-! ### The record of a change -/

/-- What stands first depends on the queue, the routes and the duty clock before the change alone. -/
theorem ReportedFirst.of_same {k : ReportKind} {a b : Nat} {s u t : State} (h : ReportedFirst k a b u t)
    (hlp : u.lp = s.lp) (hcfg : u.cfg = s.cfg) (hdtu : u.dtu = s.dtu) : ReportedFirst k a b s t := by
  unfold ReportedFirst at h ⊢
  rwa [hlp, hcfg, hdtu] at h

/-- The reply to a request leaves first what stood first. -/
theorem ReportedFirst.answered {k : ReportKind} {a b : Nat} {s t : State} (h : ReportedFirst k a b s t)
    (tag kind : Byte) (status : Status) (body : List Byte) : ReportedFirst k a b s (beginReply tag kind status body t) :=
  h.before (by simp)

/-- The entry to PROVING hands on POWER STATE before every other report (R163, R172). -/
theorem enterProving_first (old : Nat) (cause : PowerCause) (s : State) :
    ReportedFirst .powerState 1 (old + 256 * code PowerCause.list cause) s (enterProving old cause s) := by
  have hqueue : (provingPower old cause s).lp.queue <+: (enterProving old cause s).lp.queue := by
    rw [enterProving_stages, settleLink_queue]
    exact (enterProving_grows old cause s).1
  simpa [State.setPower, show code PowerState.list .proving = 1 from rfl] using
    handPowerState_first old cause s _ _ (by simp) (by simp) (by simp) hqueue

/-! ### WAKE (R169) -/

theorem wakeRequest_rests (b : List Byte) {s : State} (h : s.psc.state = .proving ∨ s.psc.state = .run) :
    wakeRequest.run b s = Answer.ok s := by
  rcases h with h | h <;> simp [wakeRequest, h]

theorem wakeRequest_proves (b : List Byte) {s : State} (h : s.psc.state = .sleep) :
    wakeRequest.run b s = Answer.ok (enterProving 0 .wake s) := by
  simp only [wakeRequest, h]
  rfl

theorem wakeRequest_returns (b : List Byte) {s : State} (h : s.psc.state = .parking) :
    wakeRequest.run b s = Answer.ok (returnToRun .wake s) := by
  simp [wakeRequest, h]

/-- WAKE is accepted in SLEEP too (R170), and answered as its own rule says. -/
theorem wake_next {tag : Byte} {s t : State} (hs : s.listens) (hrun : wakeRequest.run [] (goodFrame s) = Answer.ok t) :
    exec (.wake tag []) s = .next (beginReply tag 0x09#8 .ok [] t) := by
  obtain ⟨hpowered, hreply⟩ := hs
  show event (wakeRequest.take tag []) s = _
  rw [wakeRequest.take_next tag [] s hpowered hreply rfl (.inr rfl), hrun]
  rfl

/-- Settles O17, by the power state. -/
theorem wakeRequestByPowerState : Obligations.WakeRequestByPowerState := by
  refine fun tag s hs => ⟨fun hrest => ?_, fun hsleep => ?_, fun hparking => ?_⟩
  · exact wake_next hs (wakeRequest_rests [] (by simpa using hrest))
  · have hnext := wake_next (tag := tag) hs (wakeRequest_proves [] (by simpa using hsleep))
    exact ⟨hnext, _, hnext, by simp, by simp [enterProving_psc], by simp [enterProving_psc], by simp, by simp,
      (enterProving_first 0 .wake (goodFrame s)).answered _ _ _ _⟩
  · obtain ⟨hgauges, hpsc, hfirst, -⟩ := returnToRun_spec .wake (goodFrame s)
    refine ⟨_, wake_next hs (wakeRequest_returns [] (by simpa using hparking)), by simp, by simp [hpsc], ?_,
      hgauges.congr (by simp) (by simp), hfirst.answered _ _ _ _⟩
    simp [State.sameBut_parts]

/-! ### The key sample (R162) -/

/-- The controller after a sample of the key line: the run of equal samples, and the level adopted at the third. -/
def Power.sampled (level : Bool) (due : Nat) (p : Power) : Power :=
  let run := if p.keyCandidate = level then min 3 (p.keyRun + 1) else 1
  { p with
    keyCandidate := level, keyRun := run, keyDue := due + Config.sampleInterval
    key := if run = 3 then level else p.key }

/-- A sample of the key line makes a key-on edge. -/
def Power.keyedOn (level : Bool) (due : Nat) (p : Power) : Bool := (p.sampled level due).key && !p.key

/-- The third of equal samples adopts the level. -/
theorem Power.sampled_key (level : Bool) (due : Nat) (p : Power) :
    (p.sampled level due).key = if (p.sampled level due).keyRun = 3 then level else p.key := rfl

/-- At a key-on edge the third sample in a row with the key on has been taken. -/
theorem Power.sampled_keyedOn {level : Bool} {due : Nat} {p : Power} (h : p.keyedOn level due = true) :
    p.sampled level due = { p with key := true, keyCandidate := true, keyRun := 3, keyDue := due + 10000 } := by
  obtain ⟨hon, hoff⟩ : (p.sampled level due).key = true ∧ p.key = false := by simpa [Power.keyedOn] using h
  obtain ⟨hrun, hlevel⟩ : (p.sampled level due).keyRun = 3 ∧ level = true := by
    rw [Power.sampled_key, hoff] at hon
    simpa using hon
  subst hlevel
  have heq : p.sampled true due = { p with
      key := (p.sampled true due).key, keyCandidate := true, keyRun := (p.sampled true due).keyRun
      keyDue := due + 10000 } := rfl
  rw [heq, hon, hrun]

/-- A sample is its debounce and, at a key-on edge, what the edge does. -/
theorem sampleKey_eq (level : Bool) (due : Nat) (s : State) : sampleKey level due s =
    if s.psc.keyedOn level due = true then keyOnEdge (s.setPsc (s.psc.sampled level due))
    else s.setPsc (s.psc.sampled level due) := by
  simp only [sampleKey, Power.keyedOn, Power.sampled]
  by_cases hrun : (if s.psc.keyCandidate = level then min 3 (s.psc.keyRun + 1) else 1) = 3
  · simp only [hrun]
    cases level <;> cases hkey : s.psc.key <;> simp
  · simp only [hrun, false_and, if_false, Bool.and_not_self, Bool.false_eq_true]

theorem sampleKey_edge {level : Bool} {due : Nat} {s : State} (h : s.psc.keyedOn level due = true) :
    sampleKey level due s = keyOnEdge (s.setPsc (s.psc.sampled level due)) := by
  rw [sampleKey_eq, if_pos h]

theorem sampleKey_rests {level : Bool} {due : Nat} {s : State} (h : s.psc.keyedOn level due = false) :
    sampleKey level due s = s.setPsc (s.psc.sampled level due) := by
  rw [sampleKey_eq, if_neg (by simp [h])]

theorem keyOnEdge_proves {s : State} (h : s.psc.state = .sleep) : keyOnEdge s = enterProving 0 .keyOn s := by
  simp only [keyOnEdge, h]
  rfl

theorem keyOnEdge_returns {s : State} (h : s.psc.state = .parking) : keyOnEdge s = returnToRun .keyOn s := by
  simp only [keyOnEdge, h]

theorem keyOnEdge_rests {s : State} (h : s.psc.state = .proving ∨ s.psc.state = .run) : keyOnEdge s = s := by
  rcases h with h | h <;> simp only [keyOnEdge, h]

theorem returnToRun_psc (cause : PowerCause) (s : State) :
    (returnToRun cause s).psc = { s.psc with state := .run, proof := .stopped } := by
  simp [returnToRun, State.setPower]

/-- A key-on edge leaves the debounce as the sample has made it. -/
theorem keyOnEdge_debounce (s : State) :
    (keyOnEdge s).psc.key = s.psc.key ∧ (keyOnEdge s).psc.keyCandidate = s.psc.keyCandidate ∧
    (keyOnEdge s).psc.keyRun = s.psc.keyRun ∧ (keyOnEdge s).psc.keyDue = s.psc.keyDue := by
  unfold keyOnEdge
  split <;> simp [enterProving_psc, returnToRun_psc]

theorem sampleKey_debounce (level : Bool) (due : Nat) (s : State) :
    (sampleKey level due s).psc.key = (s.psc.sampled level due).key ∧
    (sampleKey level due s).psc.keyCandidate = (s.psc.sampled level due).keyCandidate ∧
    (sampleKey level due s).psc.keyRun = (s.psc.sampled level due).keyRun ∧
    (sampleKey level due s).psc.keyDue = (s.psc.sampled level due).keyDue := by
  cases h : s.psc.keyedOn level due with
  | false => simp [sampleKey_rests h]
  | true => simpa [sampleKey_edge h] using keyOnEdge_debounce (s.setPsc (s.psc.sampled level due))

/-- Settles O19: the debounce in every power state, the key-on edge by the power state. -/
theorem keySampleIsDebounced : Obligations.KeySampleIsDebounced := by
  intro level s hpowered
  obtain ⟨t, ht⟩ : ∃ t, t = sampleKey level s.psc.keyDue (s.reach s.psc.keyDue) := ⟨_, rfl⟩
  obtain ⟨hkey, hcandidate, hrun, hdue⟩ := sampleKey_debounce level s.psc.keyDue (s.reach s.psc.keyDue)
  have hreach : (s.reach s.psc.keyDue).psc = s.psc := rfl
  rw [← ht, hreach] at hkey hcandidate hrun hdue
  have hnow : t.now = max s.now s.psc.keyDue := by simp [ht, State.reach]
  refine ⟨t, ht ▸ event_powered (fun u => sampleKey level u.psc.keyDue (u.reach u.psc.keyDue)) s hpowered, hnow, hdue,
    hcandidate, hrun, ?_, fun hon hoff => ?_, fun hquiet => ?_⟩
  · rw [hkey, hrun]
    rfl
  · have hedge : (s.reach s.psc.keyDue).psc.keyedOn level s.psc.keyDue = true := by
      rw [hreach, Power.keyedOn, ← hkey, hon, hoff]
      rfl
    obtain ⟨v, hv⟩ : ∃ v, v = (s.setNow t.now).setPsc
      { s.psc with key := true, keyCandidate := true, keyRun := 3, keyDue := t.psc.keyDue } := ⟨_, rfl⟩
    have htv : t = keyOnEdge v := by
      rw [ht, sampleKey_edge hedge, Power.sampled_keyedOn hedge, hv, hnow, hdue]
      rfl
    rw [← hv]
    refine ⟨fun hsleep => ?_, fun hparking => ?_, fun hrest => ?_⟩
    · have hprove : t = enterProving 0 .keyOn v := htv.trans (keyOnEdge_proves (by simpa [hv] using hsleep))
      refine ⟨by simp [hprove, enterProving_psc], hprove, ?_⟩
      rw [hprove]
      exact (enterProving_first 0 .keyOn v).of_same (by simp [hv]) (by simp [hv]) (by simp [hv])
    · have hreturn : t = returnToRun .keyOn v := htv.trans (keyOnEdge_returns (by simpa [hv] using hparking))
      obtain ⟨hgauges, hpsc, hfirst, -⟩ := returnToRun_spec .keyOn v
      rw [← hreturn] at hgauges hpsc hfirst
      refine ⟨by rw [hpsc, hv]; rfl, ?_, hgauges.congr (by simp [hv]) rfl,
        hfirst.of_same (by simp [hv]) (by simp [hv]) (by simp [hv])⟩
      rw [hreturn]
      simp [State.sameBut_parts, hv]
    · have hrests : t = v := htv.trans (keyOnEdge_rests (by simpa [hv] using hrest))
      rw [hrests]
      simp [State.sameBut_parts, hv]
  · have hedge : (s.reach s.psc.keyDue).psc.keyedOn level s.psc.keyDue = false := by
      rw [hreach, Power.keyedOn, ← hkey]
      rcases hquiet with hoff | hon
      · rw [hoff, Bool.false_and]
      · rw [hon, Bool.not_true, Bool.and_false]
    rw [ht, sampleKey_rests hedge]
    simp [State.sameBut_parts, State.reach, Power.sampled]

end Sys2Proof.Machine
end

section
/-! PROOFS. O16: the request SLEEP, and the entry to PARKING that may go on to SLEEP (R165, R166). Every gauge is ordered to
park first, and then the judgement of the gauges' indications decides between the two. -/
namespace Sys2Proof.Machine

/-! ### The entry to PARKING -/

/-- Every gauge has been ordered to park, and the indications of the gauges are still to be judged (R166). -/
def orderedToPark (s : State) : State :=
  forEach orderPark (handPowerState PowerState.run.number .sleepRequest (s.setPower .parking .stopped))

theorem orderedToPark_frame (s : State) :
    (orderedToPark s).pending = s.pending ∧ (orderedToPark s).now = s.now ∧ (orderedToPark s).powered = s.powered ∧
    (orderedToPark s).coilOpen = s.coilOpen ∧ (orderedToPark s).cfg = s.cfg ∧ (orderedToPark s).qt = s.qt ∧
    (orderedToPark s).ssu = s.ssu ∧ (orderedToPark s).weu = s.weu ∧ (orderedToPark s).dtu = s.dtu ∧
    (orderedToPark s).anu = s.anu ∧ (orderedToPark s).cs = s.cs ∧
    (orderedToPark s).psc = { s.psc with state := .parking, proof := .stopped } := by
  simp [orderedToPark, State.setPower]

/-- The entry to PARKING goes on to SLEEP at once when GAUGES PARKED holds already (R166). -/
theorem enterParkingState_eq (s : State) : enterParkingState s =
    if (orderedToPark s).gaugesParked = true then enterSleep (orderedToPark s) else orderedToPark s :=
  judgePower_parking (s := orderedToPark s) (by simp [orderedToPark_frame])

@[simp] theorem enterParkingState_gaugesParked (s : State) :
    (enterParkingState s).gaugesParked = (orderedToPark s).gaugesParked := by
  rw [enterParkingState_eq]
  split
  · exact enterSleep_gaugesParked _
  · rfl

theorem enterParkingState_sleeps {s : State} (h : (enterParkingState s).gaugesParked = true) :
    enterParkingState s = enterSleep (orderedToPark s) := by
  rw [enterParkingState_eq, if_pos (by simpa using h)]

theorem enterParkingState_parks {s : State} (h : (enterParkingState s).gaugesParked = false) :
    enterParkingState s = orderedToPark s := by
  rw [enterParkingState_eq, if_neg (by simpa using h)]

theorem enterParkingState_psc (s : State) : (enterParkingState s).psc = { s.psc with
    state := if (enterParkingState s).gaugesParked = true then .sleep else .parking, proof := .stopped } := by
  cases h : (enterParkingState s).gaugesParked with
  | false => simp [enterParkingState_parks h, orderedToPark_frame]
  | true => simp [enterParkingState_sleeps h, enterSleep, judgeAttention, State.setPower, orderedToPark_frame]

/-- What the entry to PARKING leaves as it was, with the entry to SLEEP and without. -/
theorem enterParkingState_sameBut (s : State) : s.sameBut (enterParkingState s)
    (if (enterParkingState s).gaugesParked = true then [.lp, .qt, .ssu, .gdu, .weu, .dtu, .anu, .psc]
      else [.lp, .gdu, .psc]) := by
  cases h : (enterParkingState s).gaugesParked with
  | false => simp [State.sameBut_parts, enterParkingState_parks h, orderedToPark_frame]
  | true => simp [State.sameBut_parts, enterParkingState_sleeps h, orderedToPark_frame]

/-! ### The gauges -/

theorem orderPark_out {g : Fin 6} {s : State} (h : (s.gauge g).state ∈ [GaugeState.parked, .parking, .unhomed, .fault]) :
    orderPark g s = s := by
  unfold orderPark
  split <;> simp_all

/-- A gauge has been ordered to park, by its state: the order rests, is marked, or sends the gauge to PARKING (R54). -/
def Gauge.OrderedToPark (before after : Gauge) : Prop :=
  (before.state ∈ [.parked, .parking, .unhomed, .fault] → after.state = before.state) ∧
  (before.state ∈ [.homing, .sweeping] → after.state = before.state ∧ after.parkPending = true) ∧
  (before.state ∈ [.tracking, .held, .resting, .test] → after.state ∈ [.parking, .parked])

theorem Gauge.OrderedToPark.congr {before after other : Gauge} (h : before.OrderedToPark after)
    (hstate : other.state = after.state) (hpending : other.parkPending = after.parkPending) :
    before.OrderedToPark other := by
  unfold Gauge.OrderedToPark at h ⊢
  rwa [hstate, hpending]

theorem orderPark_orders (g : Fin 6) (s : State) : (s.gauge g).OrderedToPark ((orderPark g s).gauge g) := by
  refine ⟨fun h => by rw [orderPark_out h], fun h => by simp [orderPark_marks h], fun h => ?_⟩
  rw [orderPark_enters h]
  exact (enterParking_state g s).1

/-- Each gauge is ordered to park in its turn, which leaves the others alone. -/
theorem orderedToPark_gauge (g : Fin 6) (s : State) :
    ∃ u, u.gauge g = s.gauge g ∧ (orderedToPark s).gauge g = (orderPark g u).gauge g := by
  obtain ⟨u, -, hu, hturn⟩ := forEach_turn State.gauge (fun _ => True) orderPark (fun _ _ h => h)
    (fun i j t hj => orderPark_other i j t hj) g
    (handPowerState PowerState.run.number .sleepRequest (s.setPower .parking .stopped)) trivial
  exact ⟨u, hu.trans (by simp [State.gauge]), hturn⟩

/-- The entry to PARKING orders every gauge to park, and the entry to SLEEP leaves its state and its mark (R54, R166). -/
theorem enterParkingState_orders (g : Fin 6) (s : State) :
    (s.gauge g).OrderedToPark ((enterParkingState s).gauge g) := by
  obtain ⟨u, hu, hturn⟩ := orderedToPark_gauge g s
  obtain ⟨hstate, -, -, -, hpending, -⟩ := judgePower_gauge_keeps (orderedToPark s) g
  have hordered : (s.gauge g).OrderedToPark ((orderedToPark s).gauge g) := by
    rw [hturn, ← hu]
    exact orderPark_orders g u
  exact hordered.congr hstate hpending

/-! ### The records -/

theorem arrivePark_link (g : Fin 6) (s : State) : LinkGrows s (arrivePark g s) := by
  simp only [arrivePark]
  split
  · exact LinkGrows.trans (.of_lp (t := s.setGauge g _) (by simp)) (hand_link _ _ _ _)
  · exact .of_lp rfl

theorem orderPark_link (g : Fin 6) (s : State) : LinkGrows s (orderPark g s) := by
  unfold orderPark
  split
  any_goals exact LinkGrows.trans (.of_lp (by simp)) (arrivePark_link g (s.setGauge g _))
  all_goals exact .of_lp (by simp)

theorem orderedToPark_link (s : State) : LinkGrows s (orderedToPark s) := by
  have hrecord : LinkGrows (s.setPower .parking .stopped)
      (handPowerState PowerState.run.number .sleepRequest (s.setPower .parking .stopped)) := hand_link _ _ _ _
  exact LinkGrows.trans (.of_lp (by simp)) (hrecord.trans (forEach_link orderPark orderPark_link _))

/-- The POWER STATE record of the entry to PARKING comes before those of the gauges (R172). -/
theorem orderedToPark_first (s : State) : ReportedFirst .powerState 3 0x0502 s (orderedToPark s) :=
  handPowerState_first 2 .sleepRequest s (s.setPower .parking .stopped) _ (by simp) (by simp) (by simp)
    (forEach_link orderPark orderPark_link _).1

theorem enterParkingState_first (s : State) : ReportedFirst .powerState 3 0x0502 s (enterParkingState s) :=
  (orderedToPark_first s).before (judgePower_queue _)

/-- The record of the entry to SLEEP stands behind that of the entry to PARKING (R172). -/
theorem enterParkingState_both {s : State} (hparked : (enterParkingState s).gaugesParked = true) {urgent : Bool}
    (hroute : s.cfg.routes.get 20 = (if urgent = true then .urgent else .post))
    (hroom : (enterParkingState s).lp.queue.length < 32) : ∃ between after, (enterParkingState s).lp.queue =
      s.lp.queue ++ ⟨.powerState, 3, 0x0502, BitVec.ofNat 16 s.dtu.clock, urgent⟩ :: between ++
        ⟨.powerState, 0, 0x0703, BitVec.ofNat 16 s.dtu.clock, urgent⟩ :: after := by
  rw [enterParkingState_sleeps hparked] at hroom ⊢
  obtain ⟨hsleep, hgrows, -, -⟩ := enterSleep_spec (orderedToPark s)
  obtain ⟨hordered, -⟩ := orderedToPark_link s
  have hcfg : (orderedToPark s).cfg = s.cfg := by simp [orderedToPark_frame]
  have hroom' := Nat.lt_of_le_of_lt hgrows.length_le hroom
  obtain ⟨between, hbetween⟩ := orderedToPark_first s urgent hroute (Nat.lt_of_le_of_lt hordered.length_le hroom')
  obtain ⟨after, hafter⟩ := hsleep urgent (by rwa [hcfg]) hroom'
  refine ⟨between, after, ?_⟩
  rw [← hafter, ← hbetween]
  simp [orderedToPark_frame]

/-! ### The request -/

/-- Step 1 of R175 and the reply change the Link Port alone. -/
theorem State.sameBut.answered {s t : State} {tag kind : Byte} {status : Status} {body : List Byte} {l : List Part}
    (h : (goodFrame s).sameBut t l) (hlp : .lp ∈ l) : s.sameBut (beginReply tag kind status body t) l := by
  intro p hp
  have hpart := h p hp
  cases p with
  | lp => exact absurd hlp hp
  | _ => simpa [State.agreeOn] using hpart

theorem sleep_next {tag : Byte} {s t : State} {status : Status} (hs : s.awake)
    (hrun : sleepRequest.run [] (goodFrame s) = ⟨t, status, []⟩) :
    exec (.sleep tag []) s = .next (beginReply tag 0x08#8 status [] t) :=
  sleepRequest.take_awake tag [] s hs rfl hrun

/-- Settles O16, by the power state. -/
theorem sleepRequestByPowerState : Obligations.SleepRequestByPowerState := by
  refine fun tag s hs => ⟨fun hsleep => ?_, fun hproving => ?_, fun hrun hdriving => ?_, fun hparking => ?_,
    fun hrun hdriving => ?_⟩
  · obtain ⟨hpowered, hreply⟩ := hs
    show event (sleepRequest.take tag []) s = _
    rw [event_powered _ _ hpowered, sleepRequest.take_asleep tag hreply rfl hsleep rfl]
    rfl
  · exact sleep_next ⟨hs, by simp [hproving]⟩ (by simp [sleepRequest, hproving, Answer.refuse])
  · exact sleep_next ⟨hs, by simp [hrun]⟩ (by simp [sleepRequest, hrun, hdriving, Answer.refuse])
  · exact sleep_next ⟨hs, by simp [hparking]⟩ (by simp [sleepRequest, hparking, Answer.ok])
  · have hnext := sleep_next (tag := tag) ⟨hs, by simp [hrun]⟩
      (show sleepRequest.run [] (goodFrame s) = ⟨enterParkingState (goodFrame s), .ok, []⟩ by
        simp [sleepRequest, hrun, hdriving, Answer.ok])
    have hgauge : ∀ g, (s.gauge g).OrderedToPark ((enterParkingState (goodFrame s)).gauge g) := fun g => by
      simpa using enterParkingState_orders g (goodFrame s)
    refine ⟨_, hnext, by simp, by simp [enterParkingState_psc], by simp [enterParkingState_psc],
      fun g hg => ?_, fun g hg => ?_, fun g hg => ?_, (enterParkingState_first _).answered _ _ _ _,
      fun hparked urgent hroute hroom => ?_, ?_⟩
    · obtain ⟨hstays, -, -⟩ := hgauge g
      simpa using hstays hg
    · obtain ⟨-, hmarked, -⟩ := hgauge g
      simpa using hmarked hg
    · obtain ⟨-, -, hparks⟩ := hgauge g
      simpa using hparks hg
    · simpa using enterParkingState_both (s := goodFrame s) (by simpa using hparked) (by simpa using hroute)
        (by simpa using hroom)
    · have hsame := (enterParkingState_sameBut (goodFrame s)).answered (tag := tag) (kind := 0x08#8) (status := .ok)
        (body := []) (by split <;> simp)
      simpa using hsame

end Sys2Proof.Machine
end

section
/-! PROOFS. The report queue and the held list (R179, R181): what a report handed on, held or released makes of them, and
the operations of the message line, which release the held records. -/
namespace Sys2Proof.Machine

/-! ### What keeps the reports -/

/-- A change keeps the report queue within its room and the held list to one record for each warning. -/
def KeepsReports (s t : State) : Prop := s.reportsKept → t.reportsKept

section
variable {s t u : State}

theorem KeepsReports.refl (s : State) : KeepsReports s s := id

theorem KeepsReports.trans (h : KeepsReports s t) (k : KeepsReports t u) : KeepsReports s u := k ∘ h

/-- The later change first, so that it says which state the earlier one leads to. -/
theorem KeepsReports.after (k : KeepsReports t u) (h : KeepsReports s t) : KeepsReports s u := h.trans k

theorem KeepsReports.ite {c : Prop} [Decidable c] {a b : State} (ha : KeepsReports s a) (hb : KeepsReports s b) :
    KeepsReports s (if c then a else b) := iteInduction (fun _ => ha) (fun _ => hb)

/-- A change of neither the queue nor the held list. -/
theorem KeepsReports.of_lists (hqueue : t.lp.queue = s.lp.queue) (hheld : t.lp.held = s.lp.held) : KeepsReports s t := by
  unfold KeepsReports State.reportsKept
  rw [hqueue, hheld]
  exact id

theorem KeepsReports.of_lp (h : t.lp = s.lp) : KeepsReports s t := .of_lists (by rw [h]) (by rw [h])

/-- Records taken out of the queue and of the held list. -/
theorem KeepsReports.of_fewer (hqueue : t.lp.queue.length ≤ s.lp.queue.length) (hheld : t.lp.held.Sublist s.lp.held) :
    KeepsReports s t :=
  fun ⟨hroom, hnodup, hraised⟩ =>
    ⟨hqueue.trans hroom, hnodup.sublist (hheld.map _), fun r hr => hraised r (hheld.subset hr)⟩

theorem forEach_keepsReports {n : Nat} {f : Fin n → State → State} (hf : ∀ i t, KeepsReports t (f i t)) (s : State) :
    KeepsReports s (forEach f s) :=
  forEach_keeps (KeepsReports s) f (fun i t h => h.trans (hf i t)) s (.refl s)

end

/-! ### Reports handed on (R179 to R181) -/

/-- The queue takes a record only while it holds fewer than 32 (R179). -/
theorem postRecord_length (r : Report) (s : State) (h : s.lp.queue.length ≤ 32) :
    (postRecord r s).lp.queue.length ≤ 32 := by
  unfold postRecord judgeAttention
  split
  · simp
    omega
  · simpa using h

theorem postRecord_keepsReports (r : Report) (s : State) : KeepsReports s (postRecord r s) := by
  rintro ⟨hroom, hheld⟩
  exact ⟨postRecord_length r s hroom, by rwa [postRecord_held]⟩

/-- A record that joins the held list takes the place of one of the same warning (R181). -/
theorem holdRecord_keepsReports {r : Report} (hkind : r.kind = .warningRaised) (hsubject : r.subject.toNat < 48)
    (s : State) : KeepsReports s (holdRecord r s) := by
  rintro ⟨hroom, hnodup, hraised⟩
  refine ⟨hroom, ?_, ?_⟩
  · simp only [holdRecord, State.setLp_lp, List.map_append, List.map_cons, List.map_nil]
    refine List.nodup_append.mpr ⟨hnodup.sublist (List.filter_sublist.map _), List.nodup_singleton _, ?_⟩
    simp only [List.mem_map, List.mem_filter, List.mem_singleton, decide_eq_true_eq]
    rintro _ ⟨h, ⟨-, hne⟩, rfl⟩ _ rfl
    exact hne
  · simp only [holdRecord, State.setLp_lp, List.mem_append, List.mem_filter, List.mem_singleton]
    rintro x (⟨hx, -⟩ | rfl)
    · exact hraised x hx
    · exact ⟨hkind, hsubject⟩

/-- Whatever its route, a report that cannot be held is posted or left out (R180). -/
theorem hand_keepsReports (kind : ReportKind) (subject detail : Nat) (s : State) :
    KeepsReports s (hand kind subject detail s) := by
  unfold hand handWith
  dsimp only
  split
  · exact .refl s
  all_goals exact postRecord_keepsReports _ s

theorem handWarningRaised_keepsReports (w : Fin 48) (cls : WarnClass) (fromLatched offered : Bool) (s : State) :
    KeepsReports s (handWarningRaised w cls fromLatched offered s) := by
  unfold handWarningRaised handWith
  dsimp only
  split
  · exact .refl s
  · exact postRecord_keepsReports _ s
  · exact postRecord_keepsReports _ s
  · refine .ite (holdRecord_keepsReports rfl ?_ s) (postRecord_keepsReports _ s)
    simp [byte]
    omega

theorem releaseHeld_keepsReports (w : Fin 48) (s : State) : KeepsReports s (releaseHeld w s) := by
  unfold releaseHeld
  split
  · exact .refl s
  · exact (postRecord_keepsReports _ _).after (.of_fewer le_rfl List.filter_sublist)

theorem judgeAttention_keepsReports (s : State) : KeepsReports s (judgeAttention s) := .of_lists rfl rfl

theorem restartSilence_keepsReports (s : State) : KeepsReports s (restartSilence s) := .of_lists (by simp) (by simp)

theorem goodFrame_keepsReports (s : State) : KeepsReports s (goodFrame s) := by
  have hended : ∀ u : State, KeepsReports u (endLinkLost u) := fun u => by
    unfold endLinkLost
    split
    · exact .refl u
    · exact (hand_keepsReports _ _ _ _).after (.of_lists rfl rfl)
  exact ((hended _).trans (restartSilence_keepsReports _)).after (.of_lists rfl rfl)

/-! ### The message line (R141 to R149) -/

theorem tellLink_keepsReports (e : Entry) (s : State) : KeepsReports s (tellLink e s) := by
  unfold tellLink
  split
  · exact .ite (.refl s) (releaseHeld_keepsReports _ s)
  all_goals exact .refl s

theorem endEntry_keepsReports (cause : EndCause) (e : Entry) (s : State) : KeepsReports s (endEntry cause e s) :=
  KeepsReports.trans (.of_lp (tellOwner_lp cause e s)) ((tellLink_keepsReports e _).trans (hand_keepsReports _ _ _ _))

theorem showHead_keepsReports (s : State) : KeepsReports s (showHead s) := by
  unfold showHead
  split
  · exact .refl s
  · next e rest _ =>
    have hreported := ((tellLink_keepsReports e ((s.setQueue rest).setShown (some ((s.setQueue rest).beginTimers e)))).trans
      (show KeepsReports _ (handShown e _) from hand_keepsReports _ _ _ _))
    exact (hreported.trans (.of_lp (by simp [beginShowing]))).after (.of_lp (by simp))

theorem displace_keepsReports (sh : Shown) (s : State) : KeepsReports s (displace sh s) := by
  have hhead : KeepsReports s (showHead (stopShown s)) := (showHead_keepsReports _).after (.of_lp (by simp))
  unfold displace
  dsimp only
  split
  · exact hhead.trans (.of_lp (by simp))
  · exact hhead.trans (endEntry_keepsReports _ _ _)

theorem decideLine_keepsReports (s : State) : KeepsReports s (decideLine s) := by
  unfold decideLine
  split
  · exact .refl s
  · split
    · exact showHead_keepsReports s
    · exact .ite (displace_keepsReports _ s) (.refl s)

theorem decideAfterEnd_keepsReports (s : State) : KeepsReports s (decideAfterEnd s) :=
  (decideLine_keepsReports s).trans (.of_lp (by simp [decideAfterEnd]))

/-- The shown entry ends, and the line is decided (R141, R147, R149). -/
theorem endShown_keepsReports (cause : EndCause) (e : Entry) (s : State) :
    KeepsReports s (decideAfterEnd (endEntry cause e (stopShown s))) :=
  ((endEntry_keepsReports _ _ _).trans (decideAfterEnd_keepsReports _)).after (.of_lp (by simp))

theorem acknowledgeShown_keepsReports (s : State) : KeepsReports s (acknowledgeShown s) := by
  unfold acknowledgeShown
  split
  · exact .refl s
  · exact endShown_keepsReports _ _ s

theorem withdraw_keepsReports (x : AnnSource) (s : State) : KeepsReports s (withdraw x s) := by
  unfold withdraw
  split
  · exact (endEntry_keepsReports _ _ _).after (.of_lp (by simp))
  · split
    · exact .refl s
    · exact .ite (endShown_keepsReports _ _ s) (.refl s)

theorem joinQueue_keepsReports (o : Offer) (s : State) : KeepsReports s (joinQueue o s) :=
  (decideLine_keepsReports _).after (.of_lp (by simp))

theorem offer_keepsReports (o : Offer) (s : State) : KeepsReports s (offer o s) := by
  unfold offer offerOnFull
  split
  · exact .of_lp (by simp)
  · refine .ite (.of_lp (by simp)) (.ite (joinQueue_keepsReports o s) ?_)
    split
    · exact joinQueue_keepsReports o s
    · exact .ite (((endEntry_keepsReports _ _ _).trans (joinQueue_keepsReports o _)).after (.of_lp (by simp)))
        ((endEntry_keepsReports _ _ _).after (.of_lp (by simp)))

end Sys2Proof.Machine
end

section
/-! PROOFS. O55: what the rest of the part makes of the report queue and the held list: each operation that hands on a
report keeps them within R179 and R181, and every other leaves them alone. -/
namespace Sys2Proof.Machine

/-- A change of power state with its POWER STATE record (R172). -/
theorem setPower_handPowerState_keepsReports (state : PowerState) (proof : ProofTimer) (old : Nat) (cause : PowerCause)
    (s : State) : KeepsReports s (handPowerState old cause (s.setPower state proof)) :=
  (hand_keepsReports _ _ _ _).after (.of_lp rfl)

/-! ### The warnings -/

theorem judgeLampOf_keepsReports (w : Fin 48) (s : State) : KeepsReports s (judgeLampOf w s) := .of_lp (by simp)

theorem setWarning_keepsReports (w : Fin 48) (r : Warning) (s : State) : KeepsReports s (s.setWarning w r) :=
  .of_lp (by simp)

theorem withdrawWarning_keepsReports (w : Fin 48) (s : State) : KeepsReports s (withdrawWarning w s) :=
  .ite (.refl s) ((withdraw_keepsReports _ _).after (.of_lp (by simp)))

theorem offerWarning_keepsReports (w : Fin 48) (kind : AnnKind) (mark : AnnMark) (s : State) :
    KeepsReports s (offerWarning w kind mark s) := by
  unfold offerWarning
  dsimp only
  split
  · exact .refl s
  · exact (offer_keepsReports _ _).after (.of_lp (by simp))

theorem reofferWarning_keepsReports (w : Fin 48) (s : State) : KeepsReports s (reofferWarning w s) :=
  .ite (offerWarning_keepsReports w _ _ s) (.refl s)

/-- WARNING RAISED, posted or held, and then the offer that may release it at once (R88, R181). -/
theorem enterActiveNew_keepsReports (w : Fin 48) (fromLatched : Bool) (s : State) :
    KeepsReports s (enterActiveNew w fromLatched s) := by
  have hraised := (setWarning_keepsReports w
    { s.warning w with state := .activeNew, acknowledged := false, raiseDue := none, reminderDue := none } s).trans
    (handWarningRaised_keepsReports w (s.cfg.warnings.get w).cls fromLatched (s.offersAtRaise w) _)
  exact (judgeLampOf_keepsReports w _).after (.ite (hraised.trans (offerWarning_keepsReports w _ _ _)) hraised)

theorem handWarningEnded_keepsReports (w : Fin 48) (cause : WarnEnd) (s : State) :
    KeepsReports s (handWarningEnded w cause s) := hand_keepsReports _ _ _ s

theorem goOff_keepsReports (w : Fin 48) (cause : WarnEnd) (s : State) : KeepsReports s (goOff w cause s) :=
  (setWarning_keepsReports w ((s.warning w).restedIn .off) s).trans ((withdrawWarning_keepsReports w _).trans
    ((handWarningEnded_keepsReports w cause _).trans (judgeLampOf_keepsReports w _)))

theorem endAtStrength_keepsReports (w : Fin 48) (s : State) : KeepsReports s (endAtStrength w s) :=
  .ite ((judgeLampOf_keepsReports w _).after
      (.ite ((setWarning_keepsReports w _ s).trans (withdrawWarning_keepsReports w _)) (setWarning_keepsReports w _ s)))
    (goOff_keepsReports w .strength s)

theorem actOnStrength_keepsReports (w : Fin 48) (strength : Nat) (s : State) :
    KeepsReports s (actOnStrength w strength s) := by
  unfold actOnStrength
  dsimp only
  split
  · exact .refl s
  · exact .refl s
  · exact .ite (.ite (enterActiveNew_keepsReports w false s) (.of_lp (by simp))) (.refl s)
  · exact .ite (.of_lp (by simp)) (.refl s)
  · exact .ite (endAtStrength_keepsReports w s) (.refl s)
  · exact .ite (endAtStrength_keepsReports w s) (.refl s)
  · exact .ite (.ite (.of_lp (by simp)) (enterActiveNew_keepsReports w true s)) (.refl s)

theorem putOff_keepsReports (w : Fin 48) (s : State) : KeepsReports s (putOff w s) := by
  obtain ⟨hleft, hoff⟩ := putOff_cases w s
  by_cases h : (s.warning w).state ∈ [.off, .disabled]
  · rw [hleft h]
    exact .refl s
  · rw [hoff h]
    exact goOff_keepsReports w .reconfigured s

theorem reconfigureWarning_keepsReports (w : Fin 48) (c : WarnSettings) (s : State) :
    KeepsReports s (reconfigureWarning w c s) :=
  (putOff_keepsReports w s).trans (.of_lp (by simp [reconfigureWarning]))

theorem configureCriterion_keepsReports (w : Fin 48) (c : Criterion) (s : State) :
    KeepsReports s (configureCriterion w c s) :=
  (putOff_keepsReports w s).trans (.of_lp rfl)

theorem endCriterion_keepsReports (p : Pass) (s : State) : KeepsReports s (endCriterion p s) :=
  .ite (.of_lp rfl) ((actOnStrength_keepsReports p.criterion _ _).after (.of_lp rfl))

theorem reminderExpired_keepsReports (w : Fin 48) (s : State) : KeepsReports s (reminderExpired w s) :=
  (setWarning_keepsReports w _ s).trans (offerWarning_keepsReports w _ _ _)

theorem suppress_keepsReports (w : Fin 48) (s : State) : KeepsReports s (suppress w s) := by
  have hset := (setWarning_keepsReports w ((s.warning w).restedIn .suppressed) s).trans (withdrawWarning_keepsReports w _)
  exact (judgeLampOf_keepsReports w _).after (.ite (hset.trans (handWarningEnded_keepsReports w _ _)) hset)

theorem acknowledgeByHost_keepsReports (w : Fin 48) (s : State) : KeepsReports s (acknowledgeByHost w s).state := by
  have hacknowledged : KeepsReports s (withdrawWarning w (acknowledgeWarning w s)) :=
    (withdrawWarning_keepsReports w _).after (.of_lp (by simp))
  unfold acknowledgeByHost
  split
  · exact hacknowledged
  · exact hacknowledged
  · split
    · exact .refl s
    · exact hacknowledged
  all_goals exact .refl s

theorem clearByHost_keepsReports (w : Fin 48) (s : State) : KeepsReports s (clearByHost w s).state := by
  unfold clearByHost
  split
  · exact goOff_keepsReports w .cleared s
  all_goals exact .refl s

theorem suppressByHost_keepsReports (w : Fin 48) (s : State) : KeepsReports s (suppressByHost w s).state := by
  unfold suppressByHost
  split
  · exact .refl s
  · exact .refl s
  all_goals exact suppress_keepsReports w s

theorem restoreByHost_keepsReports (w : Fin 48) (s : State) : KeepsReports s (restoreByHost w s).state := by
  unfold restoreByHost
  split
  · exact .of_lp (by simp)
  · exact .refl s

theorem applyLampPairs_keepsReports (b : List Byte) (s : State) : KeepsReports s (applyLampPairs b s).1 := by
  fun_induction applyLampPairs b s with
  | case1 index level rest s one more ih =>
    refine KeepsReports.trans ?_ ih
    dsimp only [one, applyLampPair]
    (repeat' split) <;> exact .of_lp (by simp)
  | case2 => exact .refl _

theorem sampleLamp_keepsReports (openLoads : BitVec 32) (l : Fin 32) (s : State) :
    KeepsReports s (sampleLamp openLoads l s) := by
  unfold sampleLamp
  refine .ite ?_ (.refl s)
  dsimp only
  split
  · exact .of_lp (by simp)
  · exact .ite ((hand_keepsReports _ _ _ _).after (.of_lp (by simp))) (.of_lp (by simp))
  · exact .refl s
  · exact (hand_keepsReports _ _ _ _).after (.of_lp (by simp))

theorem lampSampled_keepsReports (openLoads : BitVec 32) (due : Nat) (s : State) :
    KeepsReports s (lampSampled openLoads due s) :=
  (forEach_keepsReports (sampleLamp_keepsReports openLoads) _).after (.of_lp rfl)

/-! ### The line (R144 to R157) -/

theorem dwellElapsed_keepsReports (sh : Shown) (s : State) : KeepsReports s (dwellElapsed sh s) :=
  (decideLine_keepsReports _).after (.of_lp rfl)

theorem rotate_keepsReports (s : State) : KeepsReports s (rotate s) := by
  unfold rotate
  dsimp only
  split
  · exact .of_lp (by simp)
  · exact (showHead_keepsReports _).after (.of_lp (by simp))

theorem rotationExpired_keepsReports (sh : Shown) (s : State) : KeepsReports s (rotationExpired sh s) :=
  .ite (rotate_keepsReports s) (.of_lp rfl)

theorem beginLinkLost_keepsReports (s : State) : KeepsReports s (beginLinkLost s) := by
  have hreported := (hand_keepsReports .linkLost 0 (s.cfg.link.silence / 10)
    (s.setLp { s.lp with lostSince := some s.now, silenceDue := none })).after (.of_lists (s := s) rfl rfl)
  exact (forEach_keepsReports (fun h t => withdraw_keepsReports (.host h) t) _).after (hreported.trans (.of_lp (by simp)))

/-! ### The quantities and the scan -/

theorem writeEntry_keepsReports (q : Fin 48) (e : Quantity) (s : State) : KeepsReports s (writeEntry q e s) :=
  .ite ((acknowledgeShown_keepsReports _).after (.of_lp (by simp))) (.of_lp (by simp))

theorem handRecovered_keepsReports (q : Fin 48) (before : QStatus) (s : State) :
    KeepsReports s (handRecovered q before s) := by
  cases before with
  | stale => exact hand_keepsReports _ _ _ s
  | fault => exact hand_keepsReports _ _ _ s
  | absent => exact .refl s
  | valid => exact .refl s

/-- An entry changed by other than a write, with its report. -/
theorem setEntry_hand_keepsReports (q : Fin 48) (e : Quantity) (kind : ReportKind) (subject detail : Nat) (s : State) :
    KeepsReports s (hand kind subject detail (s.setEntry q e)) :=
  (hand_keepsReports _ _ _ _).after (.of_lp (by simp))

theorem applyPair_keepsReports (first : Byte) (v : Int) (s : State) : KeepsReports s (applyPair first v s).1 := by
  unfold applyPair applyFaultMarker
  split
  · exact .refl s
  · split
    · exact .ite (.ite (.of_lp (by simp)) (setEntry_hand_keepsReports _ _ _ _ _ s))
        ((writeEntry_keepsReports _ _ s).trans (handRecovered_keepsReports _ _ _))
    all_goals exact .refl s

theorem applyPairs_keepsReports (b : List Byte) (s : State) : KeepsReports s (applyPairs b s).1 := by
  fun_induction applyPairs b s with
  | case1 first hi lo rest s one more ih => exact (applyPair_keepsReports first _ s).trans ih
  | case2 => exact .refl _

theorem refreshExpired_keepsReports (q : Fin 48) (s : State) : KeepsReports s (refreshExpired q s) :=
  .ite (setEntry_hand_keepsReports _ _ _ _ _ s) (.of_lp (by simp))

theorem deliverInLimit_keepsReports (q : Fin 48) (f : ScanFields) (filtered : Nat) (s : State) :
    KeepsReports s (deliverInLimit q f filtered s) := by
  have hwritten : ∀ e before, KeepsReports s (handRecovered q before (writeEntry q e s)) := fun e before =>
    (writeEntry_keepsReports q e s).trans (handRecovered_keepsReports _ _ _)
  unfold deliverInLimit
  dsimp only
  split
  · exact writeEntry_keepsReports _ _ s
  · exact writeEntry_keepsReports _ _ s
  · exact hwritten _ _
  · exact .ite (hwritten _ _) (.of_lp (by simp))

theorem deliverOutOfLimit_keepsReports (q : Fin 48) (f : ScanFields) (detail : Nat) (s : State) :
    KeepsReports s (deliverOutOfLimit q f detail s) :=
  .ite (.of_lp (by simp)) (.ite (setEntry_hand_keepsReports _ _ _ _ _ s) (.of_lp (by simp)))

theorem deliver_keepsReports (input : Fin 16) (raw filtered : Nat) (q : Fin 48) (s : State) :
    KeepsReports s (deliver input raw filtered q s) := by
  unfold deliver
  split
  · exact .ite (.ite (deliverOutOfLimit_keepsReports q _ 1 s)
      (.ite (deliverOutOfLimit_keepsReports q _ 2 s) (deliverInLimit_keepsReports q _ filtered s))) (.refl s)
  all_goals exact .refl s

theorem sampleSwitch_keepsReports (levels : BitVec 8) (q : Fin 48) (s : State) :
    KeepsReports s (sampleSwitch levels q s) := by
  unfold sampleSwitch
  split
  · exact .ite (writeEntry_keepsReports _ _ s) (.of_lp (by simp))
  all_goals exact .refl s

theorem scanStopped_keepsReports (q : Fin 48) (s : State) : KeepsReports s (scanStopped q s) := by
  unfold scanStopped
  split
  · exact .ite (setEntry_hand_keepsReports _ _ _ _ _ s) (.of_lp (by simp))
  all_goals exact .refl s

theorem stopScan_keepsReports (s : State) : KeepsReports s (stopScan s) :=
  (forEach_keepsReports scanStopped_keepsReports _).after (.of_lp rfl)

theorem scanAtSleep_keepsReports (s : State) : KeepsReports s (scanAtSleep s) :=
  KeepsReports.trans (.ite (.refl s) (stopScan_keepsReports s)) (.of_lp rfl)

theorem nextConversion_keepsReports (s : State) : KeepsReports s (nextConversion s) := by
  unfold nextConversion
  split
  · split
    · exact stopScan_keepsReports s
    all_goals exact .of_lp rfl
  · exact .of_lp rfl

theorem completeConversion_keepsReports (f : Flight) (raw : Nat) (s : State) :
    KeepsReports s (completeConversion f raw s) := by
  unfold completeConversion
  split
  · exact nextConversion_keepsReports s
  · next e _ =>
    have htaken : KeepsReports s (takeResult f.position e raw s) :=
      (forEach_keepsReports (fun q t => deliver_keepsReports _ _ _ q t) _).after (.of_lp rfl)
    exact htaken.trans ((nextConversion_keepsReports _).after (.of_lp (by simp)))

/-! ### Duty -/

theorem setTrack_keepsReports (s : State) (i : Fin 2) (k : Track) (r : TrackRecord) : KeepsReports s (s.setTrack i k r) :=
  .of_lp (by simp [State.setTrack])

theorem handStage_keepsReports (i : Fin 2) (k : Track) (old new : Stage) (s : State) :
    KeepsReports s (handStage i k old new s) := hand_keepsReports _ _ _ s

theorem offerTrack_keepsReports (i : Fin 2) (k : Track) (s : State) : KeepsReports s (offerTrack i k s) := by
  unfold offerTrack
  refine .ite (.refl s) ?_
  split
  · exact .refl s
  · exact (setTrack_keepsReports s i k _).trans (offer_keepsReports _ _)

theorem withdrawTrack_keepsReports (i : Fin 2) (k : Track) (s : State) : KeepsReports s (withdrawTrack i k s) :=
  .ite ((setTrack_keepsReports s i k _).trans (withdraw_keepsReports _ _)) (.refl s)

theorem recomputeTrack_keepsReports (i : Fin 2) (k : Track) (s : State) : KeepsReports s (recomputeTrack i k s) := by
  have hlowered : ∀ stage acknowledged, KeepsReports s ((withdrawTrack i k s).setStage i k stage acknowledged) :=
    fun _ _ => (withdrawTrack_keepsReports i k s).trans (setTrack_keepsReports _ i k _)
  exact .ite (.refl s) (.ite
    ((hlowered _ _).trans ((offerTrack_keepsReports i k _).trans (handStage_keepsReports i k _ _ _)))
    ((hlowered _ _).trans (handStage_keepsReports i k _ _ _)))

theorem recomputeStages_keepsReports (i : Fin 2) (s : State) : KeepsReports s (recomputeStages i s) :=
  (recomputeTrack_keepsReports i .continuous s).trans
    ((recomputeTrack_keepsReports i .daily _).trans (recomputeTrack_keepsReports i .weekly _))

theorem insertTrack_keepsReports (i : Fin 2) (k : Track) (s : State) : KeepsReports s (insertTrack i k s) := by
  unfold insertTrack
  dsimp only
  split
  · exact .refl s
  · exact (setTrack_keepsReports s i k _).trans (handStage_keepsReports i k _ _ _)
  all_goals
    exact (setTrack_keepsReports s i k _).trans
      ((offerTrack_keepsReports i k _).trans (handStage_keepsReports i k _ _ _))

theorem reofferTrack_keepsReports (i : Fin 2) (k : Track) (s : State) : KeepsReports s (reofferTrack i k s) :=
  .ite (offerTrack_keepsReports i k s) (.refl s)

theorem reofferSlot_keepsReports (i : Fin 2) (s : State) : KeepsReports s (reofferSlot i s) :=
  (reofferTrack_keepsReports i .continuous s).trans
    ((reofferTrack_keepsReports i .daily _).trans (reofferTrack_keepsReports i .weekly _))

theorem writeDerived_keepsReports (i : Fin 2) (s : State) : KeepsReports s (writeDerived i s) :=
  (writeEntry_keepsReports _ _ s).trans (writeEntry_keepsReports _ _ _)

theorem dayStart_keepsReports (i : Fin 2) (s : State) : KeepsReports s (dayStart i s) := by
  have hloaded : ∀ t : State, KeepsReports t (loadStaged i t) := fun t => by
    unfold loadStaged
    split
    · exact .refl t
    · exact (hand_keepsReports _ _ _ _).after (.of_lp (by simp))
  exact .ite (((hand_keepsReports _ _ _ _).trans (hloaded _)).after (.of_lp (by simp))) (.refl s)

theorem weekStart_keepsReports (i : Fin 2) (s : State) : KeepsReports s (weekStart i s) :=
  .ite ((hand_keepsReports _ _ _ _).after (.of_lp (by simp))) (.refl s)

theorem mismatchCheck_keepsReports (s : State) : KeepsReports s (mismatchCheck s) :=
  .ite (.ite ((hand_keepsReports _ _ _ _).after (.of_lp rfl)) (.of_lp rfl)) (.of_lp rfl)

theorem account_keepsReports (i : Fin 2) (s : State) : KeepsReports s (account i s) := by
  have hcounted : KeepsReports s
      (recomputeStages i (weekStart i (dayStart i (s.setSlot i ((s.slot i).minute (s.limits i)))))) :=
    ((dayStart_keepsReports i _).trans ((weekStart_keepsReports i _).trans (recomputeStages_keepsReports i _))).after
      (.of_lp (by simp))
  exact .ite ((writeDerived_keepsReports i _).after (.ite (hcounted.trans (mismatchCheck_keepsReports _)) hcounted))
    (.refl s)

theorem minuteExpired_keepsReports (due : Nat) (slot2First : Bool) (s : State) :
    KeepsReports s (minuteExpired due slot2First s) :=
  .ite (((account_keepsReports 1 _).trans (account_keepsReports 0 _)).after (.of_lp rfl))
    (((account_keepsReports 0 _).trans (account_keepsReports 1 _)).after (.of_lp rfl))

theorem dutyReconfigured_keepsReports (i : Fin 2) (s : State) : KeepsReports s (dutyReconfigured i s) :=
  .ite (((recomputeStages_keepsReports i _).trans (writeDerived_keepsReports i _)).after (.of_lp (by simp))) (.refl s)

theorem configureDuty_keepsReports (c : DutySettings) (s : State) : KeepsReports s (configureDuty c s) :=
  ((dutyReconfigured_keepsReports 0 _).trans (dutyReconfigured_keepsReports 1 _)).after (.of_lp rfl)

theorem insertCard_keepsReports (i : Fin 2) (token : BitVec 32) (activity : Activity) (c : Summary) (s : State) :
    KeepsReports s (insertCard i token activity c s) :=
  ((insertTrack_keepsReports i .continuous _).trans ((insertTrack_keepsReports i .daily _).trans
    ((insertTrack_keepsReports i .weekly _).trans (writeDerived_keepsReports i _)))).after (.of_lp (by simp))

theorem removeCard_keepsReports (i : Fin 2) (s : State) : KeepsReports s (removeCard i s) := by
  have hwithdrawn : KeepsReports s (withdrawTracks i (s.setSlot i { s.slot i with pending := none, superseded := false })) :=
    ((withdraw_keepsReports _ _).trans ((withdraw_keepsReports _ _).trans (withdraw_keepsReports _ _))).after
      (.of_lp (by simp))
  rw [removeCard_eq, writeAbsent_eq, writeAbsent_eq]
  exact hwithdrawn.trans (.of_lp (by simp))

/-! ### The gauges (R43 to R61) -/

/-- The record of a gauge is no part of the Link Port. -/
theorem setGauge_keepsReports (g : Fin 6) (r : Gauge) (s : State) : KeepsReports s (s.setGauge g r) := .of_lp (by simp)

theorem enterFault_keepsReports (g : Fin 6) (detail : GaugeFaultDetail) (s : State) :
    KeepsReports s (enterFault g detail s) :=
  (setGauge_keepsReports g _ s).trans (hand_keepsReports _ _ _ _)

theorem watchCoil_keepsReports (g : Fin 6) (s : State) : KeepsReports s (watchCoil g s) :=
  .ite (enterFault_keepsReports g .coilOpen s) (.refl s)

theorem enterHoming_keepsReports (g : Fin 6) (s : State) : KeepsReports s (enterHoming g s) :=
  (setGauge_keepsReports g _ s).trans (watchCoil_keepsReports g _)

theorem arrivePark_keepsReports (g : Fin 6) (s : State) : KeepsReports s (arrivePark g s) :=
  .ite ((setGauge_keepsReports g _ s).trans (hand_keepsReports _ _ _ _)) (.refl s)

theorem enterParking_keepsReports (g : Fin 6) (s : State) : KeepsReports s (enterParking g s) :=
  (setGauge_keepsReports g _ s).trans (arrivePark_keepsReports g _)

theorem parkOr_keepsReports {g : Fin 6} {otherwise : State → State} {s : State} (h : KeepsReports s (otherwise s)) :
    KeepsReports s (parkOr g otherwise s) :=
  .ite ((setGauge_keepsReports g _ s).trans (enterParking_keepsReports g _)) h

theorem enterTracking_keepsReports (g : Fin 6) (s : State) : KeepsReports s (enterTracking g s) :=
  setGauge_keepsReports g _ s

theorem enterSweeping_keepsReports (g : Fin 6) (s : State) : KeepsReports s (enterSweeping g s) :=
  setGauge_keepsReports g _ s

theorem moveEndActions_keepsReports (g : Fin 6) (s : State) : KeepsReports s (moveEndActions g s) := by
  unfold moveEndActions
  dsimp only
  split
  · exact .ite (parkOr_keepsReports (enterTracking_keepsReports g s)) (setGauge_keepsReports g _ s)
  · exact arrivePark_keepsReports g s
  all_goals exact .refl s

theorem stepMove_keepsReports (g : Fin 6) (position : Nat) (m : Move) (s : State) :
    KeepsReports s (stepMove g position m s) :=
  .ite ((setGauge_keepsReports g _ s).trans ((moveEndActions_keepsReports g _).trans (setGauge_keepsReports g _ _)))
    (setGauge_keepsReports g _ s)

theorem completeHoming_keepsReports (g : Fin 6) (h : Homing) (s : State) : KeepsReports s (completeHoming g h s) :=
  ((setGauge_keepsReports g _ s).trans (show KeepsReports _ (handHomed g h _) from hand_keepsReports _ _ _ _)).trans
    (parkOr_keepsReports (.ite (enterSweeping_keepsReports g _) (enterTracking_keepsReports g _)))

theorem endSearch_keepsReports (g : Fin 6) (h : Homing) (s : State) : KeepsReports s (endSearch g h s) :=
  .ite ((setGauge_keepsReports g _ s).trans (completeHoming_keepsReports g h _)) (setGauge_keepsReports g _ s)

theorem stepHoming_keepsReports (g : Fin 6) (h : Homing) (stall : Bool) (s : State) :
    KeepsReports s (stepHoming g h stall s) := by
  unfold stepHoming
  split
  · exact .ite ((setGauge_keepsReports g _ s).trans (completeHoming_keepsReports g h _)) (setGauge_keepsReports g _ s)
  · exact .refl s
  · refine .ite (endSearch_keepsReports g _ s) (.ite ?_ (setGauge_keepsReports g _ s))
    split
    · exact enterFault_keepsReports g .noStop s
    · exact endSearch_keepsReports g _ s

theorem updateGauge_keepsReports (g : Fin 6) (s : State) : KeepsReports s (updateGauge g s) :=
  .ite (.ite (.refl s) (enterParking_keepsReports g s)) ((setGauge_keepsReports g _ s).trans (arrivePark_keepsReports g _))

theorem orderPark_keepsReports (g : Fin 6) (s : State) : KeepsReports s (orderPark g s) := by
  unfold orderPark
  split
  iterate 4 exact enterParking_keepsReports g s
  iterate 2 exact setGauge_keepsReports g _ s
  all_goals exact .refl s

theorem proofOrder_keepsReports (g : Fin 6) (s : State) : KeepsReports s (proofOrder g s) := by
  unfold proofOrder
  dsimp only
  split
  · exact enterHoming_keepsReports g s
  · exact .ite (enterHoming_keepsReports g s) (.ite (enterSweeping_keepsReports g s) (enterTracking_keepsReports g s))
  · exact .ite (enterHoming_keepsReports g s) (.refl s)
  all_goals exact .refl s

theorem gaugesAtProving_keepsReports (s : State) : KeepsReports s (gaugesAtProving s) :=
  ((forEach_keepsReports watchCoil_keepsReports _).trans (forEach_keepsReports proofOrder_keepsReports _)).after
    (.of_lp rfl)

/-! ### The power states and the resets -/

theorem enterProving_keepsReports (old : Nat) (cause : PowerCause) (s : State) :
    KeepsReports s (enterProving old cause s) := by
  have hpower : KeepsReports s (beforeOrders old cause s) :=
    (setPower_handPowerState_keepsReports .proving (.running (s.now + Config.sec s.cfg.power.proofTime)) old cause s).trans
      (.of_lp (by simp [beforeOrders, provingPower]))
  have hstarted : KeepsReports s (beforeOffers old cause s) :=
    (hpower.trans (gaugesAtProving_keepsReports _)).trans (.of_lp (by simp [beforeOffers, startEvaluation]))
  have hoffered (t : State) : KeepsReports t (provingOffers t) :=
    (forEach_keepsReports reofferWarning_keepsReports t).trans (forEach_keepsReports reofferSlot_keepsReports _)
  rw [enterProving_stages]
  exact (hstarted.trans (hoffered _)).trans ((restartSilence_keepsReports _).trans (judgeAttention_keepsReports _))

theorem finishProof_keepsReports (s : State) : KeepsReports s (finishProof s) := by
  have hpower := setPower_handPowerState_keepsReports .run .stopped PowerState.proving.number .proofDone s
  have hdecided := hpower.trans
    ((decideLine_keepsReports _).after (.of_lp (State.setAnu_lp _ { s.anu with proofHold := false })))
  refine hdecided.trans (.of_lp ?_)
  simp [finishProof, lineAtRun]

theorem lineAtSleep_keepsReports (s : State) : KeepsReports s (lineAtSleep s) := by
  have htold : ∀ (l : List Entry) (t : State), KeepsReports t (l.foldl (fun t e => tellLink e t) t) := by
    intro l
    induction l with
    | nil => exact .refl
    | cons e l ih => exact fun t => (tellLink_keepsReports e t).trans (ih _)
  exact (htold s.anu.entries s).trans (.of_lp (by simp [lineAtSleep]))

theorem enterSleep_keepsReports (s : State) : KeepsReports s (enterSleep s) := by
  obtain ⟨u, hu⟩ : ∃ u, u = scanAtSleep (handPowerState PowerState.parking.number .gaugesParked
      (s.setPower .sleep .stopped)) := ⟨_, rfl⟩
  have hstopped : KeepsReports s u := by
    rw [hu]
    exact (setPower_handPowerState_keepsReports .sleep .stopped _ .gaugesParked s).trans (scanAtSleep_keepsReports _)
  have hslept : KeepsReports u (lineAtSleep (warningsAtSleep (gaugesAtSleep u))) :=
    (lineAtSleep_keepsReports _).after (.of_lp (by simp))
  unfold enterSleep
  rw [← hu]
  exact (hstopped.trans hslept).trans (.of_lists rfl rfl)

theorem judgePower_keepsReports (s : State) : KeepsReports s (judgePower s) := by
  unfold judgePower
  split
  · exact .ite (finishProof_keepsReports s) (.refl s)
  · exact .ite (enterSleep_keepsReports s) (.refl s)
  all_goals exact .refl s

theorem enterParkingState_keepsReports (s : State) : KeepsReports s (enterParkingState s) :=
  (setPower_handPowerState_keepsReports .parking .stopped _ .sleepRequest s).trans
    ((forEach_keepsReports orderPark_keepsReports _).trans (judgePower_keepsReports _))

theorem returnToRun_keepsReports (cause : PowerCause) (s : State) : KeepsReports s (returnToRun cause s) :=
  (setPower_handPowerState_keepsReports .run .stopped _ cause s).trans (.of_lp rfl)

theorem drivingNotice_keepsReports (a : Activity) (s : State) : KeepsReports s (drivingNotice a s) :=
  .ite (returnToRun_keepsReports .driving s) (.refl s)

theorem storeActivity_keepsReports (i : Fin 2) (a : Activity) (s : State) :
    KeepsReports s (storeActivity i a s).state := by
  unfold storeActivity
  split
  · exact (drivingNotice_keepsReports a _).after (.of_lp (by simp))
  · exact ((hand_keepsReports _ _ _ _).trans (drivingNotice_keepsReports a _)).after (.of_lp (by simp))

theorem sampleKey_keepsReports (level : Bool) (due : Nat) (s : State) : KeepsReports s (sampleKey level due s) := by
  have hedge : ∀ t : State, KeepsReports t (keyOnEdge t) := by
    intro t
    unfold keyOnEdge
    split
    · exact enterProving_keepsReports _ .keyOn t
    · exact returnToRun_keepsReports .keyOn t
    all_goals exact .refl t
  exact .ite (.ite ((hedge _).after (.of_lp rfl)) (.of_lp rfl)) (.of_lp rfl)

/-- A reset empties the queue and the held list (R189). -/
theorem KeepsReports.of_empty {s t : State} (hqueue : t.lp.queue = []) (hheld : t.lp.held = []) : KeepsReports s t :=
  fun _ => by simp [State.reportsKept, hqueue, hheld]

theorem choosePower_keepsReports (cause : PowerCause) (s : State) : KeepsReports s (choosePower cause s) :=
  .ite (enterProving_keepsReports _ cause s) (hand_keepsReports _ _ _ s)

theorem powerOn_keepsReports (keyOn : Bool) (s : State) : KeepsReports s (powerOn keyOn s) :=
  (choosePower_keepsReports .powerOn _).after (.of_empty rfl rfl)

theorem linkReset_keepsReports (keyOn : Bool) (s : State) : KeepsReports s (linkReset keyOn s) := by
  have hwritten : ∀ (i : Fin 2) (t : State), KeepsReports t (writeDerivedIfPresent i t) := fun i t =>
    .ite (writeDerived_keepsReports i t) (.refl t)
  exact ((hwritten 0 _).trans ((hwritten 1 _).trans (choosePower_keepsReports .linkReset _))).after
    (.of_empty (t := linkResetBlocks keyOn s) rfl rfl)

theorem replySent_keepsReports (keyOn : Bool) (r : Reply) (s : State) : KeepsReports s (replySent keyOn r s) :=
  .ite (linkReset_keepsReports keyOn s) (.of_lists rfl rfl)

theorem endSave_keepsReports (written : Settings) (outcome : SaveOutcome) (s : State) :
    KeepsReports s (endSave written outcome s) := by
  unfold endSave
  split <;> exact (hand_keepsReports _ _ _ _).after (.of_lp rfl)

end Sys2Proof.Machine
end

section
/-! PROOFS. O55: every request, every event and the passing of time keep the report queue and the held list. -/
namespace Sys2Proof.Machine

/-! ### Requests -/

theorem linkKeeps_reports : LinkKeeps State.reportsKept where
  pending s _ := KeepsReports.of_lp (s := s) rfl
  await _ s := KeepsReports.of_lists (s := s) rfl rfl
  short s := (hand_keepsReports _ _ _ _).after (.of_lists (s := s) rfl rfl)
  mismatch _ s := (hand_keepsReports _ _ _ _).after (.of_lists (s := s) rfl rfl)
  good s := goodFrame_keepsReports s
  overrun _ _ s := hand_keepsReports _ _ _ s
  reply _ _ _ _ s := KeepsReports.of_lists (s := s) rfl rfl

/-- The records fetched leave the queue (R183). -/
theorem fetchReports_keepsReports (n : Nat) (s : State) : KeepsReports s (fetchReports n s).state := by
  refine KeepsReports.trans (.of_fewer ?_ ?_) (judgeAttention_keepsReports _)
  · simp
  · exact List.Sublist.refl _

section
variable {P : State → Prop} {r : Request} {α : Type} {read : List Byte → State → Option α}
  {act : List Byte → State → α → Answer}

theorem Request.Keeps.of_reading (hrun : ∀ b s, r.run b s = reading (read b s) (act b s) s)
    (hact : ∀ b s x, P s → P (act b s x).state) : r.Keeps P := fun b s hs => by
  rw [hrun]
  exact reading_keeps P _ _ s hs fun x _ => hact b s x hs

theorem Request.Keeps.of_configuring (hrun : ∀ b s, r.run b s = configuring (read b s) (act b s) s)
    (hact : ∀ b s x, P s → P (act b s x).state) : r.Keeps P := fun b s hs => by
  rw [hrun]
  exact configuring_keeps P _ _ s hs fun x _ => hact b s x hs

end

theorem linkRequests_keepReports : ∀ r ∈ [fetchReportsRequest, statusRequest, identifyRequest, setRouteRequest,
    configureLinkRequest, resetRequest], r.Keeps State.reportsKept := by
  simp only [List.forall_mem_cons, List.not_mem_nil, false_imp_iff, implies_true, and_true]
  exact ⟨.of_reading (fun _ _ => rfl) fun b s n => fetchReports_keepsReports n s, fun _ s => KeepsReports.refl s,
    fun _ s => KeepsReports.refl s, .of_configuring (fun _ _ => rfl) fun b s x => KeepsReports.of_lp rfl,
    .of_configuring (fun _ _ => rfl) fun b s c => KeepsReports.of_lists rfl rfl, fun _ s => KeepsReports.refl s⟩

theorem powerRequests_keepReports : ∀ r ∈ [sleepRequest, wakeRequest, configurePowerRequest],
    r.Keeps State.reportsKept := by
  simp only [List.forall_mem_cons, List.not_mem_nil, false_imp_iff, implies_true, and_true]
  refine ⟨fun b s => show KeepsReports s _ from ?_, fun b s => show KeepsReports s _ from ?_,
    .of_configuring (fun _ _ => rfl) fun b s c => KeepsReports.of_lp rfl⟩
  · simp only [sleepRequest]
    split
    · exact .refl s
    · exact .refl s
    · split
      · exact .refl s
      · exact enterParkingState_keepsReports s
    · exact .refl s
  · simp only [wakeRequest]
    split
    · exact enterProving_keepsReports _ .wake s
    · exact returnToRun_keepsReports .wake s
    all_goals exact .refl s

theorem storeRequests_keepReports : ∀ r ∈ [saveConfigurationRequest, lockCalibrationRequest, readConfigurationRequest],
    r.Keeps State.reportsKept := by
  simp only [List.forall_mem_cons, List.not_mem_nil, false_imp_iff, implies_true, and_true]
  refine ⟨fun b s => show KeepsReports s _ from ?_, fun b s => show KeepsReports s _ from ?_,
    .of_reading (fun _ _ => rfl) fun b s x => KeepsReports.refl s⟩
  · simp only [saveConfigurationRequest]
    split
    · exact .refl s
    · exact .of_lp (by simp)
  · simp only [lockCalibrationRequest]
    (repeat' split)
    · exact .refl s
    · exact .refl s
    · exact .of_lp (by simp)

theorem quantityRequests_keepReports : ∀ r ∈ [configureQuantityRequest, setQuantitiesRequest, readQuantitiesRequest],
    r.Keeps State.reportsKept := by
  simp only [List.forall_mem_cons, List.not_mem_nil, false_imp_iff, implies_true, and_true]
  refine ⟨.of_configuring (fun _ _ => rfl) fun b s x => show KeepsReports s _ from ?_, applyPairs_keepsReports,
    .of_reading (fun _ _ => rfl) fun b s x => KeepsReports.refl s⟩
  dsimp only
  split
  · exact .refl s
  · exact .of_lp (by simp)

theorem scanRequests_keepReports : ∀ r ∈ [configureScanRequest, scanStartRequest, scanStopRequest, scanOnceRequest,
    readScanRequest], r.Keeps State.reportsKept := by
  simp only [List.forall_mem_cons, List.not_mem_nil, false_imp_iff, implies_true, and_true]
  refine ⟨fun b s => show KeepsReports s _ from ?_, fun b s => show KeepsReports s _ from ?_,
    fun b s => show KeepsReports s _ from ?_, fun b s => show KeepsReports s _ from ?_, fun _ s => KeepsReports.refl s⟩
  · simp only [configureScanRequest]
    split
    · exact .refl s
    · split
      · exact .refl s
      · refine reading_keeps (KeepsReports s) _ _ s (.refl s) fun c _ => ?_
        split <;> exact .of_lp (by simp)
  · simp only [scanStartRequest]
    (repeat' split) <;> exact .of_lp (by simp)
  · simp only [scanStopRequest]
    split
    · exact .refl s
    · rw [Answer.ok_state]
      exact stopScan_keepsReports s
  · simp only [scanOnceRequest]
    (repeat' split) <;> exact .of_lp (by simp)

theorem gaugeRequests_keepReports : ∀ r ∈ [configureGaugeRequest, homeGaugeRequest, parkGaugeRequest,
    releaseGaugeRequest, positionGaugeRequest, readGaugeRequest], r.Keeps State.reportsKept := by
  simp only [List.forall_mem_cons, List.not_mem_nil, false_imp_iff, implies_true, and_true]
  refine ⟨.of_configuring (fun _ _ => rfl) fun b s x => show KeepsReports s _ from ?_,
    .of_reading (fun _ _ => rfl) fun b s g => show KeepsReports s _ from
      (setGauge_keepsReports g _ s).trans ((enterHoming_keepsReports g _).trans (judgePower_keepsReports _)),
    .of_reading (fun _ _ => rfl) fun b s g => show KeepsReports s _ from ?_, fun b s => show KeepsReports s _ from ?_,
    .of_reading (fun _ _ => rfl) fun b s x => show KeepsReports s _ from ?_,
    .of_reading (fun _ _ => rfl) fun b s g => KeepsReports.refl s⟩
  · dsimp only
    split
    · exact .refl s
    · split
      · exact .refl s
      · rw [configuredGauge_state]
        exact .of_lp (by simp)
  · unfold parkGauge
    split
    · exact .refl s
    · split
      · exact .refl s
      · exact (orderPark_keepsReports g s).trans (judgePower_keepsReports _)
  · simp only [releaseGaugeRequest]
    split
    · exact .refl s
    · refine reading_keeps (KeepsReports s) _ _ s (.refl s) fun g _ => ?_
      split
      · exact .refl s
      · exact setGauge_keepsReports g _ s
  · dsimp only
    split
    · exact .refl s
    · exact (setGauge_keepsReports x.1 _ s).trans (judgePower_keepsReports _)

theorem evaluationRequests_keepReports : ∀ r ∈ [configureShapeRequest, configureCriterionRequest,
    configureEvaluationRequest, readStrengthRequest], r.Keeps State.reportsKept := by
  simp only [List.forall_mem_cons, List.not_mem_nil, false_imp_iff, implies_true, and_true]
  exact ⟨.of_configuring (fun _ _ => rfl) fun b s x => KeepsReports.of_lp rfl,
    .of_configuring (fun _ _ => rfl) fun b s x => configureCriterion_keepsReports x.1 x.2 s,
    .of_configuring (fun _ _ => rfl) fun b s n => KeepsReports.of_lp rfl,
    .of_reading (fun _ _ => rfl) fun b s w => KeepsReports.refl s⟩

theorem warningRequests_keepReports : ∀ r ∈ [configureWarningRequest, acknowledgeWarningRequest, clearWarningRequest,
    suppressWarningRequest, restoreWarningRequest, readWarningRequest, configureLampRequest, configureDimmerRequest,
    setLampsRequest, readLampsRequest], r.Keeps State.reportsKept := by
  simp only [List.forall_mem_cons, List.not_mem_nil, false_imp_iff, implies_true, and_true]
  exact ⟨.of_configuring (fun _ _ => rfl) fun b s x => reconfigureWarning_keepsReports x.1 x.2 s,
    .of_reading (fun _ _ => rfl) fun b s w => acknowledgeByHost_keepsReports w s,
    .of_reading (fun _ _ => rfl) fun b s w => clearByHost_keepsReports w s,
    .of_reading (fun _ _ => rfl) fun b s w => suppressByHost_keepsReports w s,
    .of_reading (fun _ _ => rfl) fun b s w => restoreByHost_keepsReports w s,
    .of_reading (fun _ _ => rfl) fun b s w => KeepsReports.refl s,
    .of_configuring (fun _ _ => rfl) fun b s x => KeepsReports.of_lp (by simp),
    .of_configuring (fun _ _ => rfl) fun b s q => KeepsReports.of_lp rfl, applyLampPairs_keepsReports,
    fun _ s => KeepsReports.refl s⟩

theorem dutyRequests_keepReports : ∀ r ∈ [configureDutyRequest, stageLimitsRequest, dutyActivityRequest, cardInRequest,
    cardOutRequest, readDutyRequest], r.Keeps State.reportsKept := by
  simp only [List.forall_mem_cons, List.not_mem_nil, false_imp_iff, implies_true, and_true]
  refine ⟨.of_configuring (fun _ _ => rfl) fun b s c => configureDuty_keepsReports c s,
    .of_reading (fun _ _ => rfl) fun b s x => KeepsReports.of_lp (by simp),
    .of_reading (fun _ _ => rfl) fun b s x => show KeepsReports s _ from ?_,
    .of_reading (fun _ _ => rfl) fun b s x => show KeepsReports s _ from ?_,
    .of_reading (fun _ _ => rfl) fun b s i => show KeepsReports s _ from ?_,
    .of_reading (fun _ _ => rfl) fun b s i => KeepsReports.refl s⟩
  · dsimp only
    (repeat' split)
    · exact .refl s
    · exact .refl s
    · exact storeActivity_keepsReports x.1 x.2 s
  · dsimp only
    (repeat' split)
    · exact .refl s
    · exact .refl s
    · exact .refl s
    · exact (insertCard_keepsReports x.1 _ x.2 _ s).trans (drivingNotice_keepsReports x.2 _)
  · split
    · exact .refl s
    · exact removeCard_keepsReports i s

theorem lineRequests_keepReports : ∀ r ∈ [configureMessageRequest, configureLineRequest, configureDutyMessagesRequest,
    setPriorityMapRequest, holdRequest, releaseRequest, acknowledgeShownRequest, announceRequest, withdrawRequest,
    setRestingPageRequest, chimeClickRequest, readLineRequest], r.Keeps State.reportsKept := by
  simp only [List.forall_mem_cons, List.not_mem_nil, false_imp_iff, implies_true, and_true]
  refine ⟨.of_configuring (fun _ _ => rfl) fun b s x => show KeepsReports s _ from .ite (.of_lp (by simp)) (.of_lp rfl),
    .of_configuring (fun _ _ => rfl) fun b s c => KeepsReports.of_lp (by simp),
    .of_configuring (fun _ _ => rfl) fun b s c => KeepsReports.of_lp rfl,
    .of_configuring (fun _ _ => rfl) fun b s m => show KeepsReports s _ from ?_, fun b s => KeepsReports.of_lp rfl,
    fun b s => show KeepsReports s _ from ?_, fun b s => show KeepsReports s _ from ?_,
    .of_reading (fun _ _ => rfl) fun b s x => offer_keepsReports _ s,
    .of_reading (fun _ _ => rfl) fun b s h => withdraw_keepsReports _ s,
    .of_configuring (fun _ _ => rfl) fun b s p => KeepsReports.of_lp (by simp), fun b s => show KeepsReports s _ from ?_,
    fun _ s => KeepsReports.refl s⟩
  · split
    · exact .of_lp (by simp)
    · exact .refl s
  · simp only [releaseRequest]
    split
    · exact (decideLine_keepsReports _).after (.of_lp rfl)
    · exact .refl s
  · simp only [acknowledgeShownRequest]
    split
    · exact .refl s
    · exact acknowledgeShown_keepsReports s
  · simp only [chimeClickRequest]
    split <;> exact .of_lp rfl

theorem requests_keepReports : ∀ r ∈ requests, r.Keeps State.reportsKept := by
  simp only [requests, List.forall_mem_append]
  exact ⟨⟨⟨⟨⟨⟨⟨⟨⟨linkRequests_keepReports, powerRequests_keepReports⟩, storeRequests_keepReports⟩,
    quantityRequests_keepReports⟩, scanRequests_keepReports⟩, gaugeRequests_keepReports⟩,
    evaluationRequests_keepReports⟩, warningRequests_keepReports⟩, dutyRequests_keepReports⟩, lineRequests_keepReports⟩

/-! ### Events and time -/

/-- What follows an expiry at its own time (log entry 3). -/
theorem reached_keepsReports {s u : State} (due : Nat) (h : KeepsReports (s.reach due) u) : KeepsReports s u :=
  h.after (.of_lp rfl)

theorem onTimer_keepsReports {timer : Option Nat} {f : State → State} {s : State}
    (hf : ∀ due, KeepsReports (s.reach due) (f (s.reach due))) : KeepsReports s (onTimer timer f s) :=
  onTimer_keeps (P := KeepsReports s) (.refl s) fun due _ => reached_keepsReports due (hf due)

theorem events_keepReports (c : Instr) (s t : State) (hc : frame c = none) (h : s.reportsKept)
    (hstep : exec c s = .next t) : t.reportsKept := by
  cases c <;> cases hc
  case powerOn keyOn =>
    cases hstep
    exact powerOn_keepsReports keyOn s h
  all_goals
    simp only [exec, execReplySent, execBadLengthByte, execFrameCheckMismatch, execFrameByteTimeout, execLinkOverrun,
      execUnknownRequest, execSaveEnd, execRefreshExpiry, execSwitchSample, execScanIntervalExpiry,
      execConversionCompletion, execGaugeStep, execHomingStep, execGaugeUpdate, execCoilOpen, execPassStart,
      execCriterionEvaluation, execRaiseDelayExpiry, execReminderExpiry, execFlashHalfChange, execLampSample,
      execMinuteExpiry, execDwellExpiry, execShowTimeExpiry, execRotationExpiry, execLineRefresh, execTransferCompletion,
      execOneShotEnd, execClickEnd, execRepeatPeriod, execKeySample, execProofTimerExpiry, execProofDone, execEntryToSleep,
      execSilenceExpiry, execByteArrival, execLossOfSupply] at hstep
    refine event_keeps (fun h => ?_) h hstep
    clear hstep
  case byteArrival b => exact receiveByte_keeps linkKeeps_reports requests_keepReports b s h
  case unknownRequest tag kind =>
    split
    · exact h
    · exact takeUnknown_keeps linkKeeps_reports tag kind s h
  all_goals refine (show KeepsReports s _ from ?_) h
  case replySent keyOn =>
    split
    · exact .refl s
    · exact replySent_keepsReports keyOn _ s
  case badLengthByte => exact .ite (linkKeeps_reports.short s) (.refl s)
  case frameCheckMismatch tag => exact linkKeeps_reports.mismatch tag s
  case frameByteTimeout => exact onTimer_keepsReports fun due => linkKeeps_reports.short _
  case linkOverrun tag kind =>
    split
    · exact .refl s
    · exact (goodFrame_keepsReports s).trans (hand_keepsReports _ _ _ _)
  case saveEnd outcome =>
    split
    · exact .refl s
    · exact endSave_keepsReports _ outcome s
  case lossOfSupply => exact .of_empty rfl rfl
  case minuteExpiry slot2First => exact reached_keepsReports _ (minuteExpired_keepsReports _ _ _)
  case refreshExpiry q => exact onTimer_keepsReports fun due => refreshExpired_keepsReports q _
  case switchSample levels => exact (forEach_keepsReports (sampleSwitch_keepsReports levels) _).after (.of_lp rfl)
  case conversionCompletion raw =>
    split
    · exact .refl s
    · exact reached_keepsReports _ (completeConversion_keepsReports _ _ _)
  case gaugeStep g =>
    split
    · exact (stepMove_keepsReports g _ _ s).trans (judgePower_keepsReports _)
    · exact .refl s
  case homingStep g stall =>
    split
    · exact .refl s
    · exact (stepHoming_keepsReports g _ stall s).trans (judgePower_keepsReports _)
  case gaugeUpdate g =>
    split
    · exact .refl s
    · exact reached_keepsReports _ ((setGauge_keepsReports g _ _).trans
        ((updateGauge_keepsReports g _).trans (judgePower_keepsReports _)))
  case coilOpen g active => exact ((watchCoil_keepsReports g _).trans (judgePower_keepsReports _)).after (.of_lp rfl)
  case criterionEvaluation =>
    split
    · exact .refl s
    · exact reached_keepsReports _ (endCriterion_keepsReports _ _)
  case raiseDelayExpiry w => exact onTimer_keepsReports fun due => enterActiveNew_keepsReports w false _
  case reminderExpiry w => exact onTimer_keepsReports fun due => reminderExpired_keepsReports w _
  case lampSample openLoads =>
    split
    · exact .refl s
    · exact reached_keepsReports _ (lampSampled_keepsReports _ _ _)
  case silenceExpiry => exact onTimer_keepsReports fun due => beginLinkLost_keepsReports _
  case dwellExpiry =>
    split
    · exact .refl s
    · exact onTimer_keepsReports fun due => dwellElapsed_keepsReports _ _
  case showTimeExpiry =>
    split
    · exact .refl s
    · exact onTimer_keepsReports fun due => endShown_keepsReports _ _ _
  case rotationExpiry =>
    split
    · exact .refl s
    · exact onTimer_keepsReports fun due => rotationExpired_keepsReports _ _
  case keySample level => exact reached_keepsReports _ (sampleKey_keepsReports level _ _)
  case proofTimerExpiry =>
    split
    · exact (judgePower_keepsReports _).after (.of_lp rfl)
    all_goals exact .refl s
  case proofDone | entryToSleep => exact .ite (judgePower_keepsReports s) (.refl s)
  all_goals (repeat' split) <;> exact .of_lp (by simp)

/-- Settles O55: every record joins the queue through a post, which heeds its room, and the held list through a hold, which
takes out the record of the same warning. -/
theorem stepKeepsTheReports : Obligations.StepKeepsTheReports :=
  stepKeeps_of State.reportsKept linkKeeps_reports (fun s => KeepsReports.of_lp (s := s) (by simp))
    requests_keepReports events_keepReports

end Sys2Proof.Machine
end

section
/-! PROOFS. O5, O6 and O14: a report by its route and the release of a held record (R179 to R181), step 1 of R175, and the
requests that the Link Port owns (R183 to R188). -/
namespace Sys2Proof.Machine

/-! ### A record posted (R179, R182) -/

/-- The attention line is judged against the queue that the record has joined. -/
theorem postRecord_attention (r : Report) (s : State) :
    (postRecord r s).lp.attention = (postRecord r s).wantsAttention := rfl

theorem postRecord_room {r : Report} {s : State} (h : s.lp.queue.length < 32) :
    (postRecord r s).lp.queue = s.lp.queue ++ [r] ∧ (postRecord r s).lp.overflow = s.lp.overflow := by
  simp [postRecord, judgeAttention, h]

theorem postRecord_full {r : Report} {s : State} (h : 32 ≤ s.lp.queue.length) :
    (postRecord r s).lp.queue = s.lp.queue ∧ (postRecord r s).lp.overflow = true := by
  simp [postRecord, judgeAttention, Nat.not_lt.mpr h]

/-! ### The routes (R180, R181) -/

/-- The record that a report makes now, URGENT or not (R179). -/
def State.recordOf (s : State) (kind : ReportKind) (subject detail : Nat) (urgent : Bool) : Report :=
  ⟨kind, BitVec.ofNat 8 subject, BitVec.ofNat 16 detail, BitVec.ofNat 16 s.dtu.clock, urgent⟩

section
variable {cls : WarnClass} {offered : Bool} {kind : ReportKind} {s : State} {route : Route} (subject detail : Nat)

theorem handWith_off (h : s.cfg.routes.get (routeIndex kind cls) = .off) :
    handWith cls offered kind subject detail s = s := by
  simp only [handWith, h]

theorem handWith_held (h : s.cfg.routes.get (routeIndex kind cls) = .afterShown) :
    handWith cls true kind subject detail s = holdRecord (s.recordOf kind subject detail false) s := by
  simp only [handWith, h]
  rfl

/-- URGENT, POST, and AFTER SHOWN where nothing was offered, all post the record. -/
theorem handWith_posted (hroute : s.cfg.routes.get (routeIndex kind cls) = route)
    (h : route = .post ∨ route = .urgent ∨ (route = .afterShown ∧ offered = false)) :
    handWith cls offered kind subject detail s =
      postRecord (s.recordOf kind subject detail (decide (route = .urgent))) s := by
  simp only [handWith, hroute]
  obtain rfl | rfl | ⟨rfl, rfl⟩ := h <;> rfl

end

theorem releaseHeld_unheld {w : Fin 48} {s : State} (h : ∀ r ∈ s.lp.held, r.subject ≠ BitVec.ofNat 8 w.val) :
    releaseHeld w s = s := by
  have hnone : (s.lp.held.find? fun r => decide (r.subject = byte w.val)) = none :=
    List.find?_eq_none.mpr fun r hr => by simpa using (show r.subject ≠ byte w.val from h r hr)
  unfold releaseHeld
  rw [hnone]

/-- Settles O5, route by route. -/
theorem reportsFollowTheirRoutes : Obligations.ReportsFollowTheirRoutes := by
  refine ⟨?_, fun w s => ⟨releaseHeld_unheld, fun r hr => ?_⟩⟩
  · intro cls offered kind subject detail s t r route ht hr hroute
    have hrecord : r = s.recordOf kind subject detail (decide (route = .urgent)) := hr
    refine ⟨ht ▸ (State.sameBut_parts _ _ _).mpr (by simp), fun hoff => ?_, fun hafter hoffered => ?_, fun hpost => ?_⟩
    · rw [ht, handWith_off subject detail (hroute.symm.trans hoff)]
    · subst hafter hoffered
      rw [ht, handWith_held subject detail hroute.symm, hrecord]
      rfl
    · rw [ht, handWith_posted subject detail hroute.symm hpost, ← hrecord]
      exact ⟨postRecord_attention r s, postRecord_held r s, postRecord_room, postRecord_full⟩
  · obtain ⟨hleft, hposted⟩ := releaseHeld_posts w s
    exact ⟨hleft, hposted r hr⟩

/-! ### Step 1 of R175 (R177, R178) -/

/-- What a report makes of the queue depends on the queue, the routes and the duty clock alone. -/
theorem hand_queue_congr {s u : State} (kind : ReportKind) (subject detail : Nat) (hqueue : u.lp.queue = s.lp.queue)
    (hcfg : u.cfg = s.cfg) (hclock : u.dtu.clock = s.dtu.clock) :
    (hand kind subject detail u).lp.queue = (hand kind subject detail s).lp.queue := by
  have hposted (r : Report) : (postRecord r u).lp.queue = (postRecord r s).lp.queue := by
    by_cases hroom : s.lp.queue.length < 32
    · rw [(postRecord_room hroom).1, (postRecord_room (hqueue ▸ hroom)).1, hqueue]
    · rw [(postRecord_full (Nat.not_lt.mp hroom)).1, (postRecord_full (hqueue ▸ Nat.not_lt.mp hroom)).1, hqueue]
  simp only [hand, handWith, hcfg, State.stamp, hclock]
  split
  · exact hqueue
  · exact hposted _
  · exact hposted _
  · exact hposted _

theorem goodFrame_silenceDue (s : State) : (goodFrame s).lp.silenceDue =
    if s.cfg.link.silence ≠ 0 ∧ s.psc.state ≠ .sleep then some (s.now + s.cfg.link.silence * 1000)
    else s.lp.silenceDue := by
  simp only [goodFrame, restartSilence, State.linkLost, endLinkLost_lp, endLinkLost_frame, State.setLp_cfg,
    State.setLp_psc, State.setLp_now, State.setLp_lp]
  split <;> simp_all [Config.ms]

theorem goodFrame_queue_kept {s : State} (h : s.lp.lostSince = none) : (goodFrame s).lp.queue = s.lp.queue := by
  simp [goodFrame, endLinkLost, h]

/-- LINK RESTORED is handed on with the whole seconds that LINK LOST lasted (R178). -/
theorem goodFrame_queue_restored {s : State} {since : Nat} (h : s.lp.lostSince = some since) : (goodFrame s).lp.queue =
    (hand .linkRestored 0 (min 65535 ((s.now - since) / 1000000)) s).lp.queue := by
  simp only [goodFrame, restartSilence_lp, endLinkLost, State.setLp_lp, h]
  exact hand_queue_congr _ _ _ rfl rfl rfl

/-- Settles O6, from what step 1 of R175 makes of each field of the Link Port. -/
theorem goodFrameEndsLinkLost : Obligations.GoodFrameEndsLinkLost := by
  intro s
  obtain ⟨hreply, hreceiver, hbyte, hlost, hheld⟩ := goodFrame_lp s
  exact ⟨(State.sameBut_parts _ _ _).mpr (by simp), hreceiver, hbyte, hlost, hreply, hheld, goodFrame_silenceDue s,
    goodFrame_queue_kept, fun _ => goodFrame_queue_restored⟩

/-! ### The requests of the Link Port (R183 to R188) -/

/-- FETCH REPORTS of a count within 1-32 (R183). -/
theorem fetchReports_next {tag n : Byte} {s : State} (h : s.listens) (hleast : 1 ≤ n.toNat) (hmost : n.toNat ≤ 32) :
    exec (.fetchReports tag [n]) s = .next (beginReply tag 0x01#8 .ok (fetchReports n.toNat (goodFrame s)).body
      (fetchReports n.toNat (goodFrame s)).state) := by
  refine fetchReportsRequest.take_listening h rfl rfl ?_
  simp only [fetchReportsRequest, byteAt_zero, readRange_in hleast hmost, reading]
  rfl

/-- The oldest records leave the queue, the overflow mark is cleared and the attention line judged (R183, R182). -/
theorem fetchReports_answers {tag n : Byte} {s : State} (h : s.listens) (hleast : 1 ≤ n.toNat) (hmost : n.toNat ≤ 32) :
    ∃ t, exec (.fetchReports tag [n]) s = .next t ∧
      t.lp.queue = (goodFrame s).lp.queue.drop n.toNat ∧ t.lp.overflow = false ∧ t.lp.attention = t.wantsAttention ∧
      s.sameBut t [.lp] ∧ t.lp.held = s.lp.held ∧
      t.lp.reply = some ⟨tag, 0x01#8, .ok, sentBody
        (be8 ((goodFrame s).lp.queue.length - n.toNat) ++ flagByte (goodFrame s).lp.overflow ++
          ((goodFrame s).lp.queue.take n.toNat).flatMap Report.bytes)⟩ := by
  refine ⟨_, fetchReports_next h hleast hmost, rfl, rfl, rfl, (State.sameBut_parts _ _ _).mpr ?_, ?_, ?_⟩
  · simp [fetchReports]
  · simp [fetchReports, judgeAttention]
  · simp [fetchReports, Answer.okWith]

/-- IDENTIFY reads nothing of the Link Port. -/
theorem goodFrame_identity (s : State) : (goodFrame s).identity = s.identity := by
  rw [goodFrame_eq_setLp]
  rfl

/-- The vendor code and the part code, byte by byte (R185, R195). -/
theorem identity_eq (s : State) : s.identity = [0x0A#8, 0x3C#8, 0x00#8, 0x46#8, Config.siliconRevision] ++
    flagByte s.cs.lock.isSome ++ be8 ((if s.cs.invalid then 1 else 0) + (if s.saving then 2 else 0)) := rfl

/-- Settles O14, request by request. -/
theorem linkRequestsAnswer : Obligations.LinkRequestsAnswer := by
  refine ⟨fun tag n s h => ⟨fetchReports_answers h, fun hout => ?_⟩, fun tag s h => ⟨?_, ?_, ?_⟩⟩
  · refine fetchReportsRequest.take_listening h rfl rfl (reading_range _ _ (readRange_out ?_))
    rw [byteAt_zero]
    omega
  · refine statusRequest.take_listening h rfl rfl ?_
    simp [statusRequest, State.statusReadout, Answer.okWith]
  · refine identifyRequest.take_listening h rfl rfl ?_
    rw [← identity_eq, ← goodFrame_identity]
    rfl
  · exact resetRequest.take_listening h rfl rfl rfl

end Sys2Proof.Machine
end

section
/-! PROOFS. O8, O9 and O10: the receiver phase by phase, a frame received byte by byte, and the frames that are discarded
(R173, R174). -/
namespace Sys2Proof.Machine

/-! ### CHECK (R194) -/

/-- CHECK is sent most significant byte first. -/
theorem be16_toNat_iff (w : BitVec 16) (hi lo : Byte) : be16 w.toNat = [hi, lo] ↔ w = hi ++ lo := by
  have happend : (hi ++ lo).toNat = hi.toNat * 256 + lo.toNat := by
    rw [BitVec.toNat_append, ← Nat.shiftLeft_add_eq_or_of_lt lo.isLt, Nat.shiftLeft_eq]
  have hhi := hi.isLt
  have hlo := lo.isLt
  rw [BitVec.toNat_eq, happend]
  simp only [be16, byte, List.cons.injEq, and_true, BitVec.toNat_eq, BitVec.toNat_ofNat]
  omega

/-! ### The phases of the receiver (R173) -/

theorem badLength_iff (b : Byte) : badLength b = true ↔ b.toNat < 2 ∨ 242 < b.toNat := by simp [badLength]

@[simp] theorem awaitByte_receiver (phase : Receiver) (s : State) : (awaitByte phase s).lp.receiver = phase := rfl

/-- Only the last wait counts. -/
@[simp] theorem awaitByte_awaitByte (p q : Receiver) (s : State) : awaitByte p (awaitByte q s) = awaitByte p s := rfl

section
variable {b : Byte} {s : State}

theorem receiveByte_hunting (h : s.lp.receiver = .hunting) :
    receiveByte b s = if b = syncByte then awaitByte .length s else s := by
  simp only [receiveByte, h]

theorem receiveByte_length (h : s.lp.receiver = .length) :
    receiveByte b s = if badLength b then discardShort s else awaitByte (.frame b []) s := by
  simp only [receiveByte, h]

theorem receiveByte_frame {len : Byte} {gathered : List Byte} (h : s.lp.receiver = .frame len gathered) :
    receiveByte b s = gatherByte len gathered b s := by
  simp only [receiveByte, h]

theorem gatherByte_waits {len : Byte} {gathered : List Byte} (h : gathered.length + 1 < len.toNat + 2) :
    gatherByte len gathered b s = awaitByte (.frame len (gathered ++ [b])) s :=
  if_pos (by simpa using h)

/-- The last byte of CHECK has come: the bytes that LENGTH counts stand before the two of CHECK. -/
theorem gatherByte_completes {len : Byte} {gathered content check : List Byte} (h : gathered ++ [b] = content ++ check)
    (hcontent : content.length = len.toNat) (hcheck : check.length = 2) :
    gatherByte len gathered b s = judgeFrame len content check s := by
  unfold gatherByte
  dsimp only
  rw [h, if_neg (by simp; omega), ← hcontent, List.take_left, List.drop_left]

theorem judgeFrame_good {len tag kind : Byte} {body check : List Byte}
    (h : be16 (checkValue (len :: tag :: kind :: body)).toNat = check) :
    judgeFrame len (tag :: kind :: body) check s = takeFrame tag kind body s := if_pos h

theorem judgeFrame_mismatch {len tag kind : Byte} {body check : List Byte}
    (h : be16 (checkValue (len :: tag :: kind :: body)).toNat ≠ check) :
    judgeFrame len (tag :: kind :: body) check s = discardMismatch tag s := if_neg h

end

/-- A frame whose last byte has come, judged by its CHECK. -/
theorem receiveByte_frame_completes {b len tag kind hi lo : Byte} {gathered body : List Byte} {s : State}
    (h : s.lp.receiver = .frame len gathered) (hall : gathered ++ [b] = tag :: kind :: body ++ [hi, lo])
    (hlen : len.toNat = body.length + 2) :
    (checkValue (len :: tag :: kind :: body) = hi ++ lo → receiveByte b s = takeFrame tag kind body s) ∧
    (checkValue (len :: tag :: kind :: body) ≠ hi ++ lo → receiveByte b s = discardMismatch tag s) := by
  rw [receiveByte_frame h, gatherByte_completes hall (by simp [hlen]) rfl]
  exact ⟨fun hmatch => judgeFrame_good ((be16_toNat_iff _ hi lo).mpr hmatch),
    fun hdiffers => judgeFrame_mismatch fun heq => hdiffers ((be16_toNat_iff _ hi lo).mp heq)⟩

/-- Settles O9, phase by phase. -/
theorem byteArrivalByPhase : Obligations.ByteArrivalByPhase := by
  refine fun b s hpowered => ⟨receiveByte b s, event_powered _ s hpowered, fun hphase hsync => ?_, fun hphase hother => ?_,
    fun hphase hleast hmost => ?_, fun hphase hout => ?_, fun len gathered hphase => ⟨fun hmore => ?_, ?_⟩⟩
  · exact (receiveByte_hunting hphase).trans (if_pos hsync)
  · exact (receiveByte_hunting hphase).trans (if_neg hother)
  · rw [receiveByte_length hphase, if_neg (by rw [badLength_iff]; omega)]
    rfl
  · rw [receiveByte_length hphase, if_pos ((badLength_iff b).mpr hout)]
    rfl
  · rw [receiveByte_frame hphase, gatherByte_waits hmore]
    rfl
  · exact fun tag kind body hi lo hall hlen => receiveByte_frame_completes hphase hall hlen

/-! ### A frame received byte by byte (R173, R194) -/

/-- Step 1 of R175 leaves the receiver hunting, whatever it waited for. -/
@[simp] theorem goodFrame_awaitByte (phase : Receiver) (s : State) : goodFrame (awaitByte phase s) = goodFrame s := rfl

@[simp] theorem takeFrame_awaitByte (phase : Receiver) (tag kind : Byte) (body : List Byte) (s : State) :
    takeFrame tag kind body (awaitByte phase s) = takeFrame tag kind body s := by
  simp only [takeFrame, Request.take, takeUnknown, goodFrame_awaitByte]

/-- Bytes that do not complete the frame are gathered one after another. -/
theorem receive_gathers (len : Byte) (s : State) (bytes : List Byte) : ∀ gathered : List Byte,
    gathered.length + bytes.length < len.toNat + 2 →
    bytes.foldl (fun t b => receiveByte b t) (awaitByte (.frame len gathered) s) =
      awaitByte (.frame len (gathered ++ bytes)) s := by
  induction bytes with
  | nil => simp
  | cons b bytes ih =>
    intro gathered hmore
    rw [List.length_cons] at hmore
    rw [List.foldl_cons, receiveByte_frame (awaitByte_receiver _ s), gatherByte_waits (by omega), awaitByte_awaitByte,
      ih _ (by simp; omega), List.append_assoc, List.singleton_append]

/-- SYNC and LENGTH bring a receiver that hunts to FRAME. -/
theorem receive_opening {len : Byte} {s : State} (h : s.lp.receiver = .hunting) (hlen : badLength len = false) :
    receiveByte len (receiveByte syncByte s) = awaitByte (.frame len []) s := by
  rw [receiveByte_hunting h, if_pos rfl, receiveByte_length (awaitByte_receiver _ s), hlen, if_neg (by simp),
    awaitByte_awaitByte]

/-- Settles O8: the opening, the bytes gathered, and the last byte, which finds the CHECK that the frame was sent with. -/
theorem frameReceivedByteByByteIsTaken : Obligations.FrameReceivedByteByByteIsTaken := by
  intro tag kind body s hbody hhunting
  obtain ⟨len, hlen⟩ : ∃ len, len = byte (tag :: kind :: body).length := ⟨_, rfl⟩
  have hcount : len.toNat = body.length + 2 := by
    rw [hlen, byte, BitVec.toNat_ofNat, List.length_cons, List.length_cons]
    omega
  have hgood : badLength len = false := Bool.eq_false_iff.mpr fun hbad => by
    rw [badLength_iff] at hbad
    omega
  obtain ⟨hi, lo, hcheck⟩ : ∃ hi lo, be16 (checkValue (len :: tag :: kind :: body)).toNat = [hi, lo] := ⟨_, _, rfl⟩
  have hframe : requestFrame tag kind body = syncByte :: len :: ((tag :: kind :: body ++ [hi]) ++ [lo]) := by
    simp only [requestFrame, frameOf, ← hlen, hcheck, List.cons_append, List.append_assoc, List.nil_append]
  rw [hframe, List.foldl_cons, List.foldl_cons, receive_opening hhunting hgood, List.foldl_append,
    receive_gathers len s _ [] (by simp; omega)]
  exact ((receiveByte_frame_completes (awaitByte_receiver _ s) (by simp) hcount).1
    ((be16_toNat_iff _ hi lo).mp hcheck)).trans (takeFrame_awaitByte _ tag kind body s)

/-! ### Overruns and discarded frames (R173, R174) -/

/-- While a reply is in progress every good frame is an overrun, whatever its KIND. -/
theorem takeFrame_overrun {s : State} {r : Reply} (h : s.lp.reply = some r) (tag kind : Byte) (body : List Byte) :
    takeFrame tag kind body s = overrun tag kind (goodFrame s) := by
  have hreply : (goodFrame s).lp.reply = some r := (goodFrame_lp s).1.trans h
  unfold takeFrame
  split
  · next q hq =>
    have hkind : q.kind = kind := by simpa using List.find?_some hq
    simp only [Request.take, hreply, hkind]
  · simp only [takeUnknown, hreply]

/-- Settles O10, one command after another. -/
theorem discardedFramesAreReported : Obligations.DiscardedFramesAreReported := by
  refine ⟨fun s hpowered => ⟨fun value hout => ?_, fun tag => event_powered _ s hpowered, fun due hdue => ?_⟩,
    fun tag kind body s r hpowered hreply => ⟨?_, takeFrame_overrun hreply tag kind body, ?_, ?_⟩⟩
  · show execBadLengthByte value s = _
    rw [execBadLengthByte, event_powered _ s hpowered, if_pos ((badLength_iff value).mpr hout)]
    rfl
  · show execFrameByteTimeout s = _
    rw [execFrameByteTimeout, event_powered _ s hpowered, hdue]
    rfl
  · show execLinkOverrun tag kind s = _
    rw [execLinkOverrun, event_powered _ s hpowered, hreply]
    rfl
  · rw [takeFrame_overrun hreply]
    simp [overrun, hreply]
  · rw [takeFrame_overrun hreply]
    exact (State.sameBut_parts _ _ _).mpr (by simp)

end Sys2Proof.Machine
end

section
/-! PROOFS. O12: LINK LOST at the silence timeout (R177): the Link Port's own record, the lamps of the host, and the
entries of the host. -/
namespace Sys2Proof.Machine

/-! ### The lamps of the host (R101, R103) -/

theorem hostLevelsOff_lampsKept (s : State) : (hostLevelsOff s).lampsKept := judgeLamps_kept _

theorem hostLevelsOff_hostLevel (s : State) (l : Fin 32) : ((hostLevelsOff s).lamp l).hostLevel = .off := by
  simp [hostLevelsOff, judgeLamps, State.lamp, Lamp.drivenAs]

/-- Outside PROVING, where a proved lamp stays lit, a HOST lamp whose level is off is dark. -/
theorem driveOf_host_off {s : State} {l : Fin 32} (hmode : (s.cfg.lamps.get l).mode = .host)
    (hproving : s.psc.state ≠ .proving) (hoff : (s.lamp l).hostLevel = .off) : s.driveOf l = .dark := by
  by_cases hsleep : s.psc.state = .sleep
  · exact driveOf_asleep hsleep
  · obtain ⟨-, hhost, -⟩ := driveOf_byMode hsleep (.inl hproving)
    rw [hhost hmode, hoff]
    rfl

/-! ### The entries of the host (R141, R177) -/

/-- Every entry of the host withdrawn. -/
def withdrawHosts (s : State) : State := forEach (fun h : Fin 8 => withdraw (.host h)) s

theorem withdrawHosts_weu (s : State) : (withdrawHosts s).weu = s.weu := forEach_weu _ s fun _ t => withdraw_weu _ t

theorem withdrawHosts_dtu (s : State) : (withdrawHosts s).dtu = s.dtu := forEach_dtu _ s fun _ t => withdraw_dtu _ t

theorem withdrawHosts_link (s : State) : LinkGrows s (withdrawHosts s) := forEach_link _ (fun _ t => withdraw_link _ t) s

/-- Once each source has had its turn, none of them is held: its own turn ends it, and the later turns bring none back. -/
theorem withdrawHosts_sources {s : State} (h : s.sources.Nodup) (i : Fin 8) : .host i ∉ (withdrawHosts s).sources := by
  obtain ⟨before, after, -, -, hcut⟩ := forEach_cut (fun h : Fin 8 => withdraw (.host h)) i s
  have hnodup : (before.foldl (fun t h => withdraw (.host h) t) s).sources.Nodup :=
    foldl_keeps (fun t => t.sources.Nodup) _ (fun t _ ht => withdraw_nodup _ ht) before s h
  have hended : AnnSource.host i ∉ (withdraw (.host i) (before.foldl (fun t h => withdraw (.host h) t) s)).sources :=
    fun hheld => (withdraw_held hnodup hheld).1 rfl
  have hstays := foldl_keeps (fun t => t.sources.Nodup ∧ AnnSource.host i ∉ t.sources) (fun t h => withdraw (.host h) t)
    (fun t _ ⟨ht, hout⟩ => ⟨withdraw_nodup _ ht, fun hheld => hout (withdraw_held ht hheld).2⟩) after _
    ⟨withdraw_nodup (.host i) hnodup, hended⟩
  unfold withdrawHosts
  rw [hcut]
  exact hstays.2

/-! ### LINK LOST begins (R177) -/

/-- The Link Port's part: the timer stops, and LINK LOST is handed on. -/
def loseLink (s : State) : State :=
  hand .linkLost 0 (s.cfg.link.silence / 10) (s.setLp { s.lp with lostSince := some s.now, silenceDue := none })

theorem beginLinkLost_stages (s : State) : beginLinkLost s = withdrawHosts (hostLevelsOff (loseLink s)) := rfl

theorem loseLink_lp (s : State) : (loseLink s).lp.lostSince = some s.now ∧ (loseLink s).lp.silenceDue = none := by
  simp [loseLink]

theorem beginLinkLost_link (s : State) : LinkGrows (loseLink s) (beginLinkLost s) := by
  rw [beginLinkLost_stages]
  exact LinkGrows.trans (.of_lp (by simp)) (withdrawHosts_link _)

theorem beginLinkLost_lamps (s : State) (l : Fin 32) : ((beginLinkLost s).lamp l).hostLevel = .off ∧
    ((s.cfg.lamps.get l).mode = .host → s.psc.state ≠ .proving → ((beginLinkLost s).lamp l).drive = .dark) := by
  rw [beginLinkLost_stages, State.lamp_of _ _ (withdrawHosts_weu _)]
  have hoff := hostLevelsOff_hostLevel (loseLink s) l
  refine ⟨hoff, fun hmode hproving => ?_⟩
  rw [hostLevelsOff_lampsKept (loseLink s) l]
  exact driveOf_host_off (by simpa [loseLink] using hmode) (by simpa [loseLink] using hproving) hoff

theorem beginLinkLost_entries {s : State} (h : s.announcementsKept) (i : Fin 8) :
    ∀ e ∈ (beginLinkLost s).anu.entries, e.source ≠ .host i := by
  have hnodup : (hostLevelsOff (loseLink s)).sources.Nodup := by
    rw [State.sources_of (s := s) (by simp [loseLink]) (by simp [loseLink])]
    exact h.2
  exact fun e he hsource => withdrawHosts_sources hnodup i (State.mem_sources.mpr ⟨e, he, hsource⟩)

/-- The record of LINK LOST stands before those of the entries that end. -/
theorem beginLinkLost_reported (s : State) : Reported .linkLost .stop 0 (s.cfg.link.silence / 10) s (beginLinkLost s) := by
  refine hand_reported .linkLost 0 _ s (s.setLp { s.lp with lostSince := some s.now, silenceDue := none }) _
    List.prefix_rfl rfl ?_ (beginLinkLost_link s).1
  rw [beginLinkLost_stages, withdrawHosts_dtu]
  simp [loseLink]

/-- Settles O12, from what the beginning of LINK LOST makes of each block at the time of the expiry. -/
theorem silenceBeginsLinkLost : Obligations.SilenceBeginsLinkLost := by
  intro s due hpowered hdue hkept
  have hexec : exec .silenceExpiry s = .next (beginLinkLost (s.reach due)) := by
    show execSilenceExpiry s = _
    rw [execSilenceExpiry, event_powered _ s hpowered, hdue]
    rfl
  obtain ⟨-, -, -, -, hlost, hsilence⟩ := beginLinkLost_link (s.reach due)
  obtain ⟨hsince, hstopped⟩ := loseLink_lp (s.reach due)
  exact ⟨_, hexec, by simp [State.reach], hlost.trans hsince, hsilence.trans hstopped,
    fun l => (beginLinkLost_lamps _ l).1, fun l => (beginLinkLost_lamps (s.reach due) l).2,
    fun e he i => beginLinkLost_entries (s := s.reach due) hkept i e he, (State.sameBut_parts _ _ _).mpr (by simp),
    beginLinkLost_reported (s.reach due)⟩

end Sys2Proof.Machine
end

section
/-! PROOFS. O21: saves and the lock of the calibration (R191, R192), and what each command makes of the lock cell. -/
namespace Sys2Proof.Machine

/-! ### What leaves the store alone -/

/-- The lock cell is set, and holds this calibration part (R192). -/
def State.lockHolds (k : LockCell) (s : State) : Prop := s.cs.lock = some k

theorem State.lockHolds.of_cs {k : LockCell} {s t : State} (hcs : t.cs = s.cs) (h : s.lockHolds k) : t.lockHolds k :=
  (congrArg Store.lock hcs).trans h

/-- The request leaves the Configuration Store alone, whatever it reads. -/
def Request.LeavesStore (r : Request) : Prop := ∀ b s, (r.run b s).state.cs = s.cs

section
variable {r : Request} {α : Type} {read : List Byte → State → Option α} {act : List Byte → State → α → Answer}

theorem Request.LeavesStore.of_reading (hrun : ∀ b s, r.run b s = reading (read b s) (act b s) s)
    (hact : ∀ b s x, (act b s x).state.cs = s.cs) : r.LeavesStore := fun b s => by
  rw [hrun]
  exact reading_keeps (fun t => t.cs = s.cs) _ _ s rfl fun x _ => hact b s x

theorem Request.LeavesStore.of_configuring (hrun : ∀ b s, r.run b s = configuring (read b s) (act b s) s)
    (hact : ∀ b s x, (act b s x).state.cs = s.cs) : r.LeavesStore := fun b s => by
  rw [hrun]
  exact configuring_keeps (fun t => t.cs = s.cs) _ _ s rfl fun x _ => hact b s x

theorem Request.LeavesStore.keeps {k : LockCell} (h : r.LeavesStore) : r.Keeps (State.lockHolds k) :=
  fun b s hs => hs.of_cs (h b s)

end

theorem linkRequests_leaveStore : ∀ r ∈ [fetchReportsRequest, statusRequest, identifyRequest, setRouteRequest,
    configureLinkRequest, resetRequest], r.LeavesStore := by
  simp only [List.forall_mem_cons, List.not_mem_nil, false_imp_iff, implies_true, and_true]
  exact ⟨.of_reading (fun _ _ => rfl) fun b s n => by simp [fetchReports], fun _ _ => rfl, fun _ _ => rfl,
    .of_configuring (fun _ _ => rfl) fun b s x => rfl, .of_configuring (fun _ _ => rfl) fun b s c => by simp,
    fun _ _ => rfl⟩

theorem powerRequests_leaveStore : ∀ r ∈ [sleepRequest, wakeRequest, configurePowerRequest], r.LeavesStore := by
  simp only [List.forall_mem_cons, List.not_mem_nil, false_imp_iff, implies_true, and_true]
  refine ⟨fun b s => ?_, fun b s => ?_, .of_configuring (fun _ _ => rfl) fun b s c => rfl⟩
  · simp only [sleepRequest]
    (repeat' split) <;> simp
  · simp only [wakeRequest]
    split <;> simp

theorem applyPair_cs (first : Byte) (v : Int) (s : State) : (applyPair first v s).1.cs = s.cs := by
  unfold applyPair
  (repeat' split) <;> simp

theorem applyPairs_cs (b : List Byte) (s : State) : (applyPairs b s).1.cs = s.cs := by
  fun_induction applyPairs b s with
  | case1 first hi lo rest s one more ih => exact ih.trans (applyPair_cs first _ s)
  | case2 => rfl

theorem quantityRequests_leaveStore : ∀ r ∈ [configureQuantityRequest, setQuantitiesRequest, readQuantitiesRequest],
    r.LeavesStore := by
  simp only [List.forall_mem_cons, List.not_mem_nil, false_imp_iff, implies_true, and_true]
  refine ⟨.of_configuring (fun _ _ => rfl) fun b s x => ?_, applyPairs_cs, .of_reading (fun _ _ => rfl) fun b s x => rfl⟩
  dsimp only
  split <;> simp

theorem scanRequests_leaveStore : ∀ r ∈ [configureScanRequest, scanStartRequest, scanStopRequest, scanOnceRequest,
    readScanRequest], r.LeavesStore := by
  simp only [List.forall_mem_cons, List.not_mem_nil, false_imp_iff, implies_true, and_true]
  refine ⟨fun b s => ?_, fun b s => ?_, fun b s => ?_, fun b s => ?_, fun _ _ => rfl⟩
  · simp only [configureScanRequest]
    split
    · rfl
    · split
      · rfl
      · refine reading_keeps (fun t => t.cs = s.cs) _ _ s rfl fun c _ => ?_
        split <;> simp
  · simp only [scanStartRequest]
    (repeat' split) <;> simp
  · simp only [scanStopRequest]
    split <;> simp
  · simp only [scanOnceRequest]
    (repeat' split) <;> simp

theorem parkGauge_cs (g : Fin 6) (s : State) : (parkGauge g s).state.cs = s.cs := by
  unfold parkGauge
  (repeat' split) <;> simp

theorem gaugeRequests_leaveStore : ∀ r ∈ [configureGaugeRequest, homeGaugeRequest, parkGaugeRequest,
    releaseGaugeRequest, positionGaugeRequest, readGaugeRequest], r.LeavesStore := by
  simp only [List.forall_mem_cons, List.not_mem_nil, false_imp_iff, implies_true, and_true]
  refine ⟨.of_configuring (fun _ _ => rfl) fun b s x => ?_, .of_reading (fun _ _ => rfl) fun b s g => by simp,
    .of_reading (fun _ _ => rfl) fun b s g => parkGauge_cs g s, fun b s => ?_,
    .of_reading (fun _ _ => rfl) fun b s x => ?_, .of_reading (fun _ _ => rfl) fun b s g => rfl⟩
  · dsimp only
    (repeat' split) <;> simp [configuredGauge_state]
  · simp only [releaseGaugeRequest]
    split
    · rfl
    · refine reading_keeps (fun t => t.cs = s.cs) _ _ s rfl fun g _ => ?_
      split <;> simp
  · dsimp only
    split <;> simp

theorem evaluationRequests_leaveStore : ∀ r ∈ [configureShapeRequest, configureCriterionRequest,
    configureEvaluationRequest, readStrengthRequest], r.LeavesStore := by
  simp only [List.forall_mem_cons, List.not_mem_nil, false_imp_iff, implies_true, and_true]
  exact ⟨.of_configuring (fun _ _ => rfl) fun b s x => rfl, .of_configuring (fun _ _ => rfl) fun b s x => by simp,
    .of_configuring (fun _ _ => rfl) fun b s n => by simp, .of_reading (fun _ _ => rfl) fun b s w => rfl⟩

theorem applyLampPairs_cs (b : List Byte) (s : State) : (applyLampPairs b s).1.cs = s.cs := by
  fun_induction applyLampPairs b s with
  | case1 index level rest s one more ih => exact ih.trans (applyLampPair_same index level s).2.2
  | case2 => rfl

theorem warningRequests_leaveStore : ∀ r ∈ [configureWarningRequest, acknowledgeWarningRequest, clearWarningRequest,
    suppressWarningRequest, restoreWarningRequest, readWarningRequest, configureLampRequest, configureDimmerRequest,
    setLampsRequest, readLampsRequest], r.LeavesStore := by
  simp only [List.forall_mem_cons, List.not_mem_nil, false_imp_iff, implies_true, and_true]
  exact ⟨.of_configuring (fun _ _ => rfl) fun b s x => by simp,
    .of_reading (fun _ _ => rfl) fun b s w => (acknowledgeByHost_same w s).2.2,
    .of_reading (fun _ _ => rfl) fun b s w => (clearByHost_same w s).2.2,
    .of_reading (fun _ _ => rfl) fun b s w => (suppressByHost_same w s).2.2,
    .of_reading (fun _ _ => rfl) fun b s w => (restoreByHost_same w s).2.2,
    .of_reading (fun _ _ => rfl) fun b s w => rfl, .of_configuring (fun _ _ => rfl) fun b s x => by simp,
    .of_configuring (fun _ _ => rfl) fun b s q => rfl, applyLampPairs_cs, fun _ _ => rfl⟩

theorem dutyRequests_leaveStore : ∀ r ∈ [configureDutyRequest, stageLimitsRequest, dutyActivityRequest, cardInRequest,
    cardOutRequest, readDutyRequest], r.LeavesStore := by
  simp only [List.forall_mem_cons, List.not_mem_nil, false_imp_iff, implies_true, and_true]
  refine ⟨.of_configuring (fun _ _ => rfl) fun b s c => by simp, .of_reading (fun _ _ => rfl) fun b s x => by simp,
    .of_reading (fun _ _ => rfl) fun b s x => ?_, .of_reading (fun _ _ => rfl) fun b s x => ?_,
    .of_reading (fun _ _ => rfl) fun b s i => ?_, .of_reading (fun _ _ => rfl) fun b s i => rfl⟩
  · dsimp only
    (repeat' split)
    · rfl
    · rfl
    · exact (storeActivity_same x.1 x.2 s).2.2
  · dsimp only
    (repeat' split) <;> simp
  · split <;> simp

theorem lineRequests_leaveStore : ∀ r ∈ [configureMessageRequest, configureLineRequest, configureDutyMessagesRequest,
    setPriorityMapRequest, holdRequest, releaseRequest, acknowledgeShownRequest, announceRequest, withdrawRequest,
    setRestingPageRequest, chimeClickRequest, readLineRequest], r.LeavesStore := by
  simp only [List.forall_mem_cons, List.not_mem_nil, false_imp_iff, implies_true, and_true]
  refine ⟨.of_configuring (fun _ _ => rfl) fun b s x => by simp, .of_configuring (fun _ _ => rfl) fun b s c => by simp,
    .of_configuring (fun _ _ => rfl) fun b s c => rfl, .of_configuring (fun _ _ => rfl) fun b s m => ?_, fun b s => rfl,
    fun b s => ?_, fun b s => ?_, .of_reading (fun _ _ => rfl) fun b s x => by simp,
    .of_reading (fun _ _ => rfl) fun b s h => by simp, .of_configuring (fun _ _ => rfl) fun b s p => by simp,
    fun b s => ?_, fun _ _ => rfl⟩
  · split <;> simp
  · simp only [releaseRequest]
    split <;> simp
  · simp only [acknowledgeShownRequest]
    split <;> simp
  · simp only [chimeClickRequest]
    split <;> simp

/-! ### The lock cell stays set (R192) -/

section
variable (k : LockCell)

/-- LOCK CALIBRATION writes a clear cell alone. -/
theorem setLock_lockHolds {s : State} (h : s.lockHolds k) : setLock s = s := by
  rw [State.lockHolds] at h
  simp [setLock, h]

theorem storeRequests_keepLock : ∀ r ∈ [saveConfigurationRequest, lockCalibrationRequest, readConfigurationRequest],
    r.Keeps (State.lockHolds k) := by
  simp only [List.forall_mem_cons, List.not_mem_nil, false_imp_iff, implies_true, and_true]
  refine ⟨fun b s h => ?_, fun b s h => ?_, keeps_of_reading (fun _ _ => rfl) fun b s x _ h => h⟩
  · simp only [saveConfigurationRequest]
    split <;> exact h
  · simp only [lockCalibrationRequest, setLock_lockHolds k h]
    (repeat' split) <;> exact h

theorem requests_keepLock : ∀ r ∈ requests, r.Keeps (State.lockHolds k) := by
  simp only [requests, List.forall_mem_append]
  exact ⟨⟨⟨⟨⟨⟨⟨⟨⟨fun r h => (linkRequests_leaveStore r h).keeps, fun r h => (powerRequests_leaveStore r h).keeps⟩,
    storeRequests_keepLock k⟩, fun r h => (quantityRequests_leaveStore r h).keeps⟩,
    fun r h => (scanRequests_leaveStore r h).keeps⟩, fun r h => (gaugeRequests_leaveStore r h).keeps⟩,
    fun r h => (evaluationRequests_leaveStore r h).keeps⟩, fun r h => (warningRequests_leaveStore r h).keeps⟩,
    fun r h => (dutyRequests_leaveStore r h).keeps⟩, fun r h => (lineRequests_leaveStore r h).keeps⟩

theorem linkKeeps_lock : LinkKeeps (State.lockHolds k) where
  pending _ _ := .of_cs rfl
  await _ _ := .of_cs (by simp)
  short _ := .of_cs (by simp)
  mismatch _ _ := .of_cs (by simp)
  good _ := .of_cs (by simp)
  overrun _ _ _ := .of_cs (by simp)
  reply _ _ _ _ _ := .of_cs (by simp)

/-- The load of a reset leaves the lock cell as it is (R190, R191). -/
theorem afterReset_lockHolds {s t : State} (hcs : t.cs = s.cs.afterReset) (h : s.lockHolds k) : t.lockHolds k := by
  rw [State.lockHolds, hcs, s.cs.afterReset_parts.1]
  exact h

theorem endSave_lock (written : Settings) (outcome : SaveOutcome) (s : State) :
    (endSave written outcome s).cs.lock = s.cs.lock := by
  cases outcome <;> simp [endSave]

theorem events_keepLock (c : Instr) (s t : State) (hc : frame c = none) (h : s.lockHolds k) (hstep : exec c s = .next t) :
    t.lockHolds k := by
  cases c <;> cases hc
  case powerOn keyOn =>
    cases hstep
    exact afterReset_lockHolds k (powerOn_loads keyOn s).1 h
  all_goals
    simp only [exec, execReplySent, execBadLengthByte, execFrameCheckMismatch, execFrameByteTimeout, execLinkOverrun,
      execUnknownRequest, execSaveEnd, execRefreshExpiry, execSwitchSample, execScanIntervalExpiry,
      execConversionCompletion, execGaugeStep, execHomingStep, execGaugeUpdate, execCoilOpen, execPassStart,
      execCriterionEvaluation, execRaiseDelayExpiry, execReminderExpiry, execFlashHalfChange, execLampSample,
      execMinuteExpiry, execDwellExpiry, execShowTimeExpiry, execRotationExpiry, execLineRefresh, execTransferCompletion,
      execOneShotEnd, execClickEnd, execRepeatPeriod, execKeySample, execProofTimerExpiry, execProofDone, execEntryToSleep,
      execSilenceExpiry, execByteArrival, execLossOfSupply] at hstep
    refine event_keeps (fun h => ?_) h hstep
    clear hstep
  case replySent keyOn =>
    split
    · exact h
    · unfold replySent
      split
      · exact afterReset_lockHolds k (linkReset_loads keyOn s).1 h
      · exact h
  case saveEnd outcome =>
    split
    · exact h
    · exact (endSave_lock _ outcome s).trans h
  case lossOfSupply => exact s.cs.abandoned_lock.trans h
  case byteArrival b => exact receiveByte_keeps (linkKeeps_lock k) (requests_keepLock k) b s h
  case unknownRequest tag kind =>
    split
    · exact h
    · exact takeUnknown_keeps (linkKeeps_lock k) tag kind s h
  case frameByteTimeout | raiseDelayExpiry | reminderExpiry | silenceExpiry | refreshExpiry =>
    exact onTimer_keeps h fun due _ => h.of_cs (by simp)
  case dwellExpiry | showTimeExpiry | rotationExpiry =>
    split
    · exact h
    · exact onTimer_keeps h fun due _ => h.of_cs (by simp)
  all_goals (repeat' split) <;> exact h.of_cs (by simp)

end

/-- No command changes a lock cell that is set. -/
theorem exec_keepsLock (c : Instr) (s t : State) (k : LockCell) (h : s.cs.lock = some k) (hexec : exec c s = .next t) :
    t.cs.lock = some k := by
  cases hc : frame c with
  | none => exact events_keepLock k c s t hc h hexec
  | some x =>
    obtain ⟨tag, kind, body⟩ := x
    obtain ⟨r, hr, hevent⟩ := exec_request c tag kind body hc
    rw [hevent] at hexec
    exact event_keeps (Request.take_keeps (linkKeeps_lock k)
      (requests_keepLock k r (List.mem_of_find?_eq_some hr)) tag body s) h hexec

/-! ### The calibration part (R192) -/

theorem calibrationPart_gauges (c : Settings) (g : Fin 6) :
    c.calibrationPart.gauges.get g = (c.gauges.get g).calibration := Table.get_ofFn _ g

/-- The locked quantities are those under SCAN, each with its input, gain and offset. -/
theorem mem_calibrationPart_quantities (c : Settings) (q : Fin 48) (input : Fin 16) (gain offset : Int) :
    (q, input, gain, offset) ∈ c.calibrationPart.quantities ↔
      ∃ f : ScanFields, c.sources.get q = .scan f ∧ f.input = input ∧ f.gain = gain ∧ f.offset = offset := by
  simp only [Settings.calibrationPart, List.mem_filterMap, List.mem_finRange, true_and]
  constructor
  · rintro ⟨p, hp⟩
    split at hp
    · next f hf =>
      cases hp
      exact ⟨f, hf, rfl, rfl, rfl⟩
    all_goals cases hp
  · rintro ⟨f, hf, rfl, rfl, rfl⟩
    exact ⟨q, by rw [hf]⟩

/-! ### The commands of the store -/

section
variable (tag : Byte) {s : State}

/-- A save takes the active configuration with the calibration part of the lock cell (R191). -/
theorem saveConfiguration_begins (h : s.configurable) : exec (.saveConfiguration tag []) s =
    .next (beginReply tag 0x0C#8 .ok [] ((goodFrame s).setCs { s.cs with saving := some (s.cs.locked s.cfg) })) := by
  have hidle : (goodFrame s).saving = false := by simpa using h.2
  refine saveConfigurationRequest.take_awake tag [] s (.of_configurable h) rfl ?_
  simp [saveConfigurationRequest, hidle, Answer.ok, beginSave]

theorem saveEnd_ends {x : Settings} (outcome : SaveOutcome) (hpowered : s.powered = true) (hsaving : s.cs.saving = some x) :
    exec (.saveEnd outcome) s = .next (endSave x outcome s) := by
  show execSaveEnd outcome s = _
  rw [execSaveEnd, event_powered _ s hpowered, hsaving]

/-- What a failed save may leave (R191, log entries 8 and 40). -/
theorem imageLeft_image (left : ImageLeft) (before : StoredImage) (x : Settings) :
    (left = .previous → ImageLeft.image left before x = before) ∧
    (left = .written → ImageLeft.image left before x = .held x x.check) ∧
    (left = .broken → ∃ k, ImageLeft.image left before x = .held x k ∧ k ≠ x.check) :=
  ⟨fun h => h ▸ rfl, fun h => h ▸ rfl, fun h => h ▸ StoredImage.brokenOff_mismatch x⟩

theorem lockCalibration_conflict (h : s.configurable) (hinvalid : s.cs.invalid = true) :
    exec (.lockCalibration tag []) s = .next (beginReply tag 0x0D#8 .conflict [] (goodFrame s)) := by
  have hidle : (goodFrame s).saving = false := by simpa using h.2
  refine lockCalibrationRequest.take_awake tag [] s (.of_configurable h) rfl ?_
  simp [lockCalibrationRequest, hidle, hinvalid, Answer.refuse]

theorem lockCalibration_locks (h : s.configurable) (hvalid : s.cs.invalid = false) :
    exec (.lockCalibration tag []) s = .next (beginReply tag 0x0D#8 .ok [] (setLock (goodFrame s))) := by
  have hidle : (goodFrame s).saving = false := by simpa using h.2
  refine lockCalibrationRequest.take_awake tag [] s (.of_configurable h) rfl ?_
  simp [lockCalibrationRequest, hidle, hvalid, Answer.ok]

end

/-- Settles O21, command by command of the store; that the lock cell stays set is asked of every command. -/
theorem savesAndTheCalibrationLock : Obligations.SavesAndTheCalibrationLock := by
  refine ⟨fun tag s => ⟨saveConfiguration_begins tag, fun x hpowered hsaving => ⟨saveEnd_ends _ hpowered hsaving,
    fun left => ⟨ImageLeft.image left s.cs.image x, ?_⟩⟩⟩, fun tag s h => ⟨lockCalibration_conflict tag h,
    fun hvalid hset => ?_, fun hvalid hclear => ⟨s.cfg.calibrationPart, ?_, calibrationPart_gauges s.cfg,
      mem_calibrationPart_quantities s.cfg⟩⟩, exec_keepsLock⟩
  · obtain ⟨hprevious, hwritten, hbroken⟩ := imageLeft_image left s.cs.image x
    exact ⟨hprevious, hwritten, hbroken, saveEnd_ends _ hpowered hsaving⟩
  · obtain ⟨k, hk⟩ := Option.isSome_iff_exists.mp hset
    rw [lockCalibration_locks tag h hvalid, setLock_lockHolds k (s := goodFrame s) (by simpa [State.lockHolds] using hk)]
  · rw [lockCalibration_locks tag h hvalid]
    simp [setLock, hclear]

end Sys2Proof.Machine
end

section
/-! PROOFS. O60: the fields of a configuration read back from the bytes that the readouts give for them, and the four
configurations made of such fields (R193, R197, R198). -/
namespace Sys2Proof.Machine

/-! ### Places in a body -/

@[simp] theorem byteAt_succ (b : Byte) (rest : List Byte) (i : Nat) : byteAt (b :: rest) (i + 1) = byteAt rest i := rfl

@[simp] theorem wordAt_succ (b : Byte) (rest : List Byte) (i : Nat) : wordAt (b :: rest) (i + 1) = wordAt rest i := rfl

@[simp] theorem intAt_succ (b : Byte) (rest : List Byte) (i : Nat) : intAt (b :: rest) (i + 1) = intAt rest i := rfl

/-! ### Fields of one byte -/

theorem byte_toNat {n : Nat} (h : n < 256) : (byte n).toNat = n := by simp [byte, Nat.mod_eq_of_lt h]

theorem readIndex_byte {n : Nat} (hn : n ≤ 256) (i : Fin n) : readIndex n (byte i.val).toNat = some i := by
  rw [byte_toNat (by omega), readIndex_val]

/-- The byte of an index field that may hold none (R194). -/
def optByte {n : Nat} : Option (Fin n) → Byte
  | none => 0xFF#8
  | some i => byte i.val

theorem optIndex_eq {n : Nat} (x : Option (Fin n)) : optIndex x = [optByte x] := by cases x <;> rfl

/-- An index below 255 is told from none. -/
theorem readOptIndex_optByte {n : Nat} (hn : n ≤ 255) (x : Option (Fin n)) :
    readOptIndex n (optByte x).toNat = some x := by
  cases x with
  | none => rfl
  | some i =>
    have hindex : (byte i.val).toNat = i.val := byte_toNat (by omega)
    have hsome : i.val ≠ 255 := by omega
    simp [optByte, hindex, readOptIndex, hsome]

theorem readFlag_byte (b : Bool) : readFlag (byte (if b then 1 else 0)).toNat = some b := by cases b <;> rfl

/-- The code of a listed value is its place in the list (R194). -/
theorem readEnum_code {α : Type} [DecidableEq α] {l : List α} {x : α} (hl : l.length ≤ 256) (h : x ∈ l) :
    readEnum l (byte (code l x)).toNat = some x := by
  have hlt : code l x < l.length := List.findIdx_lt_length_of_exists ⟨x, h, by simp⟩
  have hfound : l[code l x] = x := of_decide_eq_true (List.findIdx_getElem (w := hlt))
  rw [byte_toNat (by omega), readEnum, List.getElem?_eq_getElem hlt, hfound]

theorem WarnClass.mem_list (x : WarnClass) : x ∈ WarnClass.list := by cases x <;> decide

theorem Chime.mem_list (x : Chime) : x ∈ Chime.list := by cases x <;> decide

theorem readSlot_byte (i : Fin 2) : readSlot (byte (i.val + 1)).toNat = some i := by
  rw [byte_toNat (by omega), readSlot_val]

/-! ### Numbers -/

theorem readSteps_in {step least most n : Nat} (hleast : least ≤ n * step) (hmost : n * step ≤ most) :
    readSteps step least most n = some (n * step) := by
  simp [readSteps, readWhen, hleast, hmost]

theorem readStepsOrZero_in {step least most n : Nat} (h : n = 0 ∨ (least ≤ n * step ∧ n * step ≤ most)) :
    readStepsOrZero step least most n = some (n * step) := by
  unfold readStepsOrZero
  split
  · next hzero => simp [hzero]
  · next hne =>
    obtain ⟨hleast, hmost⟩ := h.resolve_left hne
    exact readSteps_in hleast hmost

/-- A number in two bytes, most significant first (R198). -/
theorem wordAt_be16 {n : Nat} (h : n < 65536) (rest : List Byte) : wordAt (byte (n / 256) :: byte n :: rest) 0 = n := by
  have hlow : (byte n).toNat = n % 256 := by simp [byte]
  have hhigh : (byte (n / 256)).toNat = n / 256 := byte_toNat (by omega)
  rw [wordAt, byteAt_zero, byteAt_one, hlow, hhigh]
  omega

/-- Two's complement: a negative number is read as it was written. -/
theorem intAt_int16 {x : Int} (hleast : -32768 ≤ x) (hmost : x ≤ 32767) (rest : List Byte) :
    intAt (byte ((x % 65536).toNat / 256) :: byte (x % 65536).toNat :: rest) 0 = x := by
  rw [intAt, wordAt_be16 (by omega)]
  split <;> omega

/-! ### Configurations -/

/-- A warning's configuration (R83, R96). -/
theorem readWarnSettings_bytes (w : Fin 48) (c : WarnSettings) (n : Nat) (hraise : 1 ≤ c.raiseLevel)
    (hraiseMost : c.raiseLevel ≤ 255) (hclear : c.clearLevel < c.raiseLevel) (hdelay : c.raiseDelay = n * 100)
    (hsteps : n ≤ 255) (hreminder : c.reminder ≤ 60) : readWarnSettings (byte w.val :: c.bytes) = some (w, c) := by
  obtain ⟨enabled, cls, lamp, raiseLevel, clearLevel, raiseDelay, latching, message, chime, reminder⟩ := c
  dsimp only at hraise hraiseMost hclear hdelay hreminder
  subst hdelay
  have hn : n * 100 / 100 = n := by omega
  simp only [readWarnSettings, WarnSettings.bytes, flagByte, enumByte, optIndex_eq, be8, List.cons_append,
    List.nil_append, byteAt_zero, byteAt_succ, hn, readIndex_byte (n := 48) (by decide), readFlag_byte,
    readEnum_code (l := WarnClass.list) (by decide) cls.mem_list, readOptIndex_optByte (n := 32) (by decide),
    byte_toNat (n := raiseLevel) (by omega), readRange_in hraise hraiseMost, byte_toNat (n := clearLevel) (by omega),
    byte_toNat (n := n) (by omega), readSteps_in (step := 100) (least := 0) (most := 25500) (n := n) (by omega) (by omega),
    readOptIndex_optByte (n := 64) (by decide), readEnum_code (l := Chime.list) (by decide) chime.mem_list,
    byte_toNat (n := reminder) (by omega), readRange_in (Nat.zero_le _) hreminder,
    readRange_in (least := 0) (most := raiseLevel - 1) (k := clearLevel) (Nat.zero_le _) (by omega),
    Option.bind_eq_bind, Option.bind_some]

/-- The two open flags of a shape (R79). -/
theorem readOpenFlags (low high : Bool) : ∃ flags,
    readRange 0 3 (byte ((if low then 1 else 0) + (if high then 2 else 0))).toNat = some flags ∧
    decide (flags % 2 = 1) = low ∧ decide (flags / 2 = 1) = high := by
  cases low <;> cases high <;> exact ⟨_, rfl, rfl, rfl⟩

/-- A grade shape (R66, R79). -/
theorem readShape_bytes (f : Fin 32) (c : Shape) (hleast : -32768 ≤ c.a) (hab : c.a ≤ c.b) (hbc : c.b ≤ c.c)
    (hcd : c.c ≤ c.d) (hmost : c.d ≤ 32767) (hinvalid : c.invalid ≤ 255) :
    readShape (byte f.val :: c.bytes) = some (f, c) := by
  obtain ⟨flags, hflags, hlow, hhigh⟩ := readOpenFlags c.openLow c.openHigh
  simp only [readShape, Shape.bytes, optIndex_eq, int16, be16, be8, List.cons_append, List.nil_append, byteAt_zero,
    byteAt_succ, intAt_succ, readIndex_byte (n := 32) (by decide), readOptIndex_optByte (n := 48) (by decide),
    intAt_int16 (x := c.a) (by omega) (by omega), intAt_int16 (x := c.b) (by omega) (by omega),
    intAt_int16 (x := c.c) (by omega) (by omega), intAt_int16 (x := c.d) (by omega) (by omega), hflags, hlow, hhigh,
    byte_toNat (n := c.invalid) (by omega), Option.bind_eq_bind, Option.bind_some]
  simp [readWhen, hab, hbc, hcd]

/-- A limit set (R111), which lies within two bytes field by field when it is valid. -/
theorem readLimitSet_bytes (b : Byte) (l : LimitSet) (h : l.valid = true) : readLimitSet (b :: l.bytes) 1 = some l := by
  have hvalid := h
  simp only [LimitSet.valid, decide_eq_true_eq] at hvalid
  obtain ⟨-, hcontinuous, hcontinuousMargin, -, hbreak, -, hsegment, -, hdaily, hdailyMargin, -, hdailyRest, -, hweeklyRest,
    -, hweekly⟩ := hvalid
  simp only [readLimitSet, LimitSet.bytes, be16, List.cons_append, List.nil_append, wordAt_succ,
    wordAt_be16 (n := l.continuous) (by omega), wordAt_be16 (n := l.continuousMargin) (by omega),
    wordAt_be16 (n := l.breakLength) (by omega), wordAt_be16 (n := l.breakSegment) (by omega),
    wordAt_be16 (n := l.daily) (by omega), wordAt_be16 (n := l.dailyMargin) (by omega),
    wordAt_be16 (n := l.dailyRest) (by omega), wordAt_be16 (n := l.weeklyRest) (by omega),
    wordAt_be16 (n := l.weekly) (by omega)]
  simp [readWhen, h]

theorem readStagedLimits_bytes (i : Fin 2) (l : LimitSet) (h : l.valid = true) :
    readStagedLimits (byte (i.val + 1) :: l.bytes) = some (i, l) := by
  simp [readStagedLimits, readSlot_byte, readLimitSet_bytes _ l h]

/-- A link-sourced quantity (R15), whose refresh limit is sent in steps of 10 ms (log entry 29). -/
theorem readQuantityConfig_link (q : Fin 48) (n : Nat) (hq : q.val < 44) (h : n = 0 ∨ (2 ≤ n ∧ n ≤ 1000)) :
    readQuantityConfig (byte q.val :: (QSource.link (n * 10)).bytes) = some (q, .link (n * 10)) := by
  have hn : n * 10 / 10 = n := by omega
  have hsource : readSource (byte q.val :: (QSource.link (n * 10)).bytes) = some (.link (n * 10)) := by
    show (readStepsOrZero 10 20 10000
      (wordAt (byte (n * 10 / 10 / 256) :: byte (n * 10 / 10) :: absentField 10) 0)).map QSource.link = _
    rw [hn, wordAt_be16 (by omega), readStepsOrZero_in (by omega)]
    rfl
  simp [readQuantityConfig, byteAt_zero, readIndex_byte (n := 48) (by decide), hsource, readWhen, hq]

/-- Settles O60, configuration by configuration. -/
theorem readoutIsReadBack : Obligations.ReadoutIsReadBack :=
  ⟨readWarnSettings_bytes, readShape_bytes, readStagedLimits_bytes, readQuantityConfig_link⟩

end Sys2Proof.Machine
end

section
/-! PROOFS. O7: a request command and the good frame that it stands for (R195, log entry 4). -/
namespace Sys2Proof.Machine

/-- A good frame whose KIND finds a request is taken by that request (R175). -/
theorem takeFrame_of_find {kind : Byte} {r : Request} (h : (requests.find? fun r => decide (r.kind = kind)) = some r)
    (tag : Byte) (body : List Byte) (s : State) : takeFrame tag kind body s = r.take tag body s := by
  rw [takeFrame, h]

/-- Settles O7: the command and the good frame are both taken by the request that the KIND finds. -/
theorem requestCommandIsItsFrame : Obligations.RequestCommandIsItsFrame := by
  intro c tag kind body s hframe hpowered
  obtain ⟨r, hfind, hexec⟩ := exec_request c tag kind body hframe
  calc exec c s
    _ = event (r.take tag body) s := hexec s
    _ = .next (r.take tag body s) := event_powered _ s hpowered
    _ = .next (takeFrame tag kind body s) := by rw [takeFrame_of_find hfind]

end Sys2Proof.Machine
end

section
/-! PROOFS. O1: the step on a queue that is not empty (log entry 1), beside `step_idle` for the empty queue. -/
namespace Sys2Proof.Machine

/-- Settles O1: with a command at the front, `step` takes its second branch. -/
theorem stepCarriesOutTheFrontCommand : Obligations.StepCarriesOutTheFrontCommand := by
  intro c rest s hpending
  rw [step, hpending]

end Sys2Proof.Machine
end

section
/-! PROOFS. What the judgement of the power state makes of a change of one gauge, by the power state (R61), for the step timers
and the update of a gauge (O34 to O36). -/
namespace Sys2Proof.Machine

@[simp] theorem State.setGauge_gaugeConfig (s : State) (g x : Fin 6) (r : Gauge) :
    (s.setGauge g r).gaugeConfig x = s.gaugeConfig x := rfl

theorem judgePower_gaugesReady (s : State) : (judgePower s).gaugesReady = s.gaugesReady :=
  gaugesReady_congr _ _ fun g => (judgePower_gauge_keeps s g).1

theorem judgePower_gaugesParked (s : State) : (judgePower s).gaugesParked = s.gaugesParked :=
  gaugesParked_congr _ _ fun g => (judgePower_gauge_keeps s g).1

/-- Outside PARKING the judgement completes the proof or finds no change due (R164). -/
theorem judgePower_finishes {s : State} (h : s.psc.state ≠ .parking) : judgePower s =
    if s.psc.state = .proving ∧ s.psc.proof = .expired ∧ s.gaugesReady = true then finishProof s else s := by
  by_cases hproving : s.psc.state = .proving
  · rw [judgePower_proving hproving]
    simp [hproving]
  · rw [judgePower_settled s ⟨fun k => absurd k hproving, fun k => absurd k h⟩, if_neg fun k => hproving k.1]

/-- A gauge whose state stays makes no change of power state. -/
theorem judgePower_setGauge {s : State} {g : Fin 6} {r : Gauge} (hs : s.settled) (h : r.state = (s.gauge g).state) :
    judgePower (s.setGauge g r) = s.setGauge g r :=
  judgePower_settled _ (settled_setGauge_same hs h)

/-- A PARKING gauge that is PARKED can make the entry to SLEEP due, and no other change (R61, R166). -/
theorem judgePower_parked {s u : State} {g : Fin 6} (hs : s.settled) (hpsc : u.psc = s.psc)
    (hother : ∀ x, x ≠ g → u.gauge x = s.gauge x) (hparking : (s.gauge g).state = .parking) :
    judgePower u = if s.psc.state = .parking ∧ u.gaugesParked = true then enterSleep u else u := by
  by_cases h : s.psc.state = .parking
  · rw [judgePower_parking (hpsc ▸ h)]
    simp [h]
  · rw [if_neg fun k => h k.1]
    exact judgePower_settled u (settled_of_gauge hs hpsc hother (fun _ k => by simp [hparking] at k) fun k => absurd k h)

/-- The entry to SLEEP ends the moves and the update timers of the gauges (R62), and no other change of power state reaches
them. -/
theorem judgePower_gauge_eq (s : State) (g : Fin 6) : (judgePower s).gauge g =
    if (judgePower s).psc.state = .sleep ∧ s.psc.state ≠ .sleep then
      { s.gauge g with updateDue := none, move := none, following := none }
    else s.gauge g := by
  rcases judgePower_cases s with ⟨heq, hproving⟩ | ⟨heq, hparking⟩ | ⟨heq, -⟩ <;> rw [heq]
  · rw [finishProof_state, if_neg fun k => nomatch k.1]
    exact State.gauge_of _ _ (by simp) g
  · rw [enterSleep_state, hparking, if_pos ⟨rfl, nofun⟩, enterSleep_gauge]
  · rw [if_neg fun k => k.2 k.1]

end Sys2Proof.Machine
end

section
/-! PROOFS. O34: the step timer of a move (R42, R43, R45, R50, R55): one microstep, the end of a move by the gauge's state, and
the following target. -/
namespace Sys2Proof.Machine

section
variable {g : Fin 6} {s : State} {p q : Nat} {m : Move}

theorem gaugeStep_exec (hpowered : s.powered = true) (hposition : (s.gauge g).position = some p)
    (hmove : (s.gauge g).move = some m) : exec (.gaugeStep g) s = .next (judgePower (stepMove g p m s)) := by
  have harm : exec (.gaugeStep g) s = execGaugeStep g s := rfl
  rw [harm, execGaugeStep, event_powered _ _ hpowered]
  simp only [hposition, hmove]

/-- A gauge at the end of a move, with its staged profile put in force (R43, R45). -/
def Gauge.ended (q : Nat) (r : Gauge) : Gauge :=
  { r with position := some q, move := none, profile := r.staged.getD r.profile, staged := none }

theorem stepMove_goesOn (hq : toward p m.target 1 = q) (hne : q ≠ m.target) : stepMove g p m s =
    s.setGauge g { s.gauge g with
      position := some q
      move := some { m with speedSq := (s.gauge g).profile.nextSq m.speedSq (distance q m.target) } } := by
  subst hq
  exact if_neg hne

theorem stepMove_ends {u : State} (hq : toward p m.target 1 = q) (hend : q = m.target)
    (hu : moveEndActions g (s.setGauge g ((s.gauge g).ended q)) = u) :
    stepMove g p m s = u.setGauge g (u.gauge g).follow := by
  subst hq hu
  refine (if_pos hend).trans ?_
  simp only [putStaged_eq, Gauge.ended]

/-! ### The following target (R43) -/

theorem follow_none {r : Gauge} (h : r.following = none) : r.follow = r := by
  simp [Gauge.follow, h]

theorem follow_reached {r : Gauge} (h : r.following = some q) (hposition : r.position = some q) (hmove : r.move = none) :
    r.follow = { r with following := none } := by
  simp only [Gauge.follow, h]
  exact takeTarget_reached hposition hmove

theorem follow_starts {r : Gauge} {f : Nat} (h : r.following = some f) (hposition : r.position = some q)
    (hmove : r.move = none) (hf : f ≠ q) : r.follow = { r with following := none, move := some ⟨f, 2500⟩ } := by
  simp only [Gauge.follow, h]
  exact takeTarget_starts hposition hmove hf

@[simp] theorem follow_keeps (r : Gauge) : r.follow.state = r.state ∧ r.follow.parkPending = r.parkPending ∧
    r.follow.position = r.position := by
  unfold Gauge.follow
  split <;> simp

/-! ### The move-end actions, by the gauge's state -/

theorem moveEndActions_rests (h : (s.gauge g).state ∈ [GaugeState.tracking, .held, .resting, .test]) :
    moveEndActions g s = s := by
  unfold moveEndActions
  dsimp only
  split <;> simp_all

theorem moveEndActions_parks (h : (s.gauge g).state = .parking) : moveEndActions g s = arrivePark g s := by
  simp only [moveEndActions, h]

/-- The first move of a sweep has ended: the second one begins (R50). -/
theorem moveEndActions_turns (h : (s.gauge g).state = .sweeping) (hback : (s.gauge g).sweepBack = false) :
    moveEndActions g s = s.setGauge g
      (Gauge.takeTarget (s.gaugeConfig g).calibration.minPos { s.gauge g with sweepBack := true }) := by
  simp [moveEndActions, h, hback]

/-- The second move of a sweep has ended (R50). -/
theorem moveEndActions_sweepEnds (h : (s.gauge g).state = .sweeping) (hback : (s.gauge g).sweepBack = true) :
    moveEndActions g s = parkOr g (enterTracking g) s := by
  simp only [moveEndActions, h, hback, if_true]

/-- A sweep or a homing that ends with a park pending, or in PARKING, ends in a park (R48, R50). -/
theorem parkOr_parks {otherwise : State → State} (h : (s.gauge g).parkPending = true ∨ s.psc.state = .parking) :
    ((parkOr g otherwise s).gauge g).state ∈ [GaugeState.parking, .parked] ∧
    ((parkOr g otherwise s).gauge g).parkPending = false ∧
    ((parkOr g otherwise s).gauge g).position = (s.gauge g).position ∧
    ((parkOr g otherwise s).gauge g).homing = (s.gauge g).homing := by
  have hpark := enterParking_state g (s.setGauge g { s.gauge g with parkPending := false })
  rw [parkOr, if_pos h]
  simpa using hpark

theorem parkOr_otherwise {otherwise : State → State} (hpending : (s.gauge g).parkPending = false)
    (hparking : s.psc.state ≠ .parking) : parkOr g otherwise s = otherwise s :=
  if_neg (by simp [hpending, hparking])

/-! ### The end of a move, by the gauge's state -/

/-- A gauge that its state gives nothing to do, or that parks at another position, takes its following target. -/
theorem stepMove_rests (hq : toward p m.target 1 = q) (hend : q = m.target)
    (h : (s.gauge g).state ∈ [GaugeState.tracking, .held, .resting, .test] ∨
      ((s.gauge g).state = .parking ∧ q ≠ (s.gauge g).restTaken)) :
    stepMove g p m s = s.setGauge g ((s.gauge g).ended q).follow := by
  have hactions : moveEndActions g (s.setGauge g ((s.gauge g).ended q)) = s.setGauge g ((s.gauge g).ended q) := by
    rcases h with h | ⟨hparking, hrest⟩
    · exact moveEndActions_rests (by simpa [Gauge.ended] using h)
    · rw [moveEndActions_parks (by simpa [Gauge.ended] using hparking)]
      exact arrivePark_rests fun _ => by simpa [Gauge.ended] using hrest
  rw [stepMove_ends hq hend hactions]
  simp

/-- A gauge that is PARKED at the end of its move, before it takes a following target (R55). -/
def Gauge.endedParked (q : Nat) (r : Gauge) : Gauge := { r.ended q with state := .parked }

/-- The park of a gauge at the end of its move, with its report (R55). -/
def State.parkedAt (s : State) (g : Fin 6) (q : Nat) : State :=
  hand .gaugeParked g.val q (s.setGauge g ((s.gauge g).endedParked q))

/-- What is PARKED at the end of its move, with the target that it takes next. -/
def State.parkedTo (s : State) (g : Fin 6) (q : Nat) (next : Gauge) : State := (s.parkedAt g q).setGauge g next

theorem stepMove_parks (hq : toward p m.target 1 = q) (hend : q = m.target) (hparking : (s.gauge g).state = .parking)
    (hrest : q = (s.gauge g).restTaken) :
    stepMove g p m s = s.parkedTo g q ((s.gauge g).endedParked q).follow := by
  have hactions : moveEndActions g (s.setGauge g ((s.gauge g).ended q)) = s.parkedAt g q := by
    rw [moveEndActions_parks (by simpa [Gauge.ended] using hparking), arrivePark_arrives] <;>
      simp [Gauge.ended, State.parkedAt, Gauge.endedParked, hparking, ← hrest]
  rw [stepMove_ends hq hend hactions]
  simp [State.parkedTo, State.parkedAt]

/-! ### The judgement after a park at the end of a move (R61, R64, R166) -/

section
variable {next : Gauge}

@[simp] theorem parkedTo_gauge : (s.parkedTo g q next).gauge g = next := by simp [State.parkedTo]

@[simp] theorem parkedTo_psc : (s.parkedTo g q next).psc = s.psc := by simp [State.parkedTo, State.parkedAt]

theorem parkedTo_judged (hs : s.settled) (hparking : (s.gauge g).state = .parking) :
    judgePower (s.parkedTo g q next) =
      if s.psc.state = .parking ∧ (s.parkedTo g q next).gaugesParked = true then enterSleep (s.parkedTo g q next)
      else s.parkedTo g q next :=
  judgePower_parked (g := g) hs parkedTo_psc
    (fun x hx => by simp [State.parkedTo, State.parkedAt, hx]) hparking

/-- GAUGE PARKED is handed on first. -/
theorem parkedTo_first : ReportedFirst .gaugeParked g.val q s (judgePower (s.parkedTo g q next)) :=
  (hand_setGauge_first _ _ _ g ((s.gauge g).endedParked q) s).before
    (List.IsPrefix.trans (by simp [State.parkedTo, State.parkedAt]) (judgePower_queue (s.parkedTo g q next)))

/-- The entry to SLEEP that the park makes due hands on its POWER STATE. -/
theorem parkedTo_sleeps (hs : s.settled) (hparking : (s.gauge g).state = .parking) (hpower : s.psc.state = .parking)
    (hparked : (judgePower (s.parkedTo g q next)).gaugesParked = true) :
    Reported .powerState .stop 0 0x0703 s (judgePower (s.parkedTo g q next)) := by
  have hdue : (s.parkedTo g q next).gaugesParked = true := judgePower_gaugesParked _ ▸ hparked
  rw [parkedTo_judged hs hparking, if_pos ⟨hpower, hdue⟩]
  obtain ⟨hfirst, hgrows, -⟩ := enterSleep_spec (s.parkedTo g q next)
  have hgrown : s.lp.queue <+: (s.parkedTo g q next).lp.queue := by
    simpa [State.parkedTo, State.parkedAt] using
      hand_queue .gaugeParked g.val q (s.setGauge g ((s.gauge g).endedParked q))
  exact (hfirst.reported (enterSleep_clock _) hgrows).widen hgrown (by simp [State.parkedTo, State.parkedAt]) rfl
    List.prefix_rfl

theorem parkedTo_power (hs : s.settled) (hparking : (s.gauge g).state = .parking) :
    (judgePower (s.parkedTo g q next)).psc.state =
      if s.psc.state = .parking ∧ (judgePower (s.parkedTo g q next)).gaugesParked = true then .sleep
      else s.psc.state := by
  rw [judgePower_gaugesParked, parkedTo_judged hs hparking]
  split
  · exact enterSleep_state _
  · rw [parkedTo_psc]

end

/-! ### The end of a sweep (R50, R164) -/

/-- A gauge that tracks after its sweep. -/
def State.swept (s : State) (g : Fin 6) (q : Nat) : State := s.setGauge g ((s.gauge g).ended q).track

theorem swept_power (hpower : s.psc.state ≠ .parking) : (judgePower (s.swept g q)).psc.state =
    (if s.psc.state = .proving ∧ s.psc.proof = .expired ∧ (judgePower (s.swept g q)).gaugesReady = true then .run
      else s.psc.state) ∧
    (s.psc.state = .proving → s.psc.proof = .expired → (judgePower (s.swept g q)).gaugesReady = true →
      ReportedFirst .powerState 2 0x0401 s (judgePower (s.swept g q))) := by
  have hpsc : (s.swept g q).psc = s.psc := by simp [State.swept]
  rw [judgePower_gaugesReady, judgePower_finishes (hpsc ▸ hpower), hpsc]
  refine ⟨?_, fun hproving hexpired hready => ?_⟩
  · split
    · exact finishProof_state _
    · rw [hpsc]
  · rw [if_pos ⟨hproving, hexpired, hready⟩]
    exact (finishProof_first _).1.of_same (by simp [State.swept]) (by simp [State.swept]) (by simp [State.swept])

theorem stepMove_sweepEnds (hq : toward p m.target 1 = q) (hend : q = m.target) (h : (s.gauge g).state = .sweeping)
    (hback : (s.gauge g).sweepBack = true) (hfollowing : (s.gauge g).following = none) :
    ((s.gauge g).parkPending = false → s.psc.state ≠ .parking → stepMove g p m s = s.swept g q) ∧
    ((s.gauge g).parkPending = true ∨ s.psc.state = .parking →
      ((stepMove g p m s).gauge g).state ∈ [GaugeState.parking, .parked] ∧
      ((stepMove g p m s).gauge g).parkPending = false) := by
  have hstep := stepMove_ends (g := g) (s := s) hq hend
    (moveEndActions_sweepEnds (by simpa [Gauge.ended] using h) (by simpa [Gauge.ended] using hback))
  refine ⟨fun hpending hpower => ?_, fun hpark => ?_⟩
  · rw [hstep, parkOr_otherwise (by simpa [Gauge.ended] using hpending) (by simpa using hpower), follow_none]
    · simp [enterTracking, State.swept]
    · simp [enterTracking, Gauge.track, Gauge.ended, hfollowing]
  · obtain ⟨hstate, hmark, -⟩ := parkOr_parks (g := g) (s := s.setGauge g ((s.gauge g).ended q))
      (otherwise := enterTracking g) (by simpa [Gauge.ended] using hpark)
    simpa [hstep] using And.intro hstate hmark

end

/-- Settles O34, by whether the move ends and the gauge's state. -/
theorem moveStepsAndEnds : Obligations.MoveStepsAndEnds := by
  intro g s p q m r hpowered hs hr hposition hmove hne hq
  subst hr
  have hstep : toward p m.target 1 = q := hq.symm
  rw [gaugeStep_exec hpowered hposition hmove]
  refine ⟨fun hgoes => ?_, fun hend h => ?_, fun hend hparking hfollowing hrest => ?_,
    fun f hend hparking hfollowing hf hrest => ?_, fun hend hsweeping hback hfollowing hleast => ?_,
    fun hend hsweeping hback hfollowing => ⟨_, rfl, fun hpending hpower => ?_, fun hpark => ?_⟩⟩
  · have hdistance : distance q m.target = if q < m.target then m.target - q else q - m.target := by
      unfold distance
      split <;> split <;> omega
    rw [stepMove_goesOn hstep hgoes, hdistance]
    exact congrArg _ (judgePower_setGauge hs rfl)
  · rw [stepMove_rests hstep hend h, judgePower_setGauge hs (by simp [Gauge.ended])]
    cases hfollowing : (s.gauge g).following with
    | none => simp [follow_none, Gauge.ended, hfollowing]
    | some f =>
      by_cases hf : f = q
      · rw [follow_reached (q := q)] <;> simp [Gauge.ended, hfollowing, hf]
      · rw [follow_starts (q := q) (f := f)] <;> simp [Gauge.ended, hfollowing, hf]
  · rw [stepMove_parks hstep hend hparking hrest, follow_none (r := (s.gauge g).endedParked q) hfollowing]
    obtain ⟨kstate, -, kposition, -⟩ := judgePower_gauge_keeps (s.parkedTo g q ((s.gauge g).endedParked q)) g
    rw [parkedTo_gauge] at kstate kposition
    exact ⟨_, rfl, kstate, kposition, judgePower_gauge_rest.1 (by rw [parkedTo_gauge]; rfl),
      parkedTo_power hs hparking, parkedTo_sleeps hs hparking,
      fun hroute hroom => parkedTo_first.mem (urgent := false) hroute hroom⟩
  · have htakes : ((s.gauge g).endedParked q).follow =
        { (s.gauge g).endedParked q with following := none, move := some ⟨f, 2500⟩ } :=
      follow_starts (q := q) hfollowing rfl rfl hf
    rw [stepMove_parks hstep hend hparking hrest]
    obtain ⟨next, hnext⟩ : ∃ next, next = ((s.gauge g).endedParked q).follow := ⟨_, rfl⟩
    rw [← hnext] at htakes ⊢
    have hgauge := judgePower_gauge_eq (s.parkedTo g q next) g
    obtain ⟨kstate, -, kposition, -⟩ := judgePower_gauge_keeps (s.parkedTo g q next) g
    rw [parkedTo_gauge] at hgauge kstate kposition
    rw [parkedTo_psc] at hgauge
    refine ⟨_, rfl, kstate.trans (by rw [htakes]; rfl), kposition.trans (by rw [htakes]; rfl),
      judgePower_gauge_rest.2 (by rw [parkedTo_gauge, htakes]), fun hpower => ?_, fun hsleep hpower => ?_⟩
    · rw [judgePower_gauge_same (by simpa using hpower), parkedTo_gauge, htakes]
    · rw [hgauge, if_pos ⟨hsleep, by simp [hpower]⟩]
  · have hturns := moveEndActions_turns (g := g) (s := s.setGauge g ((s.gauge g).ended q))
      (by simpa [Gauge.ended] using hsweeping) (by simpa [Gauge.ended] using hback)
    rw [takeTarget_starts (p := q) (by simp [Gauge.ended]) (by simp [Gauge.ended])
      (by simpa using hleast.symm)] at hturns
    rw [stepMove_ends hstep hend hturns, follow_none (by simp [Gauge.ended, hfollowing])]
    simp only [State.setGauge_setGauge, State.setGauge_gauge, if_true]
    rw [judgePower_setGauge hs (by simp [Gauge.ended])]
    simp [Gauge.ended]
  · rw [(stepMove_sweepEnds hstep hend hsweeping hback hfollowing).1 hpending hpower]
    refine ⟨?_, swept_power hpower⟩
    rw [judgePower_gauge_same (by simpa [State.swept] using hpower)]
    simp [State.swept, Gauge.track, Gauge.ended]
  · obtain ⟨kstate, -, -, -, kpending, -⟩ := judgePower_gauge_keeps (stepMove g p m s) g
    rw [kstate, kpending]
    exact (stepMove_sweepEnds hstep hend hsweeping hback hfollowing).2 hpark

end Sys2Proof.Machine
end

section
/-! PROOFS. O35: the step timer of a homing (R46 to R48): the search phase and its three ends, the final phase, and the state
that the completed homing leads to. -/
namespace Sys2Proof.Machine

section
variable {g : Fin 6} {s : State} {h : Homing} {stall : Bool}

theorem homingStep_exec (hpowered : s.powered = true) (hhoming : (s.gauge g).homing = some h) :
    exec (.homingStep g stall) s = .next (judgePower (stepHoming g h stall s)) := by
  have harm : exec (.homingStep g stall) s = execHomingStep g stall s := rfl
  rw [harm, execHomingStep, event_powered _ _ hpowered]
  simp only [hhoming]

/-! ### The completion (R48) -/

/-- A gauge whose homing is over, with its staged profile put in force (R45, R48). -/
def Gauge.homed (r : Gauge) : Gauge :=
  { r with homing := none, profile := r.staged.getD r.profile, staged := none }

/-- The state that a completed homing chooses for its gauge from, with GAUGE HOMED handed on (R48). -/
def State.homedAt (s : State) (g : Fin 6) (h : Homing) : State := handHomed g h (s.setGauge g (s.gauge g).homed)

@[simp] theorem homedAt_gauge : (s.homedAt g h).gauge g = (s.gauge g).homed := by
  rw [State.homedAt, State.gauge_of _ _ (handHomed_frame g h _).2.2.2.2.2.2.2.1]
  simp

@[simp] theorem homed_parkPending (r : Gauge) : r.homed.parkPending = r.parkPending := rfl

@[simp] theorem homedAt_psc : (s.homedAt g h).psc = s.psc := by simp [State.homedAt]

@[simp] theorem homedAt_config : (s.homedAt g h).gaugeConfig g = s.gaugeConfig g := by
  simp [State.homedAt, State.gaugeConfig]

/-- What a gauge goes on to when no park is to be made (R48). -/
def sweepOrTrack (g : Fin 6) (s : State) : State :=
  if s.psc.state = .proving ∧ (s.gaugeConfig g).sweepAtProof = true then enterSweeping g s else enterTracking g s

theorem completeHoming_eq : completeHoming g h s = parkOr g (sweepOrTrack g) (s.homedAt g h) := by
  simp only [completeHoming, putStaged_eq]
  rfl

theorem sweepOrTrack_keeps : ((sweepOrTrack g s).gauge g).position = (s.gauge g).position ∧
    ((sweepOrTrack g s).gauge g).homing = (s.gauge g).homing := by
  unfold sweepOrTrack
  split
  · rw [enterSweeping_gauge]
    split <;> simp
  · simp [enterTracking, Gauge.track]

theorem sweepOrTrack_sweeps (hproving : s.psc.state = .proving) (hsweep : (s.gaugeConfig g).sweepAtProof = true) :
    ((sweepOrTrack g s).gauge g).state = .sweeping := by
  rw [sweepOrTrack, if_pos ⟨hproving, hsweep⟩, enterSweeping_gauge]
  split <;> simp

theorem sweepOrTrack_tracks (h : s.psc.state ≠ .proving ∨ (s.gaugeConfig g).sweepAtProof = false) :
    (sweepOrTrack g s).gauge g = (s.gauge g).track := by
  rw [sweepOrTrack, if_neg (by rcases h with h | h <;> simp [h])]
  simp [enterTracking]

/-- What a completed homing makes of its gauge (R48). -/
structure Homed (s : State) (g : Fin 6) (t : State) : Prop where
  homing : (t.gauge g).homing = none
  position : (t.gauge g).position = (s.gauge g).position
  parks : (s.gauge g).parkPending = true ∨ s.psc.state = .parking →
    (t.gauge g).state ∈ [GaugeState.parking, .parked] ∧ (t.gauge g).parkPending = false
  sweeps : (s.gauge g).parkPending = false → s.psc.state = .proving → (s.gaugeConfig g).sweepAtProof = true →
    (t.gauge g).state = .sweeping
  tracks : (s.gauge g).parkPending = false → s.psc.state ≠ .parking →
    s.psc.state ≠ .proving ∨ (s.gaugeConfig g).sweepAtProof = false →
    (t.gauge g).state = .tracking ∧ (t.gauge g).history = []

theorem completeHoming_homed : Homed s g (completeHoming g h s) := by
  rw [completeHoming_eq]
  by_cases hpark : (s.gauge g).parkPending = true ∨ s.psc.state = .parking
  · obtain ⟨hstate, hmark, hposition, hhoming⟩ := parkOr_parks (g := g) (s := s.homedAt g h)
      (otherwise := sweepOrTrack g) (by simpa using hpark)
    refine ⟨by simp [hhoming, Gauge.homed], by simp [hposition, Gauge.homed], fun _ => ⟨hstate, hmark⟩,
      fun hclear hproving => ?_, fun hclear hparking => ?_⟩
    · simp [hclear, hproving] at hpark
    · simp [hclear, hparking] at hpark
  · obtain ⟨hclear, hparking⟩ : (s.gauge g).parkPending = false ∧ s.psc.state ≠ .parking := by simpa using hpark
    rw [parkOr_otherwise (by simpa using hclear) (by simpa using hparking)]
    obtain ⟨hposition, hhoming⟩ := sweepOrTrack_keeps (g := g) (s := s.homedAt g h)
    refine ⟨by simp [hhoming, Gauge.homed], by simp [hposition, Gauge.homed], fun k => absurd k hpark,
      fun _ hproving hsweep => ?_, fun _ _ hrun => ?_⟩
    · exact sweepOrTrack_sweeps (by simpa using hproving) (by simpa using hsweep)
    · simp [sweepOrTrack_tracks (g := g) (s := s.homedAt g h) (by simpa using hrun), Gauge.track]

/-- The judgement changes nothing of what a completed homing makes of its gauge. -/
theorem Homed.judged {t : State} (h : Homed s g t) : Homed s g (judgePower t) := by
  obtain ⟨kstate, -, kposition, khoming, kpending, -, -, khistory⟩ := judgePower_gauge_keeps t g
  constructor <;> simp only [kstate, kposition, khoming, kpending, khistory]
  · exact h.homing
  · exact h.position
  · exact h.parks
  · exact h.sweeps
  · exact h.tracks

theorem parkOr_link {otherwise : State → State} (h : LinkGrows s (otherwise s)) : LinkGrows s (parkOr g otherwise s) := by
  unfold parkOr
  split
  · exact LinkGrows.trans (.of_lp (by simp)) (arrivePark_link g (State.setGauge _ g _))
  · exact h

theorem completeHoming_first : ReportedFirst .gaugeHomed g.val (h.used % 8192 + (if h.mode = .blind then 32768 else 0)) s
    (completeHoming g h s) := by
  have hgrows : LinkGrows (s.homedAt g h) (parkOr g (sweepOrTrack g) (s.homedAt g h)) :=
    parkOr_link (.of_lp (by unfold sweepOrTrack; split <;> simp))
  rw [completeHoming_eq]
  exact (hand_setGauge_first _ _ _ g (s.gauge g).homed s).before hgrows.1

/-! ### The search phase (R46, R47) -/

/-- The search ends: the stall input in STALL mode, the end of the travel in BLIND mode. -/
def Homing.found (h : Homing) (stall : Bool) : Prop :=
  (h.mode = .stall ∧ stall = true) ∨ (h.mode = .blind ∧ h.travel ≤ h.used + 1)

theorem stepHoming_searches (hfinal : h.final = false) : stepHoming g h stall s = searchStep g h stall s := by
  simp only [stepHoming, hfinal]

theorem searchStep_goesOn (hshort : h.used + 1 < h.travel) (hunstalled : h.mode = .blind ∨ stall = false) :
    searchStep g h stall s = s.setGauge g { s.gauge g with homing := some { h with used := h.used + 1 } } := by
  have hstall : ¬(h.mode = .stall ∧ stall = true) := by
    rcases hunstalled with k | k <;> simp [k]
  rw [searchStep]
  simp only [if_neg hstall, if_neg (Nat.not_le.mpr hshort)]

theorem searchStep_faults (hmode : h.mode = .stall) (hunstalled : stall = false) (hlong : h.travel ≤ h.used + 1) :
    searchStep g h stall s = enterFault g .noStop s := by
  simp [searchStep, hmode, hunstalled, hlong]

theorem searchStep_ends (hfound : h.found stall) :
    searchStep g h stall s = endSearch g { h with used := h.used + 1 } s := by
  rcases hfound with ⟨hmode, hstall⟩ | ⟨hmode, hlong⟩
  · simp [searchStep, hmode, hstall]
  · simp [searchStep, hmode, hlong]

/-- A gauge at the end of its search, on position 0 (R46, R47). -/
def Gauge.stopFound (h : Homing) (r : Gauge) : Gauge :=
  { r with
    position := some 0, homing := some { h with used := h.used + 1, final := true }
    profile := r.staged.getD r.profile, staged := none }

theorem endSearch_eq : endSearch g { h with used := h.used + 1 } s =
    if (s.gaugeConfig g).calibration.minPos = 0 then
      completeHoming g { h with used := h.used + 1 } (s.setGauge g ((s.gauge g).stopFound h))
    else s.setGauge g ((s.gauge g).stopFound h) := by
  simp only [endSearch, putStaged_eq]
  rfl

/-- The gauge of a NO STOP: stopped, with its position unknown and its staged profile put in force (R46). -/
theorem enterFault_gauge (detail : GaugeFaultDetail) : (enterFault g detail s).gauge g = { s.gauge g with
    state := .fault, faultDetail := some detail, position := none, move := none, following := none, parkPending := false
    homing := none, profile := (s.gauge g).staged.getD (s.gauge g).profile, staged := none } := by
  simp [enterFault, putStaged_eq]

/-! ### The final phase (R48) -/

theorem stepHoming_final {p : Nat} (hfinal : h.final = true) (hposition : (s.gauge g).position = some p) :
    stepHoming g h stall s = finalStep g h p s := by
  simp only [stepHoming, hfinal, hposition]

theorem finalStep_eq (p : Nat) : finalStep g h p s =
    if (s.gaugeConfig g).calibration.minPos ≤ p + 1 then
      completeHoming g h (s.setGauge g { s.gauge g with position := some (p + 1) })
    else s.setGauge g { s.gauge g with position := some (p + 1) } := rfl

/-- The step that completes a homing: the last one of the final phase, or the end of a search with nothing left to run. -/
theorem stepHoming_completes {p used least : Nat} (hleast : least = (s.gaugeConfig g).calibration.minPos)
    (hlast : (h.final = true ∧ (s.gauge g).position = some p ∧ least = p + 1 ∧ used = h.used) ∨
      (h.final = false ∧ h.found stall ∧ least = 0 ∧ used = h.used + 1)) :
    ∃ r, r.parkPending = (s.gauge g).parkPending ∧ r.position = some least ∧
      stepHoming g h stall s = completeHoming g { h with used := used } (s.setGauge g r) := by
  rcases hlast with ⟨hfinal, hposition, rfl, rfl⟩ | ⟨hfinal, hfound, rfl, rfl⟩
  · exact ⟨{ s.gauge g with position := some (p + 1) }, rfl, rfl, by
      rw [stepHoming_final hfinal hposition, finalStep_eq, if_pos (Nat.le_of_eq hleast.symm)]⟩
  · exact ⟨(s.gauge g).stopFound h, rfl, rfl, by
      rw [stepHoming_searches hfinal, searchStep_ends hfound, endSearch_eq, if_pos hleast.symm]⟩

end

/-- Settles O35, by the phase of the homing and what ends it. -/
theorem homingSearchesAndCompletes : Obligations.HomingSearchesAndCompletes := by
  intro g stall s h r least hpowered hs hr hhoming hleast
  subst hr
  rw [homingStep_exec hpowered hhoming]
  refine ⟨fun hfinal hshort hunstalled => ?_, fun hfinal hmode hunstalled hlong => ?_, fun hfinal hfound hneeds => ?_,
    fun p hfinal hposition hshort => ?_, fun p used hlast => ?_⟩
  · rw [stepHoming_searches hfinal, searchStep_goesOn hshort hunstalled]
    exact congrArg _ (judgePower_setGauge hs rfl)
  · rw [stepHoming_searches hfinal, searchStep_faults hmode hunstalled hlong]
    obtain ⟨kstate, kdetail, kposition, khoming, kpending, kprofile, kstaged, -⟩ :=
      judgePower_gauge_keeps (enterFault g .noStop s) g
    simp only [enterFault_gauge] at kstate kdetail kposition khoming kpending kprofile kstaged
    exact ⟨_, rfl, kstate, kdetail, kposition, judgePower_gauge_rest.1 (by rw [enterFault_gauge]), khoming, kpending,
      kprofile, kstaged⟩
  · rw [stepHoming_searches hfinal, searchStep_ends hfound, endSearch_eq, if_neg (hleast ▸ hneeds)]
    exact congrArg _ (judgePower_setGauge hs rfl)
  · rw [stepHoming_final hfinal hposition, finalStep_eq, if_neg (by omega)]
    exact congrArg _ (judgePower_setGauge hs rfl)
  · obtain ⟨last, hpending, hposition, hstep⟩ := stepHoming_completes hleast hlast
    rw [hstep]
    have hhomed : Homed (s.setGauge g last) g _ := (completeHoming_homed (h := { h with used := used })).judged
    have hreport := (completeHoming_first (g := g) (h := { h with used := used }) (s := s.setGauge g last)).before
      (judgePower_queue _)
    refine ⟨_, rfl, hhomed.homing, hhomed.position.trans (by simpa using hposition), ?_, ?_, ?_, fun hroute hroom => ?_⟩
    · simpa [hpending] using hhomed.parks
    · simpa [hpending] using hhomed.sweeps
    · simpa [hpending] using hhomed.tracks
    · simpa using hreport.mem (urgent := false) hroute hroom

end Sys2Proof.Machine
end

section
/-! PROOFS. O36: the gauge update by the gauge's state and its source (R51 to R53, R55, R64), and the coil-open input (R58). -/
namespace Sys2Proof.Machine

/-! ### What an update makes of a gauge record (R51 to R53) -/

section
variable {c : GaugeSettings} {r : Gauge} {v : Int} {source : Option Int}

theorem updated_elsewhere (h : r.state ∈ [GaugeState.unhomed, .homing, .sweeping, .test, .fault]) :
    r.updated c source = r := by
  unfold Gauge.updated
  split <;> simp_all

theorem follows_state (returning : Bool) : (r.follows c v returning).state = r.state := by
  unfold Gauge.follows
  dsimp only
  (repeat' split) <;> simp

theorem halt_state : r.halt.state = r.state := by
  unfold Gauge.halt
  split <;> rfl

theorem loseSource_state : (r.loseSource c).state ∈ [GaugeState.held, .resting] := by
  unfold Gauge.loseSource
  split <;> simp [halt_state]

theorem retarget_keeps (rest : Nat) :
    (r.retarget rest).state = r.state ∧ (r.retarget rest).position = r.position ∧
    (r.retarget rest).restTaken = r.restTaken := by
  unfold Gauge.retarget
  (repeat' split) <;> simp

/-- The three states between which an update moves a gauge (R51, R53). -/
theorem updated_state (h : r.state ∈ [GaugeState.tracking, .held, .resting]) :
    (r.updated c source).state ∈ [GaugeState.tracking, .held, .resting] := by
  have hlost : (r.loseSource c).state ∈ [GaugeState.tracking, .held, .resting] := List.mem_cons_of_mem _ loseSource_state
  simp only [List.mem_cons, List.not_mem_nil, or_false] at h
  rcases h with h | h | h <;> cases source with
  | some v => simp [Gauge.updated, h, follows_state, Gauge.track]
  | none => cases haction : c.invalid <;> simp_all [Gauge.updated, retarget_keeps]

/-- The history that a value is damped in: the gauge's own in TRACKING, an empty one at the return to it (R52). -/
def Gauge.damps (c : GaugeSettings) (v : Int) (r : Gauge) : List Nat :=
  joinHistory c.damping (c.calibration.map v) (if r.state = .tracking then r.history else [])

theorem distance_le_iff (a b n : Nat) : distance a b ≤ n ↔ a ≤ b + n ∧ b ≤ a + n := by
  unfold distance
  split <;> omega

/-- A TRACKING gauge at rest within the deadband stays (R52). -/
theorem updated_within {p : Nat} (h : r.state = .tracking) (hposition : r.position = some p) (hmove : r.move = none)
    (hnear : distance p (dampedPosition (r.damps c v)) ≤ c.deadband) :
    r.updated c (some v) = { r with history := r.damps c v } := by
  unfold Gauge.damps at hnear ⊢
  rw [if_pos h] at hnear ⊢
  simp only [Gauge.updated, h, Gauge.follows, hposition, hmove, hnear, true_and, if_true]

/-- What the deadband does not hold back takes the damped position as a new target (R52). -/
theorem follows_targets {returning : Bool} {history : List Nat}
    (hhistory : history = joinHistory c.damping (c.calibration.map v) r.history)
    (hfree : returning = true ∨ r.move ≠ none ∨
      ∀ p, r.position = some p → ¬distance p (dampedPosition history) ≤ c.deadband) :
    r.follows c v returning = Gauge.takeTarget (dampedPosition history) { r with history := history } := by
  subst hhistory
  simp only [Gauge.follows]
  split
  · next p hposition hmove =>
    refine if_neg fun ⟨hnear, hstays⟩ => ?_
    rcases hfree with hreturns | hmoves | hfar
    · simp [hreturns] at hstays
    · exact hmoves hmove
    · exact hfar p hposition hnear
  · rfl

/-- Any other gauge with a value takes the damped position as a new target (R52, R53). -/
theorem updated_follows (h : r.state ∈ [GaugeState.tracking, .held, .resting])
    (hfree : r.state ≠ .tracking ∨ r.move ≠ none ∨
      ∀ p, r.position = some p → ¬distance p (dampedPosition (r.damps c v)) ≤ c.deadband) :
    r.updated c (some v) =
      Gauge.takeTarget (dampedPosition (r.damps c v)) { r with state := .tracking, history := r.damps c v } := by
  by_cases htracking : r.state = .tracking
  · have hself : ({ r with state := .tracking, history := r.damps c v } : Gauge) = { r with history := r.damps c v } := by
      simp [htracking]
    rw [hself, ← follows_targets (v := v) (returning := false) (by simp [Gauge.damps, htracking])
      (.inr (hfree.resolve_left (not_not.mpr htracking)))]
    simp only [Gauge.updated, htracking]
  · have hreturns : r.updated c (some v) = r.track.follows c v true := by
      simp only [List.mem_cons, List.not_mem_nil, or_false, htracking, false_or] at h
      rcases h with h | h <;> simp only [Gauge.updated, h]
    rw [hreturns, follows_targets (history := r.damps c v) (by simp [Gauge.damps, htracking, Gauge.track]) (.inl rfl)]
    rfl

/-- A source lost with the action HOLD brings the needle to a halt (R53). -/
theorem updated_holds (h : r.state ∈ [GaugeState.tracking, .resting]) (haction : c.invalid = .hold) :
    r.updated c none = Gauge.halt { r with state := .held } := by
  simp only [List.mem_cons, List.not_mem_nil, or_false] at h
  rcases h with h | h <;> simp only [Gauge.updated, h, Gauge.loseSource, haction]

/-- A source lost with the action PARK sends the needle to the rest position (R53). -/
theorem updated_rests (h : r.state ∈ [GaugeState.tracking, .held]) (haction : c.invalid = .park) :
    r.updated c none = Gauge.takeTarget c.rest { r with state := .resting } := by
  simp only [List.mem_cons, List.not_mem_nil, or_false] at h
  rcases h with h | h <;> simp only [Gauge.updated, h, Gauge.loseSource, haction]

theorem updated_stays (h : r.state = .held) (haction : c.invalid = .hold) : r.updated c none = r := by
  simp only [Gauge.updated, h, haction]

theorem updated_retargets (h : r.state = .resting) (haction : c.invalid = .park) : r.updated c none = r.retarget c.rest := by
  simp only [Gauge.updated, h, haction]

theorem updated_parking (h : r.state = .parking) :
    r.updated c source = Gauge.retarget c.rest { r with restTaken := c.rest } := by
  simp only [Gauge.updated, h]

theorem retarget_eq (rest : Nat) :
    r.retarget rest = if r.move.map Move.target = some rest then r else r.takeTarget rest := by
  unfold Gauge.retarget
  cases r.move <;> simp

theorem halt_atRest (hmove : r.move = none) : r.halt = { r with following := none } := by
  simp [Gauge.halt, hmove]

theorem halt_moving {p : Nat} {m : Move} (hposition : r.position = some p) (hmove : r.move = some m) : r.halt = { r with
    following := none
    move := some ⟨if p < m.target then p + stoppingDistance r.profile.accel m.speedSq
      else p - stoppingDistance r.profile.accel m.speedSq, m.speedSq⟩ } := by
  simp only [Gauge.halt, hposition, hmove, Gauge.stopPoint, toward]

/-- A gauge that is not at rest on a position does not come to rest there by taking it as its target (R51). -/
theorem retarget_unfinished {rest : Nat} (h : r.position ≠ some rest ∨ r.move ≠ none) :
    ¬((r.retarget rest).move = none ∧ (r.retarget rest).position = some rest) := by
  rw [retarget_eq]
  split
  · next hsame =>
    rintro ⟨hmove, -⟩
    simp [hmove] at hsame
  · exact takeTarget_unfinished h

end

/-! ### The update of one gauge, and the judgement after it (R51, R55, R61) -/

section
variable {g : Fin 6} {s : State}

theorem arrivePark_other {x : Fin 6} (h : x ≠ g) : (arrivePark g s).gauge x = s.gauge x := by
  unfold arrivePark
  dsimp only
  split <;> simp [h]

theorem updateGauge_other {x : Fin 6} (h : x ≠ g) : (updateGauge g s).gauge x = s.gauge x := by
  unfold updateGauge
  dsimp only
  (repeat' split) <;> simp [h, enterParking_other, arrivePark_other]

/-- What an update makes of the record of a gauge in TRACKING, HELD or RESTING, and leaves in the other states outside
parks. -/
def State.updatedGauge (s : State) (g : Fin 6) : Gauge :=
  (s.gauge g).updated (s.gaugeConfig g) (s.validValue (s.gaugeConfig g).source)

theorem updateGauge_eq (h : (s.gauge g).state ≠ .parked) :
    updateGauge g s = arrivePark g (s.setGauge g (s.updatedGauge g)) :=
  if_neg h

/-- Outside parks an update makes no change of power state due (R51). -/
theorem updateGauge_outside_parks (hs : s.settled) (h : (s.gauge g).state ∉ [GaugeState.parking, .parked]) :
    judgePower (updateGauge g s) = s.setGauge g (s.updatedGauge g) := by
  have hkept : (s.updatedGauge g).state = (s.gauge g).state ∨
      ((s.gauge g).state ∈ [GaugeState.tracking, .held, .resting] ∧
        (s.updatedGauge g).state ∈ [GaugeState.tracking, .held, .resting]) := by
    by_cases hthree : (s.gauge g).state ∈ [GaugeState.tracking, .held, .resting]
    · exact .inr ⟨hthree, updated_state hthree⟩
    · exact .inl (congrArg Gauge.state (updated_elsewhere (by cases hg : (s.gauge g).state <;> simp_all)))
  have hparking : (s.updatedGauge g).state ≠ .parking := by
    intro hp
    simp_all
  rw [updateGauge_eq (by simp_all), arrivePark_rests (by simp [hparking])]
  refine judgePower_settled _ (settled_setGauge hs (fun _ k => ?_) fun _ k => ?_) <;>
    rcases hkept with hkept | ⟨hbefore, hafter⟩
  · rwa [hkept]
  · exact absurd k (GaugeState.not_mem_of_mem hbefore (by decide))
  · rwa [← hkept]
  · exact absurd k (GaugeState.not_mem_of_mem hafter (by decide))

/-- A PARKING gauge that is not at rest on the configured rest position goes there (R51, R64). -/
theorem updateGauge_parking (hs : s.settled) (h : (s.gauge g).state = .parking)
    (hmoves : (s.gauge g).position ≠ some (s.gaugeConfig g).rest ∨ (s.gauge g).move ≠ none) :
    judgePower (updateGauge g s) = s.setGauge g
      (Gauge.retarget (s.gaugeConfig g).rest { s.gauge g with restTaken := (s.gaugeConfig g).rest }) := by
  obtain ⟨kstate, -, krest⟩ := retarget_keeps (r := { s.gauge g with restTaken := (s.gaugeConfig g).rest })
    (s.gaugeConfig g).rest
  have hunfinished := retarget_unfinished (r := { s.gauge g with restTaken := (s.gaugeConfig g).rest }) hmoves
  rw [updateGauge_eq (by simp [h]), State.updatedGauge, updated_parking h, arrivePark_rests]
  · exact judgePower_setGauge hs kstate
  · intro _
    rw [State.setGauge_gauge, if_pos rfl, krest]
    exact hunfinished

/-- A PARKING gauge at rest on the configured rest position, with its report (R55, R64). -/
def State.arrived (s : State) (g : Fin 6) : State :=
  hand .gaugeParked g.val (s.gaugeConfig g).rest
    (s.setGauge g { s.gauge g with state := .parked, restTaken := (s.gaugeConfig g).rest })

theorem updateGauge_arrives (h : (s.gauge g).state = .parking)
    (hposition : (s.gauge g).position = some (s.gaugeConfig g).rest) (hmove : (s.gauge g).move = none) :
    updateGauge g s = s.arrived g := by
  have hstays : (Gauge.retarget (s.gaugeConfig g).rest { s.gauge g with restTaken := (s.gaugeConfig g).rest }) =
      { s.gauge g with restTaken := (s.gaugeConfig g).rest } := by
    rw [retarget_eq, if_neg (by simp [hmove])]
    exact takeTarget_reached hposition hmove
  rw [updateGauge_eq (by simp [h]), State.updatedGauge, updated_parking h, hstays, arrivePark_arrives] <;>
    simp [State.arrived, h, hposition, hmove]

theorem arrived_judged (hs : s.settled) (h : (s.gauge g).state = .parking) :
    ((judgePower (s.arrived g)).gauge g).state = .parked ∧
    ((judgePower (s.arrived g)).gauge g).position = (s.gauge g).position ∧
    Reported .gaugeParked .stop g.val (s.gaugeConfig g).rest s (judgePower (s.arrived g)) := by
  obtain ⟨kstate, -, kposition, -⟩ := judgePower_gauge_keeps (s.arrived g) g
  refine ⟨kstate.trans (by simp [State.arrived]), kposition.trans (by simp [State.arrived]), ?_⟩
  have hreported : Reported .gaugeParked .stop g.val (s.gaugeConfig g).rest s (s.arrived g) :=
    hand_reported _ _ _ s (s.setGauge g _) _ (by simp) (by simp) (by simp [State.arrived]) List.prefix_rfl
  refine hreported.widen List.prefix_rfl rfl ?_ (judgePower_queue _)
  rw [judgePower_parked (g := g) hs (by simp [State.arrived]) (fun x hx => by simp [State.arrived, hx]) h]
  split
  · exact enterSleep_clock _
  · rfl

/-- A PARKED gauge stays at the configured rest position (R51). -/
theorem updateGauge_stays (hs : s.settled) (h : (s.gauge g).state = .parked)
    (hposition : (s.gauge g).position = some (s.gaugeConfig g).rest) : judgePower (updateGauge g s) = s := by
  rw [updateGauge]
  simp only [h, hposition, if_true]
  exact judgePower_settled s hs

/-- A PARKED gauge at another position enters PARKING again (R51, R64). -/
theorem updateGauge_leaves {p : Nat} (hs : s.settled) (h : (s.gauge g).state = .parked)
    (hposition : (s.gauge g).position = some p) (hne : p ≠ (s.gaugeConfig g).rest) (hmove : (s.gauge g).move = none) :
    judgePower (updateGauge g s) = s.setGauge g { s.gauge g with
      state := .parking, following := none, move := some ⟨(s.gaugeConfig g).rest, 2500⟩
      restTaken := (s.gaugeConfig g).rest } := by
  have haway : (s.gauge g).position ≠ some (s.gaugeConfig g).rest := by simpa [hposition] using hne
  have hstarts : (s.gauge g).toPark (s.gaugeConfig g).rest = { s.gauge g with
      state := .parking, following := none, move := some ⟨(s.gaugeConfig g).rest, 2500⟩
      restTaken := (s.gaugeConfig g).rest } :=
    takeTarget_starts hposition hmove hne.symm
  rw [updateGauge]
  simp only [h, haway, if_true, if_false]
  rw [enterParking_moves (.inl haway), hstarts]
  exact judgePower_settled _ (settled_setGauge hs (by simp [h]) (by simp))

/-! ### The update timer (R51) -/

/-- The expiry of the update timer, with the timer set again. -/
def State.updating (s : State) (g : Fin 6) (due : Nat) : State := restartUpdate g due (s.reach due)

theorem gaugeUpdate_exec {due : Nat} (hpowered : s.powered = true) (hdue : (s.gauge g).updateDue = some due) :
    exec (.gaugeUpdate g) s = .next (judgePower (updateGauge g (s.updating g due))) := by
  have harm : exec (.gaugeUpdate g) s = execGaugeUpdate g s := rfl
  rw [harm, execGaugeUpdate, event_powered _ _ hpowered]
  simp only [hdue]
  rfl

theorem updating_gauge (due : Nat) (x : Fin 6) : (s.updating g due).gauge x =
    if x = g then { s.gauge g with updateDue := some (due + 20000) } else s.gauge x := by
  rw [State.updating, restartUpdate, State.setGauge_gauge]
  rfl

theorem updating_settled {due : Nat} (hs : s.settled) : (s.updating g due).settled :=
  settled_congr s _ hs (fun x => by rw [updating_gauge]; split <;> simp_all) (by simp [State.updating])

/-! ### The update by the gauge's state -/

section
variable {c : GaugeSettings} {r : Gauge}

/-- With a value, in TRACKING, HELD or RESTING (R52, R53). -/
theorem updated_damps {v : Int} (h : r.state ∈ [GaugeState.tracking, .held, .resting]) : ∃ history damped,
    history = (if r.state = .tracking then
        (r.history ++ [c.calibration.map v]).drop ((r.history ++ [c.calibration.map v]).length - c.damping)
      else [c.calibration.map v].drop (1 - c.damping)) ∧
    damped = history.sum / history.length ∧
    (∀ p, r.state = .tracking → r.position = some p → r.move = none →
      (p ≤ damped + c.deadband ∧ damped ≤ p + c.deadband) → r.updated c (some v) = { r with history := history }) ∧
    (r.state ≠ .tracking ∨ r.move ≠ none ∨ (∀ p, r.position = some p →
        ¬(p ≤ damped + c.deadband ∧ damped ≤ p + c.deadband)) →
      r.updated c (some v) = Gauge.takeTarget damped { r with state := .tracking, history := history }) := by
  simp only [← distance_le_iff]
  refine ⟨r.damps c v, dampedPosition (r.damps c v), ?_, rfl,
    fun p htracking hposition hmove hnear => updated_within htracking hposition hmove hnear, updated_follows h⟩
  unfold Gauge.damps
  split <;> rfl

/-- With its source lost, by the invalid action (R53). -/
theorem updated_lost :
    (c.invalid = .park → r.state ∈ [GaugeState.tracking, .held] →
      r.updated c none = Gauge.takeTarget c.rest { r with state := .resting }) ∧
    (c.invalid = .hold → r.state ∈ [GaugeState.tracking, .resting] →
      (r.move = none → r.updated c none = { r with state := .held, following := none }) ∧
      ∀ p m, r.position = some p → r.move = some m → r.updated c none = { r with
        state := .held, following := none
        move := some ⟨if p < m.target then p + stoppingDistance r.profile.accel m.speedSq
          else p - stoppingDistance r.profile.accel m.speedSq, m.speedSq⟩ }) ∧
    (c.invalid = .hold → r.state = .held → r.updated c none = r) ∧
    (c.invalid = .park → r.state = .resting →
      r.updated c none = if r.move.map Move.target = some c.rest then r else Gauge.takeTarget c.rest r) := by
  refine ⟨fun haction h => updated_rests h haction, fun haction h => ?_,
    fun haction h => updated_stays h haction, fun haction h => ?_⟩
  · rw [updated_holds h haction]
    exact ⟨halt_atRest (r := { r with state := .held }), fun p m => halt_moving (r := { r with state := .held })⟩
  · rw [updated_retargets h haction, retarget_eq]

end

/-! ### The coil-open input (R58) -/

theorem coilOpen_exec {active : Bool} (hpowered : s.powered = true) : exec (.coilOpen g active) s =
    .next (judgePower (watchCoil g (s.setCoilOpen (s.coilOpen.set g active)))) := by
  have harm : exec (.coilOpen g active) s = execCoilOpen g active s := rfl
  rw [harm, execCoilOpen, event_powered _ _ hpowered]

theorem watchCoil_faults (hpowered : s.powered = true) (hawake : s.psc.state ≠ .sleep) (hopen : s.coilOpen.get g = true)
    (hdriven : (s.gauge g).state ∉ [GaugeState.unhomed, .fault]) : watchCoil g s = enterFault g .coilOpen s := by
  refine if_pos ⟨?_, hopen⟩
  simp_all [State.coilsDriven, State.gauge]

theorem watchCoil_asleep (h : s.psc.state = .sleep) : watchCoil g s = s :=
  if_neg fun k => by simp [State.coilsDriven, h] at k

theorem setCoilOpen_settled {coils : Table 6 Bool} (hs : s.settled) : (s.setCoilOpen coils).settled :=
  settled_congr s _ hs (by simp) rfl

/-- A level that opens no driven coil is kept, and nothing else changes. -/
theorem coilOpen_kept {active : Bool} (hpowered : s.powered = true) (hs : s.settled)
    (hwatch : watchCoil g (s.setCoilOpen (s.coilOpen.set g active)) = s.setCoilOpen (s.coilOpen.set g active)) :
    exec (.coilOpen g active) s = .next (s.setCoilOpen (s.coilOpen.set g active)) := by
  rw [coilOpen_exec hpowered, hwatch, judgePower_settled _ (setCoilOpen_settled hs)]

end

/-- The gauges other than the one updated, by the judgement behind the update (R61, R62). -/
theorem gaugeUpdate_other {g x : Fin 6} {s : State} (due : Nat) (h : x ≠ g) :
    (judgePower (updateGauge g (s.updating g due))).gauge x =
      if (judgePower (updateGauge g (s.updating g due))).psc.state = .sleep ∧ s.psc.state ≠ .sleep then
        { s.gauge x with updateDue := none, move := none, following := none }
      else s.gauge x := by
  have hx : (updateGauge g (s.updating g due)).gauge x = s.gauge x := by
    rw [updateGauge_other h, updating_gauge, if_neg h]
  have hpsc : (updateGauge g (s.updating g due)).psc = s.psc := by simp [State.updating]
  rw [judgePower_gauge_eq, hx, hpsc]

/-- Settles O36: the update by the gauge's state, and the coil-open input by the power state, the gauge's state and its
level. -/
theorem updateActsByStateAndCoilOpenFaults : Obligations.UpdateActsByStateAndCoilOpenFaults := by
  intro g s r c hpowered hs hc
  refine ⟨fun due value hdue hvalue hr => ?_, fun hawake hdriven => ?_, fun hidle active => ?_, ?_⟩
  · have hother := fun x (hx : x ≠ g) => gaugeUpdate_other (s := s) due hx
    obtain ⟨u, hu⟩ : ∃ u, u = s.updating g due := ⟨_, rfl⟩
    have hus : u.settled := hu ▸ updating_settled hs
    have hug : u.gauge g = r := by rw [hu, updating_gauge, if_pos rfl, hr]
    have huc : u.gaugeConfig g = c := by rw [hu, hc]; simp [State.updating, State.gaugeConfig]
    have huv : u.updatedGauge g = r.updated c value := by
      rw [State.updatedGauge, huc, hug, hvalue, hu]
      rfl
    rw [gaugeUpdate_exec hpowered hdue]
    rw [← hu] at hother ⊢
    have houtside : r.state ∉ [GaugeState.parking, .parked] →
        judgePower (updateGauge g u) = u.setGauge g (r.updated c value) := fun h => by
      rw [updateGauge_outside_parks hus (by rwa [hug]), huv]
    have hgauge : r.state ∉ [GaugeState.parking, .parked] →
        (judgePower (updateGauge g u)).gauge g = r.updated c value := fun h => by
      simp [houtside h]
    refine ⟨_, rfl, by simp [hu, State.updating, State.reach_now], hother, fun h => ?_, fun h => ?_, fun v hv h => ?_,
      fun hnone haction h => ?_, fun hnone haction h => ?_, fun hnone haction h => ?_, fun hnone haction h => ?_,
      fun h hposition => ?_, fun p h hposition hne hmove => ?_, fun p h hposition hmoves => ?_,
      fun h hposition hmove => ?_⟩
    · rw [houtside h, hu]
      exact (State.sameBut_parts _ _ _).mpr (by simp [State.updating])
    · rw [hgauge (GaugeState.not_mem_of_mem h (by decide)), updated_elsewhere h]
    · rw [hgauge (GaugeState.not_mem_of_mem h (by decide)), hv]
      exact updated_damps h
    · rw [hgauge (GaugeState.not_mem_of_mem h (by decide)), hnone]
      exact updated_lost.1 haction h
    · rw [hgauge (GaugeState.not_mem_of_mem h (by decide)), hnone]
      exact updated_lost.2.1 haction h
    · rw [hgauge (by simp [h]), hnone]
      exact updated_lost.2.2.1 haction h
    · rw [hgauge (by simp [h]), hnone]
      exact updated_lost.2.2.2 haction h
    · rw [updateGauge_stays hus (by rwa [hug]) (by rwa [hug, huc]), hug]
    · rw [updateGauge_leaves (p := p) hus (by rwa [hug]) (by rwa [hug]) (by rwa [huc]) (by rwa [hug])]
      simp [hug, huc]
    · rw [updateGauge_parking hus (by rwa [hug]) (by simpa [hug, huc, hposition] using hmoves), retarget_eq]
      simp [hug, huc]
    · rw [updateGauge_arrives (by rwa [hug]) (by rwa [hug, huc]) (by rwa [hug])]
      obtain ⟨hstate, hat, hreported⟩ := arrived_judged (g := g) hus (by rwa [hug])
      rw [hug, hposition] at hat
      rw [huc] at hreported
      exact ⟨hstate, hat, hreported.widen (by simp [hu, State.updating]) (by simp [hu, State.updating]) rfl
        List.prefix_rfl⟩
  · rw [coilOpen_exec hpowered, watchCoil_faults (by simpa using hpowered) (by simpa using hawake) (by simp)
      (by simpa using hdriven)]
    obtain ⟨u, hu⟩ : ∃ u, u = s.setCoilOpen (s.coilOpen.set g true) := ⟨_, rfl⟩
    rw [← hu]
    obtain ⟨kstate, kdetail, kposition, khoming, kpending, kprofile, kstaged, -⟩ :=
      judgePower_gauge_keeps (enterFault g .coilOpen u) g
    obtain ⟨kmove, kfollowing⟩ := judgePower_gauge_rest (s := enterFault g .coilOpen u) (g := g)
    rw [enterFault_gauge] at kstate kdetail kposition khoming kpending kprofile kstaged kmove kfollowing
    have hreport : ReportedFirst .gaugeFault g.val 1 s (judgePower (enterFault g .coilOpen u)) :=
      ((hand_setGauge_first _ _ _ g _ u).before (judgePower_queue _)).of_same (by simp [hu]) (by simp [hu]) (by simp [hu])
    exact ⟨_, rfl, by simp [hu], kstate, kdetail, kposition, kmove rfl, kfollowing rfl, khoming, kpending, kstaged,
      kprofile.trans (by simp [hu]), fun urgent hroute hroom => hreport.mem hroute hroom⟩
  · refine coilOpen_kept hpowered hs ?_
    rcases hidle with hsleep | hidle
    · exact watchCoil_asleep (by simpa using hsleep)
    · exact watchCoil_undriven (by simpa using hidle)
  · exact coilOpen_kept hpowered hs (watchCoil_closed (by simp))

end Sys2Proof.Machine
end
